-- ==== Sys2Proof/Word.lean ====
section
/-! DEFINITION. Bytes, link addresses, and the wrapping counts of the manual. -/

namespace Sys2Proof

/-- One byte of a frame. -/
abbrev Byte := BitVec 8

/-- A 6-byte link address, its first byte the most significant (R157). -/
abbrev Addr := BitVec 48

/-- Number of values of a 32-bit count, which wraps from 4,294,967,295 to 0 (R14, R154, R169). -/
abbrev mod32 : Nat := 4294967296

/-- Number of values of a 16-bit count, which wraps from 65,535 to 0 (R8, R16, R31). -/
abbrev mod16 : Nat := 65536

end Sys2Proof
end

