-- ==== Sys2Proof/Settings.lean ====
section
/-! DEFINITION. The rows of the eight settings tables (01 1.1, 03 3.1 and 3.2, 04 4.1, 05 5.1, 06 6.1, 07 7.1, 08 8.1,
09 9.4): as they are held (a checked row), and as a WRITE_ROWS request carries them (raw fields, before any check). -/

namespace Sys2Proof

/-- The two link ports, LINE-A and LINE-B. -/
inductive Port where
  | a
  | b
deriving DecidableEq, Repr

/-- The kind of an input and the unit of its samples, fixed by the input's number (R5). -/
inductive InputKind where
  | voltage
  | current
deriving DecidableEq, Repr

/-- The compensation mode of a step (R57). -/
inductive CompMode where
  | none
  | auto
  | manual
deriving DecidableEq, Repr

/-- The start mode of the Yard Table and the mode named by SET_MODE (7.1, R132). -/
inductive Mode where
  | manual
  | auto
deriving DecidableEq, Repr

/-- A row of the Stream Table (1.1). -/
structure StreamRow where
  inUse : Bool
  address : Addr
  streamNumber : Nat
  channelCount : Nat
  /-- For each channel position the measurement input it feeds, or none. -/
  map : Vector (Option (Fin 38)) 12
  /-- Loss timeout in ms. -/
  lossTimeout : Nat
  acceptSimulated : Bool
deriving DecidableEq, Repr

/-- A row of the Input Table (1.1); the kind is fixed by the row's number. -/
structure InputRow where
  nominal : Nat
deriving DecidableEq, Repr

/-- A row of the Step Table: the in-use flag (6.1), the unbalance fields (4.1), the heat and duty fields (5.1). -/
structure StepRow where
  inUse : Bool
  neutralPresent : Bool
  alarmLevel : Nat
  tripLevel : Nat
  alarmDelay : Nat
  tripDelay : Nat
  compMode : CompMode
  kr : Int
  ki : Int
  rated : Nat
  /-- Thermal constant code k. -/
  thermalCode : Nat
  heatAlarm : Nat
  heatTrip : Nat
  heatReclose : Nat
  /-- Discharge time in seconds. -/
  dischargeTime : Nat
  opsLimit : Nat
  opsBase : Nat
  /-- Decay period in minutes. -/
  decayPeriod : Nat
deriving DecidableEq, Repr

/-- A row of the Harmonic Limit Table (3.1). -/
structure HarmRow where
  supervise : Bool
  alarmLevel : Nat
  blockLevel : Nat
  pickup : Nat
  dropout : Nat
deriving DecidableEq, Repr

/-- A row of the Resonance Table: its list of harmonic orders (3.2). -/
structure ResRow where
  orders : List Nat
deriving DecidableEq, Repr

/-- The row of the Yard Table (7.1). -/
structure YardRow where
  frequency : Nat
  uLo : Nat
  uHi : Nat
  stepRise : Nat
  /-- High and low delay, settle time, restore hold and select timeout in seconds. -/
  highDelay : Nat
  lowDelay : Nat
  settleTime : Nat
  deadLevel : Nat
  /-- Dead delay in cycles. -/
  deadDelay : Nat
  restoreHold : Nat
  maxSteps : Nat
  startMode : Mode
  selectTimeout : Nat
deriving DecidableEq, Repr

/-- A row of the Breaker Unit Table (8.1); times in ms. -/
structure UnitRow where
  address : Addr
  retry : Nat
  attempts : Nat
  operateTime : Nat
  statusTimeout : Nat
deriving DecidableEq, Repr

/-- The row of the Link Table (9.4). -/
structure LinkRow where
  station : Addr
  linkType : Nat
  destination : Addr
  /-- Report period in seconds. -/
  period : Nat
  requesters : List Addr
deriving DecidableEq, Repr

/-- The eight tables as 10.1 numbers them, 1 Stream to 8 Link. -/
inductive TableId where
  | stream
  | input
  | step
  | harmonic
  | resonance
  | yard
  | unit
  | link
deriving DecidableEq, Repr

/-- One row of one of the eight tables. Harmonic row i is the row of order i + 2, and row 14 is the THD row. -/
inductive RowRef where
  | stream (i : Fin 16)
  | input (i : Fin 38)
  | step (i : Fin 8)
  | harmonic (i : Fin 15)
  | resonance (c : Fin 9)
  | yard
  | unit (i : Fin 9)
  | link
deriving DecidableEq, Repr

/-- The content of a row of any table. -/
inductive RowContent where
  | stream (r : StreamRow)
  | input (r : InputRow)
  | step (r : StepRow)
  | harmonic (r : HarmRow)
  | resonance (r : ResRow)
  | yard (r : YardRow)
  | unit (r : UnitRow)
  | link (r : LinkRow)
deriving DecidableEq, Repr

/-- A bit flip in the check-protected store (chapter 11): the row it strikes, whether two bits flip rather than one, and
the content the memory holds once the row's error can no longer be corrected (the manual does not say which bits). -/
structure Strike where
  row : RowRef
  double : Bool
  held : RowContent
deriving DecidableEq, Repr

/-! The raw rows of a WRITE_ROWS request. A number is carried as an Int, so that a value outside its range can be
written; a named value as the number its byte carries (R158). -/

/-- A Stream Table row as written. -/
structure RawStream where
  inUse : Nat
  address : Addr
  streamNumber : Int
  channelCount : Int
  map : Vector (Option Int) 12
  lossTimeout : Int
  acceptSimulated : Nat
deriving DecidableEq, Repr

/-- An Input Table row as written. -/
structure RawInput where
  nominal : Int
  kind : Nat
deriving DecidableEq, Repr

/-- A Step Table row as written. -/
structure RawStep where
  inUse : Nat
  neutralPresent : Nat
  alarmLevel : Int
  tripLevel : Int
  alarmDelay : Int
  tripDelay : Int
  compMode : Nat
  kr : Int
  ki : Int
  rated : Int
  thermalCode : Int
  heatAlarm : Int
  heatTrip : Int
  heatReclose : Int
  dischargeTime : Int
  opsLimit : Int
  opsBase : Int
  decayPeriod : Int
deriving DecidableEq, Repr

/-- A Harmonic Limit Table row as written. -/
structure RawHarm where
  supervise : Nat
  alarmLevel : Int
  blockLevel : Int
  pickup : Int
  dropout : Int
deriving DecidableEq, Repr

/-- A Resonance Table row as written. -/
structure RawRes where
  orders : List Int
deriving DecidableEq, Repr

/-- The Yard Table row as written. -/
structure RawYard where
  frequency : Int
  uLo : Int
  uHi : Int
  stepRise : Int
  highDelay : Int
  lowDelay : Int
  settleTime : Int
  deadLevel : Int
  deadDelay : Int
  restoreHold : Int
  maxSteps : Int
  startMode : Nat
  selectTimeout : Int
deriving DecidableEq, Repr

/-- A Breaker Unit Table row as written. -/
structure RawUnit where
  address : Addr
  retry : Int
  attempts : Int
  operateTime : Int
  statusTimeout : Int
deriving DecidableEq, Repr

/-- The Link Table row as written. -/
structure RawLink where
  station : Addr
  linkType : Int
  destination : Addr
  period : Int
  requesters : List Addr
deriving DecidableEq, Repr

/-- The rows of one WRITE_ROWS request, all of one table. -/
inductive RawRows where
  | stream (rows : List RawStream)
  | input (rows : List RawInput)
  | step (rows : List RawStep)
  | harmonic (rows : List RawHarm)
  | resonance (rows : List RawRes)
  | yard (rows : List RawYard)
  | unit (rows : List RawUnit)
  | link (rows : List RawLink)
deriving DecidableEq, Repr

end Sys2Proof
end

