-- ==== Sys2Proof/Syntax.lean ====
section
/-! DEFINITION. The commands of the block: one constructor of `Instr` for each row of spec/opcode_table.json, with the
operands the rules give it. A step is a `Fin 8`, a breaker unit a `Fin 9` (unit 8 is the incomer), a measurement input a
`Fin 38` (00_scope.md, Numbering). -/

namespace Sys2Proof

/-- A breaker position as a status frame or a position report carries it (R94, R135). The UNKNOWN of the live fields is
the absence of a position. -/
inductive Position where
  | opened
  | closed
  | intermediate
deriving DecidableEq, Repr

/-- ALIVE or SILENT (R136). -/
inductive Supervision where
  | alive
  | silent
deriving DecidableEq, Repr

/-- The nine step states (6.1). -/
inductive StepState where
  | withdrawn
  | unresolved
  | cooling
  | ready
  | closing
  | inService
  | opening
  | lockout
  | failed
deriving DecidableEq, Repr

/-- The causes of a state change, in the order of the cause table of 6.1 (1 RESTORE to 20 UNIT_BUSY). -/
inductive StateCause where
  | restore
  | resolved
  | intermediate
  | withdraw
  | settingsFault
  | grant
  | closeDone
  | control
  | deadLine
  | overheat
  | unbalance
  | closeFail
  | openFail
  | breakerFail
  | uncommandedOpen
  | uncommandedClose
  | discharged
  | recharge
  | lockoutReset
  | unitBusy
deriving DecidableEq, Repr

/-- OPEN or CLOSE. -/
inductive CmdKind where
  | opn
  | close
deriving DecidableEq, Repr

/-- TRIP or CONTROL. -/
inductive CmdClass where
  | trip
  | control
deriving DecidableEq, Repr

/-- The cause of a command request (8.2). -/
inductive Cause where
  | autoVoltage
  | autoDetune
  | manual
  | closeFail
  | unbalance
  | overheat
  | deadLine
  | settingsFault
  | backup
deriving DecidableEq, Repr

/-- The cause of a trip of a step, as a trip start carries it (R101). -/
inductive TripCause where
  | unbalance
  | overheat
  | deadLine
  | settingsFault
deriving DecidableEq, Repr

/-- How a command ended (R145). -/
inductive CmdOutcome where
  | done
  | unanswered
  | noMove
deriving DecidableEq, Repr

/-- The triggers of disturbance capture, numbered 1 to 4 (R172). -/
inductive TriggerKind where
  | unbalanceTrip
  | heatTrip
  | breakerFailure
  | lineDead
deriving DecidableEq, Repr

/-- The sections of READ_STATUS (10.1). -/
inductive Section where
  | yard
  | steps
  | units
  | control
  | ports
deriving DecidableEq, Repr

/-- One channel of a sample frame: its value and the two quality bits (9.5). -/
structure Channel where
  value : Int
  quality : BitVec 2
deriving DecidableEq, Repr

/-- A sample frame as a port hands it to acceptance (R149, 9.5). -/
structure SampleFrame where
  port : Port
  sender : Addr
  streamNumber : Nat
  counter : Nat
  simulated : Bool
  channels : List Channel
deriving DecidableEq, Repr

/-- A status frame as a port hands it to the command engine (R149, 9.5): the position and echoed kind as the bytes carry
them. -/
structure StatusFrame where
  port : Port
  sender : Addr
  position : Byte
  ready : Bool
  echoSeq : Byte
  echoKind : Byte
deriving DecidableEq, Repr

/-- A request to the command engine (8, opening). -/
structure CmdRequest where
  unit : Fin 9
  kind : CmdKind
  cls : CmdClass
  cause : Cause
deriving DecidableEq, Repr

/-- The report of one change of a step's state, as the step supervisor hands it to four blocks (R93): the state left, the
state entered, the cause, and whether the step held the switching slot in the state it left. -/
structure StepReport where
  step : Fin 8
  old : StepState
  new : StepState
  cause : StateCause
  slotHeld : Bool
deriving DecidableEq, Repr

/-- A UNIT_BUSY refusal of a control-class request for a step, as the command engine hands it to the step supervisor
(R138, R100); the cause is the refused request's. -/
structure BusyRefusal where
  step : Fin 8
  kind : CmdKind
  cause : Cause
deriving DecidableEq, Repr

/-- What the step supervisor passes on to switching control about the slot holder's step (R128). The cause of a refused
request tells a MANUAL operation from an AUTO one. -/
inductive SwitchResult where
  | done
  | failed
  | unitBusy (cause : Cause)
deriving DecidableEq, Repr

/-- How a CONTROL command of unit 8 ended, as the command engine hands it to switching control (R128, R138, R139). -/
inductive IncomerResult where
  | outcome (o : CmdOutcome)
  | unitBusy
  | overtaken
deriving DecidableEq, Repr

/-- Who sent a request, on which port, under which identifier (R159). -/
structure Requester where
  port : Port
  address : Addr
  identifier : Nat
deriving DecidableEq, Repr

/-- The commands, one constructor per row of spec/opcode_table.json, in the table's order. An operand that names a table,
section, buffer, mode or action is `none` where the request names one that does not exist (R160). -/
inductive Instr where
  | coldReset
  | startUp (strikes : List Strike)
  | restartReset
  | keylockChange (asserted : Bool)
  | portDown (p : Port)
  | portUp (p : Port)
  | frameReceived (p : Port) (bytes : List Byte) (checkOk : Bool)
  | transmissionEnd (p : Port)
  | sampleFrame (f : SampleFrame)
  | lossTimerExpiry (row : Fin 16)
  | computationEnd
  | ageClockTick
  | holdTimerExpiry
  | secondsClockTick
  | dischargeTimerExpiry (step : Fin 8)
  | decayTimerExpiry (step : Fin 8)
  | heatModeChange (r : StepReport)
  | positionReport (step : Fin 8) (pos : Position)
  | unitSupervisionNotice (step : Fin 8) (sup : Supervision)
  | tripStart (step : Fin 8) (cause : TripCause)
  | unitBusyRefusal (r : BusyRefusal)
  | unbalanceLockoutNotice (step : Fin 8)
  | closeOutcome (step : Fin 8) (o : CmdOutcome)
  | openOutcome (step : Fin 8) (o : CmdOutcome)
  | dischargedReport (step : Fin 8)
  | unbalanceStepReport (r : StepReport)
  | harmonicStepReport (r : StepReport)
  | controlStepReport (r : StepReport)
  | statusFrame (f : StatusFrame)
  | commandRequest (r : CmdRequest)
  | nextSendTime (unit : Fin 9)
  | operateDeadline (unit : Fin 9)
  | supervisionTimerExpiry (unit : Fin 9)
  | switchOutcome (step : Fin 8) (kind : CmdKind) (result : SwitchResult)
  | incomerOutcome (kind : CmdKind) (result : IncomerResult)
  | detuneRequest
  | highTimerExpiry
  | lowTimerExpiry
  | settleTimerExpiry
  | restoreHoldExpiry
  | selectExpiry
  | readRows (q : Requester) (table : Option TableId) (first : Nat) (count : Nat)
  | writeRows (q : Requester) (first : Nat) (rows : RawRows)
  | readResults (q : Requester) (inputs : List Nat)
  | readStatus (q : Requester) (sec : Option Section)
  | hold (q : Requester)
  | release (q : Requester)
  | select (q : Requester) (target : Nat) (action : Option CmdKind) (token : Nat)
  | operate (q : Requester) (token : Nat)
  | cancel (q : Requester)
  | withdraw (q : Requester) (step : Nat)
  | restore (q : Requester) (step : Nat)
  | resetLockout (q : Requester) (step : Nat)
  | null (q : Requester) (step : Nat)
  | setMode (q : Requester) (mode : Option Mode)
  | readEvents (q : Requester) (first : Nat)
  | ackEvents (q : Requester) (n : Nat)
  | readCapture (q : Requester) (buffer : Option (Fin 2)) (offset : Nat)
  | freeCapture (q : Requester) (buffer : Option (Fin 2))
  | store (q : Requester)
  /-- The store copies `rows` rows more (R167). `verified` is what its verification of the whole copy has found, `none`
  while it has not been made. No row of the table stands for the copy of a row, so this command has it
  (notes/assumptions/26.md). -/
  | storeCompletion (rows : Nat) (verified : Option Bool)
  | restart (q : Requester)
  | clearTableError (q : Requester)
  | scrubPass (before : List Strike) (after : List Strike)
  | reportTimerExpiry
  | changeReportDue
  | captureTrigger (kind : TriggerKind) (step : Option (Fin 8))
  | captureComplete (buffer : Fin 2)
deriving DecidableEq, Repr

end Sys2Proof
end

