-- ==== Sys2Proof/Decode.lean ====
section
/-! DEFINITION. The words of the opcode table. -/

namespace Sys2Proof

/-- No row of spec/opcode_table.json gives bits, so no word spells a command. (The bytes of request frames are read in
Sys2Proof/Machine/Operands.lean.) -/
def decodeTableWord (_nbits _w : Nat) : Option Instr := none

end Sys2Proof
end

