-- ==== Sys2Proof/Config.lean ====
section
/-! DEFINITION. The fixed figures of the part: sizes, limits and periods that no setting changes. The spec leaves no
value of the machine free, so this file holds no free value (notes/assumptions/10.md says how bit flips enter). -/

namespace Sys2Proof.Config

/-- Samples in a window (R15). -/
def windowSize : Nat := 64
/-- Entries the event list holds (R169). -/
def eventCapacity : Nat := 256
/-- Entries of one READ_EVENTS reply (R170). -/
def readEventsMax : Nat := 64
/-- Frames of a forward queue (R150). -/
def forwardCapacity : Nat := 8
/-- Frames of an origin queue (R151). -/
def originCapacity : Nat := 16
/-- Entries of the switching request queue (R123). -/
def queueCapacity : Nat := 4
/-- Hold time in ms (R35). -/
def holdTime : Nat := 2000
/-- Interval between change reports in ms (R171). -/
def changeInterval : Nat := 100
/-- Longest wait of a RESTART for its reply in ms (R164). -/
def restartWait : Nat := 100
/-- Interval of the scrubber in ms (R166). -/
def scrubInterval : Nat := 10000
/-- Capture: positions before the trigger, positions after it, and the longest recording in ms (R172, R173). -/
def captureBefore : Nat := 256
def captureAfter : Nat := 768
def captureTime : Nat := 400
/-- Positions of each channel in one READ_CAPTURE reply (R173). -/
def readCaptureMax : Nat := 32
/-- Highest heat and load figure, 4,095 squared (R77, R79). -/
def heatMax : Nat := 16769025
/-- Highest unbalance counter (R60). -/
def unbalanceMax : Nat := 3000
/-- Highest sustain count (R51). -/
def sustainMax : Nat := 600
/-- Highest dead count (R116). -/
def deadMax : Nat := 100
/-- Highest operations count (R84). -/
def operationsMax : Nat := 15
/-- GOOD results of a null capture (R69). -/
def nullResults : Nat := 32
/-- Bound of Kr and Ki in mA (R56). -/
def kMax : Nat := 100000
/-- The cosine table of 2.2, C[0] to C[16]; the symmetries of R23 give the rest. -/
def cosines : List Int :=
  [16384, 16305, 16069, 15679, 15137, 14449, 13623, 12665, 11585, 10394, 9102, 7723, 6270, 4756, 3196, 1606, 0]

end Sys2Proof.Config
end

