-- ==== Sys2Proof/Machine/Defaults.lean ====
section
/-! DEFINITION. The Default column of every settings table: the value a row takes when no valid image is loaded. -/

namespace Sys2Proof.Machine

/-- 1.1. -/
def defaultStream : StreamRow where
  inUse := false
  address := 0
  streamNumber := 0
  channelCount := 1
  map := Vector.replicate 12 none
  lossTimeout := 10
  acceptSimulated := false

/-- 1.1. -/
def defaultInput : InputRow where
  nominal := 100000

/-- 6.1, 4.1 and 5.1. -/
def defaultStep : StepRow where
  inUse := false
  neutralPresent := false
  alarmLevel := 200
  tripLevel := 500
  alarmDelay := 250
  tripDelay := 10
  compMode := .none
  kr := 0
  ki := 0
  rated := 100000
  thermalCode := 12
  heatAlarm := 1509949
  heatTrip := 1772093
  heatReclose := 786432
  dischargeTime := 300
  opsLimit := 4
  opsBase := 2
  decayPeriod := 15

/-- 3.1: the levels of the THD row (row 14) differ from those of the orders. -/
def defaultHarm (i : Fin 15) : HarmRow where
  supervise := false
  alarmLevel := if i = 14 then 800 else 500
  blockLevel := if i = 14 then 500 else 300
  pickup := 50
  dropout := 50

/-- 3.2. -/
def defaultRes : ResRow where
  orders := []

/-- 7.1. -/
def defaultYard : YardRow where
  frequency := 50
  uLo := 193000
  uHi := 205000
  stepRise := 4000
  highDelay := 30
  lowDelay := 30
  settleTime := 60
  deadLevel := 60000
  deadDelay := 6
  restoreHold := 60
  maxSteps := 8
  startMode := .manual
  selectTimeout := 30

/-- 8.1. -/
def defaultUnit : UnitRow where
  address := 0
  retry := 4
  attempts := 4
  operateTime := 100
  statusTimeout := 1000

/-- 9.4: the Default station address is 02-00-00-00-59-D8, the Default link type 0x88B5. -/
def defaultLink : LinkRow where
  station := 0x0200000059D8
  linkType := 0x88B5
  destination := 0
  period := 10
  requesters := []

end Sys2Proof.Machine
end

