-- ==== Sys2Proof/Machine/State.lean ====
section
/-! DEFINITION. The state of the part, block by block as 00_scope.md lists them, as plain data; the reasons a step can
stop; and the state after reset. Every field cites the rule that names it. -/

namespace Sys2Proof.Machine

/-! ## Items of replies and reports (R158) -/

/-- The subject of an event (R169). -/
inductive Subject where
  | none
  | step (s : Fin 8)
  | input (i : Fin 38)
  | unit (u : Fin 9)
  | row (r : RowRef)
deriving DecidableEq, Repr

/-- A value handed to capture: the value, its counter and its filled mark (R15, R172). -/
structure CapSample where
  value : Int
  counter : Nat
  filled : Bool
deriving DecidableEq, Repr

/-- One item of a reply, a report or a row, by its sort (R158). A list is a `count` followed by its items. -/
inductive Item where
  | num (n : Int)
  | optNum (n : Option Int)
  | addr (a : Addr)
  | optAddr (a : Option Addr)
  /-- A named value as its number; 255 stands for absent. -/
  | name (n : Nat)
  | count (n : Nat)
  | subject (s : Subject)
  | sample (c : Option CapSample)
deriving DecidableEq, Repr

/-! ## Yard Link Ports (09) -/

/-- What a frame of the part's own carries (9.5). -/
inductive FrameBody where
  | command (unitAddress : Addr) (kind : CmdKind) (cls : CmdClass) (sequence : Nat)
  | reply (identifier : Nat) (outcome : Nat) (clamped : Bool) (fromHold : Bool) (data : List Item)
  | report (periodic : Bool) (change : Bool) (newest : Nat) (summary : List Item)
deriving DecidableEq, Repr

/-- A frame the part makes, with the addresses and link type taken when it is made (R157). -/
structure OutFrame where
  destination : Addr
  source : Addr
  linkType : Nat
  body : FrameBody
deriving DecidableEq, Repr

/-- The class of a frame in an origin queue (R151): the command context it belongs to, or for a reply whether a RESTART
waits for it (R164). -/
inductive OriginClass where
  | command (unit : Fin 9)
  | reply (restart : Bool)
  | report
deriving DecidableEq, Repr

/-- An entry of an origin queue. -/
structure OriginFrame where
  cls : OriginClass
  frame : OutFrame
deriving DecidableEq, Repr

/-- The frame a transmitter is sending (R153). -/
inductive TxFrame where
  | forward (bytes : List Byte)
  | origin (f : OriginFrame)
deriving DecidableEq, Repr

/-- The seven counts of a port (R154). -/
structure PortCounts where
  received : Nat
  malformed : Nat
  unknown : Nat
  forwardDrops : Nat
  originDrops : Nat
  displaced : Nat
  sent : Nat
deriving DecidableEq, Repr

/-- A link port (9.1). The transmitter is IDLE while `tx` is `none`. -/
structure PortState where
  linkUp : Bool
  forward : List (List Byte)
  origin : List OriginFrame
  tx : Option TxFrame
  originRun : Nat
  counts : PortCounts
deriving DecidableEq, Repr

/-- The ports block: both ports, the report port (R156), and the Link Table values in force (R155), absent between a
reset and start-up (R149). -/
structure PortsState where
  lineA : PortState
  lineB : PortState
  reportPort : Option Port
  link : Option LinkRow
deriving DecidableEq, Repr

/-! ## Stream Acceptance (01) -/

inductive StreamStatus where
  | idle
  | running
  | lost
deriving DecidableEq, Repr

/-- A running loss timer: the ms counted since the last frame taken, and the loss timeout in force when that frame was
taken (R4, R12). -/
structure LossTimer where
  elapsed : Nat
  limit : Nat
deriving DecidableEq, Repr

/-- The live state of a Stream Table row (1.3). -/
structure StreamLive where
  status : StreamStatus
  lastCounter : Option Nat
  lastValues : Vector (Option Int) 12
  gapCount : Nat
  loss : Option LossTimer
  framesAccepted : Nat
  counterGaps : Nat
  badQuality : Nat
  wrongCount : Nat
deriving DecidableEq, Repr

/-- The state of a sample window (1.4); a COMPUTING window may be marked withdrawn (R21). -/
inductive WindowState where
  | free
  | filling
  | queued
  | computing (withdrawn : Bool)
deriving DecidableEq, Repr

/-- The quality mark of a window (R17). -/
inductive WindowMark where
  | good
  | doubtful
deriving DecidableEq, Repr

/-- A sample window: its state, window start c0, mark, and the values at positions 0, 1, ... written so far. -/
structure Window where
  state : WindowState
  start : Nat
  mark : WindowMark
  values : List Int
deriving DecidableEq, Repr

inductive FillState where
  | unmapped
  | aligning
  | collecting
deriving DecidableEq, Repr

/-- The filling side of a measurement input (1.4). -/
structure InputLive where
  fill : FillState
  windows : Vector Window 2
  overruns : Nat
deriving DecidableEq, Repr

structure AcceptanceState where
  streams : Vector StreamLive 16
  inputs : Vector InputLive 38
deriving DecidableEq, Repr

/-! ## Phasor Engine (02) -/

/-- The quality of a result (R30). -/
inductive Quality where
  | good
  | doubtful
  | invalid
deriving DecidableEq, Repr

/-- A result record (2.6). `rms` holds RMS_1 to RMS_15, `ratios` holds ratio_2 to ratio_15. -/
structure ResultRecord where
  sequence : Nat
  quality : Quality
  lowFundamental : Bool
  start : Nat
  r1 : Int
  i1 : Int
  rms : Vector Nat 15
  ratios : Vector Nat 14
  thd : Nat
  age : Nat
deriving DecidableEq, Repr

/-- The engine. A notice of an input names the windows (0 and 1) it still waits for (R22). `hold` is the time left of an
ACTIVE hold in ms (R35). The age clock is the ms left to its next tick, its place in the 17, 17, 16 sequence, and the
frequency it keeps (R33). -/
structure EngineState where
  queue : List (Fin 38)
  computing : Option (Fin 38 × Fin 2)
  notices : Vector (Option (Vector Bool 2)) 38
  results : Vector ResultRecord 38
  holdCopy : Vector ResultRecord 38
  hold : Option Nat
  ageLeft : Nat
  agePhase : Fin 3
  ageFrequency : Nat
deriving DecidableEq, Repr

/-! ## Harmonic Supervisor (03) -/

/-- An alarm element (3.3). -/
inductive Element where
  | off
  | picking (count : Nat)
  | on
  | dropping (count : Nat)
deriving DecidableEq, Repr

/-- The held figures of a bus phase (R47). -/
structure HeldRatios where
  ratios : Vector Nat 14
  thd : Nat
deriving DecidableEq, Repr

/-- The harmonic supervisor. `elements` has one row for each of MI 0 to 5 and one column for each Harmonic Limit row;
an element that does not exist is `none` (R42). `block` holds the conditions of orders 2 to 15 and, at 14, of THD. -/
structure HarmonicState where
  elements : Vector (Vector (Option Element) 15) 6
  held : Vector (Option HeldRatios) 3
  block : Vector Bool 15
  sustain : Vector Nat 14
  countSeen : Nat
  nextCount : Nat
  nextBlocked : Bool
deriving DecidableEq, Repr

/-! ## Unbalance Protection (04) -/

/-- The live state of a step (4.2). -/
structure UnbalanceLive where
  alarmCount : Nat
  tripCount : Nat
  alarm : Bool
  tripOperated : Bool
  inputInvalid : Bool
  lastU : Option Nat
deriving DecidableEq, Repr

/-- An ACTIVE null capture (4.4). -/
structure NullContext where
  step : Fin 8
  counted : Nat
  sumR : Int
  sumI : Int
deriving DecidableEq, Repr

structure UnbalanceState where
  steps : Vector UnbalanceLive 8
  context : Option NullContext
deriving DecidableEq, Repr

/-! ## Duty and Cooldown Monitor (05) -/

inductive HeatMode where
  | service
  | cooldown
deriving DecidableEq, Repr

/-- The live state of a step (5.2 to 5.4). `discharge` and `decay` are the ms left of a RUNNING timer, `none` when it is
STOPPED. -/
structure DutyLive where
  heat : Nat
  lastP : Nat
  mode : HeatMode
  heatAlarm : Bool
  heatTripOperated : Bool
  discharge : Option Nat
  operations : Nat
  dutyBar : Bool
  decay : Option Nat
deriving DecidableEq, Repr

/-- The duty monitor, with the ms left to the next tick of the seconds clock (R78). -/
structure DutyState where
  steps : Vector DutyLive 8
  secondsLeft : Nat
deriving DecidableEq, Repr

/-! ## Step Supervisor (06) -/

/-- The causes of a lockout (6.1). -/
inductive LockoutCause where
  | unbalance
  | settingsFault
  | closeFail
  | breakerFail
deriving DecidableEq, Repr

/-- The live state of a step (6.1). A position of `none` is UNKNOWN for `lastPosition`, and absent for
`settledPosition`. -/
structure StepLive where
  state : StepState
  opClass : Option CmdClass
  opCause : Option StateCause
  slotHeld : Bool
  lockoutPending : Option LockoutCause
  lockoutCause : Option LockoutCause
  lastPosition : Option Position
  settledPosition : Option Position
  resolutionDue : Bool
  unitSupervision : Supervision
  unsupervised : Bool
  outOfServiceClose : Bool
deriving DecidableEq, Repr

structure SupervisorState where
  steps : Vector StepLive 8
  openList : List (Fin 8)
  closedList : List (Fin 8)
deriving DecidableEq, Repr

/-! ## Voltage Switching Control (07) -/

inductive LineState where
  | live
  | dead
  | restore
deriving DecidableEq, Repr

inductive ControlState where
  | manual
  | autoWatch
  | autoHigh
  | autoLow
  | autoPending
  | autoSettle
deriving DecidableEq, Repr

/-- The high and low timers, their counts in ms (7.4). -/
inductive BandTimer where
  | stopped
  | running (count : Nat)
  | paused (count : Nat)
deriving DecidableEq, Repr

inductive Reason where
  | high
  | low
  | detune
deriving DecidableEq, Repr

/-- Whose entry it is: MANUAL with its step or unit 8, AUTO with its reason (7.5). -/
inductive Origin where
  | manual (target : Fin 9)
  | auto (reason : Reason)
deriving DecidableEq, Repr

/-- An entry of the switching request queue (7.5). -/
structure QueueEntry where
  kind : CmdKind
  origin : Origin
  arrival : Nat
deriving DecidableEq, Repr

/-- The holder record of the slot (7.5): the step (0 to 7) or unit 8, the kind, and for AUTO the reason. -/
structure Holder where
  target : Fin 9
  kind : CmdKind
  reason : Option Reason
deriving DecidableEq, Repr

/-- The selection record (7.6). -/
structure Selection where
  target : Fin 9
  action : CmdKind
  token : Nat
  expiry : Nat
  requester : Addr
deriving DecidableEq, Repr

/-- Switching control. `restore` and `settle` are the counts in ms of a RUNNING timer. The slot is FREE while `holder` is
`none`. `uLo` and `uHi` are the band limits in force, those that the latest evaluation took from the Yard Table
(R114). `expiryHeld` is the expiry held mark, SET while it holds the ΔV in force at that expiry (R114, R121). -/
structure SwitchingState where
  vctrl : Option Nat
  uLo : Nat
  uHi : Nat
  valid : Bool
  deadCount : Nat
  line : LineState
  restore : Option Nat
  control : ControlState
  high : BandTimer
  low : BandTimer
  expiryHeld : Option Nat
  settle : Option Nat
  queue : List QueueEntry
  holder : Option Holder
  selection : Option Selection
deriving DecidableEq, Repr

/-! ## Breaker Command Engine (08) -/

inductive ContextState where
  | idle
  | sending
  | awaitingMove
  | failed
deriving DecidableEq, Repr

/-- A command context (8.2); times on the timebase. -/
structure CommandContext where
  state : ContextState
  kind : Option CmdKind
  cls : Option CmdClass
  sequence : Option Nat
  attempts : Nat
  nextSend : Option Nat
  deadline : Option Nat
  cause : Option Cause
  outcome : Option CmdOutcome
deriving DecidableEq, Repr

/-- A supervision timer: ms since the latest status frame taken, and the status timeout in force at its last restart
(R134, R136). -/
structure SupervisionTimer where
  elapsed : Nat
  limit : Nat
deriving DecidableEq, Repr

/-- The live state of a unit (8.2). -/
structure UnitLive where
  position : Option Position
  ready : Bool
  supervision : Supervision
  timer : Option SupervisionTimer
  learned : Option Port
  seqBase : Option Nat
  context : CommandContext
deriving DecidableEq, Repr

/-! ## Management Agent (10) -/

/-- The agent's counts, and the ms since a RESTART that waits for its reset (R164). -/
structure AgentState where
  refusedUnheard : Nat
  answered : Nat
  restartWait : Option Nat
deriving DecidableEq, Repr

/-! ## Table Memory and Settings Store (11) -/

/-- How a row stands against its check bits (R165): no flip, one, or more than can be corrected. -/
inductive Upset where
  | clean
  | single
  | double
deriving DecidableEq, Repr

/-- A row in the table memory: its content, its DAMAGED mark, and its check state. `latent` is the content that a double
error leaves, which nothing sees before the read that finds the error (R165; notes/assumptions/10.md). -/
structure Held (α : Type) where
  row : α
  damaged : Bool
  upset : Upset
  latent : Option α
deriving DecidableEq, Repr

/-- The 97 rows of the eight tables. -/
structure Tables where
  stream : Vector (Held StreamRow) 16
  input : Vector (Held InputRow) 38
  step : Vector (Held StepRow) 8
  harmonic : Vector (Held HarmRow) 15
  resonance : Vector (Held ResRow) 9
  yard : Held YardRow
  unit : Vector (Held UnitRow) 9
  link : Held LinkRow
deriving DecidableEq, Repr

/-- The class of the first-error record (R165). -/
inductive ErrorClass where
  | corrected
  | damaged
deriving DecidableEq, Repr

/-- The table memory and the store. The image is its validity mark and the rows it holds, `none` when it is empty. -/
structure MemoryState where
  tables : Tables
  corrected : Nat
  damaged : Nat
  firstError : Option (RowRef × ErrorClass)
  storing : Bool
  /-- How many of the 97 rows a STORE in progress has copied, in the order of R166 (notes/assumptions/26.md). -/
  copied : Nat
  imageValid : Bool
  image : Option Tables
  storeInvalid : Bool
  scrubLeft : Nat
deriving DecidableEq, Repr

/-! ## Event List and Disturbance Capture (12) -/

/-- The event kinds in the order of the table of 12.1, the nine STEP_ kinds in the order of 6.1. -/
inductive EventKind where
  | stepWithdrawn | stepUnresolved | stepCooling | stepReady | stepClosing | stepIn | stepOpening | stepLockout
  | stepFailed | positionIntermediate | closedUndischarged | closedOutOfService | positionUnsupervised
  | positionSupervised
  | unbalanceAlarm | unbalanceAlarmClear | unbalanceTrip | unbalanceInputInvalid | nullDone | nullAborted | heatAlarm
  | heatAlarmClear | heatTrip | dutyBarSet | dutyBarClear
  | harmonicAlarmOn | harmonicAlarmOff | resonanceBlockOn | resonanceBlockOff
  | measInvalid | measValid | lineDead | lineRestore | lineLive | closeDeferred | openDeferred | manualRefused
  | switchDone | switchFailed | switchOvertaken | selectExpired | selectionRemoved
  | commandFailed | backupTrip | unitSilent | unitAlive | uncommandedPosition | streamLost | streamRunning | portDown
  | portUp
  | tableDamaged | storeDone | storeFailed | storeInvalid | startUp
  | captureReady | captureMissed
deriving DecidableEq, Repr

/-- An entry of the event list (R169). -/
structure EventEntry where
  sequence : Nat
  stamp : Nat
  kind : EventKind
  subject : Subject
  value : Option Nat
deriving DecidableEq, Repr

inductive BufferStatus where
  | free
  | armed
  | recording
  | ready
deriving DecidableEq, Repr

/-- The trigger record (R172). -/
structure Trigger where
  kind : TriggerKind
  step : Option (Fin 8)
  stamp : Nat
deriving DecidableEq, Repr

/-- One channel of a recording: the kept values before the trigger (at most 256, the last of them at position 255) and
the values after it (at most 768, the first at position 256). -/
structure CaptureChannel where
  before : List CapSample
  after : List CapSample
deriving DecidableEq, Repr

/-- A capture buffer (12.3). `kept` is the history of each input while ARMED, `channels` the recording, `elapsed` the ms
since the trigger. -/
structure CaptureBuffer where
  status : BufferStatus
  kept : Vector (List CapSample) 38
  trigger : Option Trigger
  channels : Vector CaptureChannel 7
  elapsed : Nat
deriving DecidableEq, Repr

/-- The event list, the reports and the capture buffers. `reportTimer` counts ms since the last periodic report,
`changeHold` is what is left of the 100 ms after a change report (R171). -/
structure EventState where
  entries : List EventEntry
  next : Nat
  lost : Bool
  reportTimer : Nat
  changePending : Bool
  changeHold : Nat
  buffers : Vector CaptureBuffer 2
deriving DecidableEq, Repr

/-! ## The whole part -/

/-- The two resets (00_scope.md, Resets). -/
inductive ResetKind where
  | cold
  | restart
deriving DecidableEq, Repr

/-- Whether the blocks act, or the part stands between a reset and its start-up (R168). -/
inductive Phase where
  | running
  | inReset (kind : ResetKind)
deriving DecidableEq, Repr

/-- The state of the part. `pending` is the queue of commands, `mail` the messages that blocks have handed each other
and that no command has taken yet (notes/assumptions/2.md). -/
structure State where
  pending : List Instr
  mail : List Instr
  phase : Phase
  timebase : Nat
  keylock : Bool
  ports : PortsState
  acceptance : AcceptanceState
  engine : EngineState
  harmonic : HarmonicState
  unbalance : UnbalanceState
  duty : DutyState
  supervisor : SupervisorState
  switching : SwitchingState
  commands : Vector UnitLive 9
  agent : AgentState
  memory : MemoryState
  events : EventState
deriving DecidableEq, Repr

/-- The part has no fault that stops it: every error the manual describes has an effect and the part goes on. So this
type has no constructor and no meaning answers a fault. -/
inductive Fault where
deriving DecidableEq, Repr

/-- Why a command has no meaning. -/
inductive Refusal where
  /-- Raised by no arm of `exec`: every command has its meaning. It would be safe. -/
  | notModelled (mnemonic : String)
deriving DecidableEq, Repr

/-! ## Reset values -/

/-- A row freshly written: no DAMAGED mark, fresh check bits (R162, R165). -/
def Held.fresh {α : Type} (row : α) : Held α where
  row := row
  damaged := false
  upset := .clean
  latent := none

/-- Every row at its Default (R168). -/
def Tables.defaults : Tables where
  stream := Vector.replicate 16 (Held.fresh defaultStream)
  input := Vector.replicate 38 (Held.fresh defaultInput)
  step := Vector.replicate 8 (Held.fresh defaultStep)
  harmonic := Vector.ofFn fun i => Held.fresh (defaultHarm i)
  resonance := Vector.replicate 9 (Held.fresh defaultRes)
  yard := Held.fresh defaultYard
  unit := Vector.replicate 9 (Held.fresh defaultUnit)
  link := Held.fresh defaultLink

/-- 9.1 and R154. -/
def PortState.reset : PortState where
  linkUp := true
  forward := []
  origin := []
  tx := none
  originRun := 0
  counts := { received := 0, malformed := 0, unknown := 0, forwardDrops := 0, originDrops := 0, displaced := 0, sent := 0 }

/-- 1.3. -/
def StreamLive.reset : StreamLive where
  status := .idle
  lastCounter := none
  lastValues := Vector.replicate 12 none
  gapCount := 0
  loss := none
  framesAccepted := 0
  counterGaps := 0
  badQuality := 0
  wrongCount := 0

/-- 1.4. -/
def Window.empty : Window where
  state := .free
  start := 0
  mark := .good
  values := []

/-- 1.4. -/
def InputLive.reset : InputLive where
  fill := .unmapped
  windows := Vector.replicate 2 Window.empty
  overruns := 0

/-- 2.6, After COLD. -/
def ResultRecord.reset : ResultRecord where
  sequence := 0
  quality := .invalid
  lowFundamental := false
  start := 0
  r1 := 0
  i1 := 0
  rms := Vector.replicate 15 0
  ratios := Vector.replicate 14 0
  thd := 0
  age := 65535

/-- R38. The age clock counts from start-up; what its fields hold before it is the model's choice
(notes/assumptions/5.md). -/
def EngineState.reset : EngineState where
  queue := []
  computing := none
  notices := Vector.replicate 38 none
  results := Vector.replicate 38 ResultRecord.reset
  holdCopy := Vector.replicate 38 ResultRecord.reset
  hold := none
  ageLeft := 20
  agePhase := 0
  ageFrequency := 50

/-- R55. -/
def HarmonicState.reset : HarmonicState where
  elements := Vector.replicate 6 (Vector.replicate 15 none)
  held := Vector.replicate 3 none
  block := Vector.replicate 15 false
  sustain := Vector.replicate 14 0
  countSeen := 0
  nextCount := 1
  nextBlocked := false

/-- R72. -/
def UnbalanceLive.reset : UnbalanceLive where
  alarmCount := 0
  tripCount := 0
  alarm := false
  tripOperated := false
  inputInvalid := false
  lastU := none

/-- R89. -/
def DutyLive.reset : DutyLive where
  heat := 0
  lastP := 0
  mode := .cooldown
  heatAlarm := false
  heatTripOperated := false
  discharge := none
  operations := 0
  dutyBar := false
  decay := none

/-- R111; the state and the resolution due mark of a step in use are set at start-up. -/
def StepLive.reset : StepLive where
  state := .withdrawn
  opClass := none
  opCause := none
  slotHeld := false
  lockoutPending := none
  lockoutCause := none
  lastPosition := none
  settledPosition := none
  resolutionDue := false
  unitSupervision := .alive
  unsupervised := false
  outOfServiceClose := false

/-- R133; the restore hold timer and the control state are set at start-up. No evaluation has taken band limits yet
(notes/assumptions/46.md). -/
def SwitchingState.reset : SwitchingState where
  vctrl := none
  uLo := 0
  uHi := 0
  valid := false
  deadCount := 0
  line := .restore
  restore := none
  control := .manual
  high := .stopped
  low := .stopped
  expiryHeld := none
  settle := none
  queue := []
  holder := none
  selection := none

/-- 8.2: an IDLE context. -/
def CommandContext.idle : CommandContext where
  state := .idle
  kind := none
  cls := none
  sequence := none
  attempts := 0
  nextSend := none
  deadline := none
  cause := none
  outcome := none

/-- R148; the supervision timer is started at start-up. -/
def UnitLive.reset : UnitLive where
  position := none
  ready := false
  supervision := .alive
  timer := none
  learned := none
  seqBase := none
  context := CommandContext.idle

/-- R173: a FREE buffer. -/
def CaptureBuffer.free : CaptureBuffer where
  status := .free
  kept := Vector.replicate 38 []
  trigger := none
  channels := Vector.replicate 7 { before := [], after := [] }
  elapsed := 0

/-- The event list and capture after COLD (chapter 12); start-up arms buffer 0. -/
def EventState.reset : EventState where
  entries := []
  next := 1
  lost := false
  reportTimer := 0
  changePending := false
  changeHold := 0
  buffers := Vector.replicate 2 CaptureBuffer.free

/-- The part right after a COLD reset, before its start-up (R168): every live field at its after-COLD value, nothing in
the store, no command waiting. The choices the manual leaves open are those of notes/assumptions/5.md to 7.md. -/
def State.reset : State where
  pending := []
  mail := []
  phase := .inReset .cold
  timebase := 0
  keylock := false
  ports := { lineA := PortState.reset, lineB := PortState.reset, reportPort := none, link := none }
  acceptance := { streams := Vector.replicate 16 StreamLive.reset, inputs := Vector.replicate 38 InputLive.reset }
  engine := EngineState.reset
  harmonic := HarmonicState.reset
  unbalance := { steps := Vector.replicate 8 UnbalanceLive.reset, context := none }
  duty := { steps := Vector.replicate 8 DutyLive.reset, secondsLeft := 1000 }
  supervisor := { steps := Vector.replicate 8 StepLive.reset, openList := [], closedList := [] }
  switching := SwitchingState.reset
  commands := Vector.replicate 9 UnitLive.reset
  agent := { refusedUnheard := 0, answered := 0, restartWait := none }
  memory :=
    { tables := Tables.defaults, corrected := 0, damaged := 0, firstError := none, storing := false, copied := 0,
      imageValid := false, image := none, storeInvalid := false, scrubLeft := 10000 }
  events := EventState.reset

end Sys2Proof.Machine
end

