-- ==== Sys2Proof/Machine/Ops.lean ====
section
/-! DEFINITION. The operations every block shares: one entry of a table of State, the event list, the messages between
blocks, the rows of the table memory by their reference, and the counts of steps. -/

namespace Sys2Proof.Machine

/-! ## Tables of State -/

/-- `v` with entry `i` replaced by what `f` makes of it. -/
def upd {α : Type} {n : Nat} (v : Vector α n) (i : Fin n) (f : α → α) : Vector α n :=
  v.set i (f v[i])

/-- The steps 0 to 7, the units 0 to 8, the inputs 0 to 37, in number order. -/
def allSteps : List (Fin 8) := List.finRange 8
def allUnits : List (Fin 9) := List.finRange 9
def allInputs : List (Fin 38) := List.finRange 38

def State.updStream (i : Fin 16) (f : StreamLive → StreamLive) (s : State) : State :=
  { s with acceptance := { s.acceptance with streams := upd s.acceptance.streams i f } }

def State.updInput (i : Fin 38) (f : InputLive → InputLive) (s : State) : State :=
  { s with acceptance := { s.acceptance with inputs := upd s.acceptance.inputs i f } }

def State.updUnbalance (i : Fin 8) (f : UnbalanceLive → UnbalanceLive) (s : State) : State :=
  { s with unbalance := { s.unbalance with steps := upd s.unbalance.steps i f } }

def State.updDuty (i : Fin 8) (f : DutyLive → DutyLive) (s : State) : State :=
  { s with duty := { s.duty with steps := upd s.duty.steps i f } }

def State.updStep (i : Fin 8) (f : StepLive → StepLive) (s : State) : State :=
  { s with supervisor := { s.supervisor with steps := upd s.supervisor.steps i f } }

def State.updUnit (u : Fin 9) (f : UnitLive → UnitLive) (s : State) : State :=
  { s with commands := upd s.commands u f }

def State.updSwitching (f : SwitchingState → SwitchingState) (s : State) : State :=
  { s with switching := f s.switching }

def State.updBuffer (b : Fin 2) (f : CaptureBuffer → CaptureBuffer) (s : State) : State :=
  { s with events := { s.events with buffers := upd s.events.buffers b f } }

def State.updMemory (f : MemoryState → MemoryState) (s : State) : State :=
  { s with memory := f s.memory }

def State.port (s : State) : Port → PortState
  | .a => s.ports.lineA
  | .b => s.ports.lineB

def State.setPort (p : Port) (x : PortState) (s : State) : State :=
  match p with
  | .a => { s with ports := { s.ports with lineA := x } }
  | .b => { s with ports := { s.ports with lineB := x } }

/-- The port a frame is forwarded to. -/
def otherPort : Port → Port
  | .a => .b
  | .b => .a

/-! ## Events and messages -/

/-- R169: an event becomes the newest entry, stamped with the timebase; a full list first loses its oldest entry. A field
of the entry that no rule gives is `none` (notes/assumptions/68.md). -/
def logEvent (kind : EventKind) (subject : Subject) (value : Option Nat) (s : State) : State :=
  let full : Bool := Config.eventCapacity ≤ s.events.entries.length
  let kept := if full then s.events.entries.drop 1 else s.events.entries
  let entry : EventEntry :=
    { sequence := s.events.next, stamp := s.timebase, kind := kind, subject := subject, value := value }
  { s with
    events := { s.events with
      entries := kept ++ [entry]
      next := (s.events.next + 1) % mod32
      lost := s.events.lost || full } }

/-- A message is handed to the block that takes it by the command `m` (notes/assumptions/2.md). -/
def hand (m : Instr) (s : State) : State :=
  { s with mail := s.mail ++ [m] }

/-- The message a command takes leaves the mail. -/
def State.dropMail (m : Instr) (s : State) : State :=
  { s with mail := s.mail.erase m }

/-! ## Rows of the table memory -/

/-- The row references in the order of R166: tables 1 to 8, rows in order. -/
def allRows : List RowRef :=
  (List.finRange 16).map .stream ++ (List.finRange 38).map .input ++ (List.finRange 8).map .step ++
    (List.finRange 15).map .harmonic ++ (List.finRange 9).map .resonance ++ [.yard] ++ (List.finRange 9).map .unit ++
    [.link]

/-- The DAMAGED mark of a row. -/
def Tables.damagedAt (t : Tables) : RowRef → Bool
  | .stream i => t.stream[i].damaged
  | .input i => t.input[i].damaged
  | .step i => t.step[i].damaged
  | .harmonic i => t.harmonic[i].damaged
  | .resonance i => t.resonance[i].damaged
  | .yard => t.yard.damaged
  | .unit i => t.unit[i].damaged
  | .link => t.link.damaged

/-- The check state of a row. -/
def Tables.upsetAt (t : Tables) : RowRef → Upset
  | .stream i => t.stream[i].upset
  | .input i => t.input[i].upset
  | .step i => t.step[i].upset
  | .harmonic i => t.harmonic[i].upset
  | .resonance i => t.resonance[i].upset
  | .yard => t.yard.upset
  | .unit i => t.unit[i].upset
  | .link => t.link.upset

/-- A bit flip strikes a row (notes/assumptions/10.md): a first single flip can be corrected; any further one leaves the
content `held`. -/
def Held.strike {α : Type} (double : Bool) (held : α) (h : Held α) : Held α :=
  if h.damaged then { h with row := held }
  else if double || h.upset ≠ .clean then { h with upset := .double, latent := some held }
  else { h with upset := .single }

/-- R165: a single-bit error is corrected and written back with fresh check bits. -/
def Held.correct {α : Type} (h : Held α) : Held α :=
  { h with upset := .clean }

/-- R165: a double-bit error is found: the row is marked DAMAGED and holds what the error left. -/
def Held.fail {α : Type} (h : Held α) : Held α where
  row := h.latent.getD h.row
  damaged := true
  upset := .clean
  latent := none

/-- One row of the tables changed by a change of rows. -/
def Tables.mapAt (t : Tables) (r : RowRef) (f : {α : Type} → Held α → Held α) : Tables :=
  match r with
  | .stream i => { t with stream := upd t.stream i f }
  | .input i => { t with input := upd t.input i f }
  | .step i => { t with step := upd t.step i f }
  | .harmonic i => { t with harmonic := upd t.harmonic i f }
  | .resonance i => { t with resonance := upd t.resonance i f }
  | .yard => { t with yard := f t.yard }
  | .unit i => { t with unit := upd t.unit i f }
  | .link => { t with link := f t.link }

/-- The content of a row. -/
def Tables.contentAt (t : Tables) : RowRef → RowContent
  | .stream i => .stream t.stream[i].row
  | .input i => .input t.input[i].row
  | .step i => .step t.step[i].row
  | .harmonic i => .harmonic t.harmonic[i].row
  | .resonance i => .resonance t.resonance[i].row
  | .yard => .yard t.yard.row
  | .unit i => .unit t.unit[i].row
  | .link => .link t.link.row

/-- A bit flip strikes the row it names, where its content is of that row's table. -/
def Tables.strikeAt (t : Tables) (x : Strike) : Tables :=
  match x.row, x.held with
  | .stream i, .stream c => { t with stream := upd t.stream i (Held.strike x.double c) }
  | .input i, .input c => { t with input := upd t.input i (Held.strike x.double c) }
  | .step i, .step c => { t with step := upd t.step i (Held.strike x.double c) }
  | .harmonic i, .harmonic c => { t with harmonic := upd t.harmonic i (Held.strike x.double c) }
  | .resonance i, .resonance c => { t with resonance := upd t.resonance i (Held.strike x.double c) }
  | .yard, .yard c => { t with yard := t.yard.strike x.double c }
  | .unit i, .unit c => { t with unit := upd t.unit i (Held.strike x.double c) }
  | .link, .link c => { t with link := t.link.strike x.double c }
  | _, _ => t

def State.putTables (t : Tables) (s : State) : State :=
  { s with memory := { s.memory with tables := t } }

/-- The content of rows as their owners read them. -/
def State.stepRow (s : State) (i : Fin 8) : StepRow := s.memory.tables.step[i].row
def State.stepDamaged (s : State) (i : Fin 8) : Bool := s.memory.tables.step[i].damaged
def State.yard (s : State) : YardRow := s.memory.tables.yard.row
def State.yardDamaged (s : State) : Bool := s.memory.tables.yard.damaged
def State.unitRow (s : State) (u : Fin 9) : UnitRow := s.memory.tables.unit[u].row
def State.unitDamaged (s : State) (u : Fin 9) : Bool := s.memory.tables.unit[u].damaged

/-- The Link Table values in force (R155). -/
def State.link (s : State) : LinkRow := s.ports.link.getD defaultLink

/-! ## Steps -/

def State.stepState (s : State) (i : Fin 8) : StepState := s.supervisor.steps[i].state

/-- The number of steps in a state; that of IN is the in-service count (00_scope.md). -/
def State.countIn (s : State) (x : StepState) : Nat :=
  (allSteps.filter fun i => s.stepState i = x).length

def State.inCount (s : State) : Nat := s.countIn .inService

/-- IN + CLOSING, the count the checks of a close use (R124). -/
def State.energisedCount (s : State) : Nat := s.countIn .inService + s.countIn .closing

/-- Measurement input 6 + 4s + k: the phase currents A, B, C (k = 0, 1, 2) and the neutral current (k = 3) of step s. -/
def stepInput (s : Fin 8) (k : Fin 4) : Fin 38 :=
  ⟨6 + 4 * s.val + k.val, by omega⟩

/-- The step an input belongs to and its place k there; none for MI 0 to 5. -/
def inputStep (i : Fin 38) : Option (Fin 8 × Fin 4) :=
  if 6 ≤ i.val then some (⟨(i.val - 6) / 4, by omega⟩, ⟨(i.val - 6) % 4, by omega⟩) else none

/-- The step a breaker unit serves; none for unit 8, the incomer. -/
def unitStep (u : Fin 9) : Option (Fin 8) :=
  if h : u.val < 8 then some ⟨u.val, h⟩ else none

/-- The unit that serves a step. -/
def stepUnit (s : Fin 8) : Fin 9 := ⟨s.val, by omega⟩

/-- The incomer's unit. -/
def incomer : Fin 9 := 8

/-- The subject of an event about a step or unit 8 (R128). -/
def targetSubject (t : Fin 9) : Subject :=
  match unitStep t with
  | some s => .step s
  | none => .unit t

/-! ## Arithmetic (00_scope.md, Arithmetic) -/

/-- One bit of the integer square root at a time, from bit `k - 1` down: `r` grows while its square stays within `n`. -/
def isqrtBits (n : Nat) : Nat → Nat → Nat
  | 0, r => r
  | k + 1, r => if (r + 2 ^ k) * (r + 2 ^ k) ≤ n then isqrtBits n k (r + 2 ^ k) else isqrtBits n k r

/-- The greatest integer whose square does not exceed `n`. -/
def isqrt (n : Nat) : Nat :=
  isqrtBits n (n.log2 / 2 + 1) 0

/-- A value outside `lo` to `hi` is clamped to the nearer bound (R162). -/
def clampTo (lo hi : Nat) (x : Int) : Nat :=
  if x < lo then lo else if (hi : Int) < x then hi else x.toNat

/-- Whether a value lies in `lo` to `hi`. -/
def within (lo hi : Nat) (x : Int) : Bool :=
  (lo : Int) ≤ x && x ≤ (hi : Int)

end Sys2Proof.Machine
end

