-- ==== Sys2Proof/Machine/Capture.lean ====
section
/-! DEFINITION. Disturbance capture (12.3): the values acceptance hands, triggers, completion, and the positions of a
recording. -/

namespace Sys2Proof.Machine

def allBuffers : List (Fin 2) := List.finRange 2
def allChannels : List (Fin 7) := List.finRange 7

/-- The inputs whose values an ARMED buffer keeps: MI 0 to 2 and MI 6 to 37 (R172). -/
def keptInput (m : Fin 38) : Bool := m.val < 3 || 6 ≤ m.val

/-- The input of channel `k`: MI 0 to 2, then the three phase inputs and the neutral input of the trigger's step; absent
for a trigger without a step (R172). -/
def channelInput (step : Option (Fin 8)) (k : Fin 7) : Option (Fin 38) :=
  if h : k.val < 3 then some ⟨k.val, by omega⟩
  else step.map fun s => stepInput s ⟨k.val - 3, by omega⟩

/-- The step of a buffer's trigger record. -/
def CaptureBuffer.step (b : CaptureBuffer) : Option (Fin 8) := b.trigger.bind Trigger.step

/-- The last 256 values of an input, oldest first (R172). -/
def keepLast (xs : List CapSample) : List CapSample := xs.drop (xs.length - Config.captureBefore)

/-- R172: a value handed while the buffer is ARMED is kept. -/
def CaptureBuffer.keep (m : Fin 38) (x : CapSample) (b : CaptureBuffer) : CaptureBuffer :=
  if keptInput m then { b with kept := upd b.kept m fun xs => keepLast (xs ++ [x]) } else b

/-- R173: a value handed while the buffer is RECORDING fills the next position of its channel. -/
def CaptureBuffer.record (m : Fin 38) (x : CapSample) (b : CaptureBuffer) : CaptureBuffer :=
  { b with channels := Vector.ofFn fun k : Fin 7 =>
      let c := b.channels[k]
      if channelInput b.step k = some m ∧ c.after.length < Config.captureAfter then { c with after := c.after ++ [x] }
      else c }

/-- R173: whether every channel that is not absent holds position 1,023. -/
def CaptureBuffer.full (b : CaptureBuffer) : Bool :=
  allChannels.all fun k => (channelInput b.step k).isNone || Config.captureAfter ≤ b.channels[k].after.length

/-- A value handed by acceptance meets one buffer; the value that fills a recording makes its completion due. -/
def offerSample (m : Fin 38) (x : CapSample) (s : State) (i : Fin 2) : State :=
  let b := s.events.buffers[i]
  match b.status with
  | .armed => s.updBuffer i (CaptureBuffer.keep m x)
  | .recording =>
    let s := s.updBuffer i (CaptureBuffer.record m x)
    if !b.full && (s.events.buffers[i]).full then hand (.captureComplete i) s else s
  | _ => s

/-- R15, R172: acceptance hands capture a value of an input. -/
def handSample (m : Fin 38) (value : Int) (counter : Nat) (filled : Bool) (s : State) : State :=
  allBuffers.foldl (offerSample m { value := value, counter := counter, filled := filled }) s

/-- R172: the number of a trigger kind. -/
def triggerNumber : TriggerKind → Nat
  | .unbalanceTrip => 1
  | .heatTrip => 2
  | .breakerFailure => 3
  | .lineDead => 4

/-- The subject of a capture event. -/
def triggerSubject : Option (Fin 8) → Subject
  | some s => .step s
  | none => .none

/-- The ARMED buffer, if there is one. -/
def armedBuffer (s : State) : Option (Fin 2) :=
  allBuffers.find? fun i => s.events.buffers[i].status = .armed

/-- R172: an ARMED buffer goes to RECORDING at a trigger. -/
def CaptureBuffer.start (t : Trigger) (b : CaptureBuffer) : CaptureBuffer :=
  { status := .recording
    kept := Vector.replicate 38 []
    trigger := some t
    channels := Vector.ofFn fun k : Fin 7 =>
      { before := match channelInput t.step k with
          | some m => b.kept[m]
          | none => []
        after := [] }
    elapsed := 0 }

/-- R172: a trigger is taken. -/
def takeTrigger (kind : TriggerKind) (step : Option (Fin 8)) (s : State) : State :=
  match armedBuffer s with
  | some i => s.updBuffer i (CaptureBuffer.start { kind := kind, step := step, stamp := s.timebase })
  | none => logEvent .captureMissed (triggerSubject step) (some (triggerNumber kind)) s

/-- A buffer ARMED with nothing kept (R173). -/
def CaptureBuffer.armed : CaptureBuffer := { CaptureBuffer.free with status := .armed }

def otherBuffer (i : Fin 2) : Fin 2 := if i = 0 then 1 else 0

/-- R173: a RECORDING buffer completes. -/
def completeCapture (i : Fin 2) (s : State) : State :=
  let b := s.events.buffers[i]
  if b.status = .recording then
    let s := s.updBuffer i fun b => { b with status := .ready }
    let s := logEvent .captureReady (triggerSubject b.step) (some i.val) s
    if s.events.buffers[otherBuffer i].status = .free then s.updBuffer (otherBuffer i) fun _ => CaptureBuffer.armed
    else s
  else s

/-- R173: a READY buffer is freed, and armed when neither buffer is ARMED or RECORDING. -/
def freeCapture (i : Fin 2) (s : State) : State :=
  let o := s.events.buffers[otherBuffer i].status
  if o = .armed ∨ o = .recording then s.updBuffer i fun _ => CaptureBuffer.free
  else s.updBuffer i fun _ => CaptureBuffer.armed

/-- Position `p` of a recording's channel `k`; the leading positions of a short history are absent (R172, R173). -/
def CaptureBuffer.position (b : CaptureBuffer) (k : Fin 7) (p : Nat) : Option CapSample :=
  let c := b.channels[k]
  if p < Config.captureBefore then
    if Config.captureBefore ≤ p + c.before.length then c.before[p + c.before.length - Config.captureBefore]?
    else none
  else c.after[p - Config.captureBefore]?

/-- R173: what a RESTART leaves of a buffer. -/
def CaptureBuffer.restart (b : CaptureBuffer) : CaptureBuffer :=
  match b.status with
  | .ready => b
  | .armed => CaptureBuffer.armed
  | _ => CaptureBuffer.free

/-- R173: after a reset, when neither buffer is ARMED, the lower-numbered FREE buffer is armed at start-up. -/
def armAtStartUp (s : State) : State :=
  match armedBuffer s with
  | some _ => s
  | none =>
    match allBuffers.find? fun i => s.events.buffers[i].status = .free with
    | some i => s.updBuffer i fun _ => CaptureBuffer.armed
    | none => s

end Sys2Proof.Machine
end

