-- ==== Sys2Proof/Machine/Harmonic.lean ====
section
/-! DEFINITION. Harmonic Supervision (chapter 03): the alarm elements, the block conditions, the answers on counts, the
next-count status and detuning. -/

namespace Sys2Proof.Machine

def allLimits : List (Fin 15) := List.finRange 15
def allOrders : List (Fin 14) := List.finRange 14
def allSupervised : List (Fin 6) := List.finRange 6
def allPhases : List (Fin 3) := List.finRange 3

/-- The Harmonic Limit row of order h = o + 2. -/
def orderRow (o : Fin 14) : Fin 15 := ⟨o.val, by omega⟩

/-- The input of a supervised place (MI 0 to 5). -/
def supervisedInput (k : Fin 6) : Fin 38 := ⟨k.val, by omega⟩

/-- The value an event of an element carries: the order, or 0 for the THD row (R45). -/
def limitNumber (i : Fin 15) : Nat := if i = 14 then 0 else i.val + 2

/-- R43: a record is evaluable when it is GOOD or DOUBTFUL and its LOW_FUNDAMENTAL mark is clear. -/
def evaluable (record : ResultRecord) : Bool :=
  record.quality ≠ .invalid ∧ !record.lowFundamental

/-- The figure a row compares: ratio_h, or THD for the THD row (R43). -/
def limitValue (ratios : Vector Nat 14) (thd : Nat) (i : Fin 15) : Nat :=
  if h : i.val < 14 then ratios[i.val] else thd

/-! ## The alarm elements (R42 to R46) -/

/-- Whether an element stands as an alarm (R46). -/
def Element.standing : Element → Bool
  | .on => true
  | .dropping _ => true
  | _ => false

/-- R44: the movement of an element by whether its value is at or above the alarm level. -/
def Element.move (above : Bool) (pickup dropout : Nat) (e : Element) : Element :=
  match e, above with
  | .off, false => .off
  | .off, true => if pickup ≤ 1 then .on else .picking 1
  | .picking c, true => if pickup ≤ c + 1 then .on else .picking (c + 1)
  | .picking _, false => .off
  | .on, true => .on
  | .on, false => if dropout ≤ 1 then .off else .dropping 1
  | .dropping c, false => if dropout ≤ c + 1 then .off else .dropping (c + 1)
  | .dropping _, true => .on

def setElement (k : Fin 6) (i : Fin 15) (e : Option Element) (s : State) : State :=
  { s with harmonic := { s.harmonic with elements := upd s.harmonic.elements k fun v => v.set i e } }

/-- R45: the events of an element that has moved from `a` to `b`. -/
def logElement (k : Fin 6) (i : Fin 15) (a b : Bool) (s : State) : State :=
  if !a ∧ b then logEvent .harmonicAlarmOn (.input (supervisedInput k)) (some (limitNumber i)) s
  else if a ∧ !b then logEvent .harmonicAlarmOff (.input (supervisedInput k)) (some (limitNumber i)) s
  else s

/-- R44 for the element of supervised input `k` and row `i`, if it exists. -/
def moveElement (k : Fin 6) (record : ResultRecord) (s : State) (i : Fin 15) : State :=
  match s.harmonic.elements[k][i] with
  | some e =>
    let row := s.memory.tables.harmonic[i].row
    let e' := e.move (row.alarmLevel ≤ limitValue record.ratios record.thd i) row.pickup row.dropout
    logElement k i e.standing e'.standing (setElement k i (some e') s)
  | none => s

/-- R43: the elements of a supervised input move on an evaluable record, in the order of the rows. -/
def moveElements (k : Fin 6) (record : ResultRecord) (s : State) : State :=
  if evaluable record then allLimits.foldl (moveElement k record) s else s

/-- R46: the yard harmonic alarm status. -/
def harmonicAlarm (s : State) : Bool :=
  s.harmonic.elements.toList.any fun v => v.toList.any fun e => (e.map Element.standing).getD false

/-- R42: an element ceases to exist, with its event when it stood. -/
def removeElement (i : Fin 15) (s : State) (k : Fin 6) : State :=
  let was := ((s.harmonic.elements[k][i]).map Element.standing).getD false
  logElement k i was false (setElement k i none s)

/-- R42, R54: the six elements of a row cease to exist. -/
def removeElements (i : Fin 15) (s : State) : State :=
  allSupervised.foldl (removeElement i) s

/-- R42: the six elements of a row come into being in OFF where they do not exist. -/
def createElements (i : Fin 15) (s : State) : State :=
  allSupervised.foldl (fun s k =>
    match s.harmonic.elements[k][i] with
    | some _ => s
    | none => setElement k i (some .off) s) s

/-! ## Block conditions (R47, R48) -/

/-- R48: the condition of a row from the held figures. -/
def blockFromHeld (i : Fin 15) (s : State) : Bool :=
  s.harmonic.held.toList.any fun h =>
    match h with
    | some x => s.memory.tables.harmonic[i].row.blockLevel ≤ limitValue x.ratios x.thd i
    | none => false

/-- The condition of one row re-formed; a DAMAGED row's condition cannot be formed and is kept. -/
def reformBlock (s : State) (i : Fin 15) : State :=
  if s.memory.tables.harmonic[i].damaged then s
  else { s with harmonic := { s.harmonic with block := s.harmonic.block.set i (blockFromHeld i s) } }

/-- R47, R48: every condition re-formed. -/
def reformBlocks (s : State) : State :=
  allLimits.foldl reformBlock s

/-- R48: the condition as the answers take it: SET while the row is DAMAGED. -/
def blockTaken (i : Fin 15) (s : State) : Bool :=
  s.memory.tables.harmonic[i].damaged || s.harmonic.block[i]

/-- The Harmonic Limit row of an order of a list (2 to 15). -/
def limitOfOrder (h : Nat) : Option (Fin 15) :=
  if h' : 2 ≤ h ∧ h ≤ 15 then some ⟨h - 2, by omega⟩ else none

/-- Whether the condition of an order of a list is SET or taken as SET. -/
def orderBlocked (s : State) (h : Nat) : Bool :=
  match limitOfOrder h with
  | some i => blockTaken i s
  | none => false

/-- R49: whether a count of steps in service is BLOCKED. -/
def countBlocked (c : Nat) (s : State) : Bool :=
  if h : c < 9 then
    let row := s.memory.tables.resonance[c]
    row.damaged || row.row.orders.any (orderBlocked s) || (row.row.orders ≠ [] && blockTaken 14 s)
  else false

/-! ## The next-count status (R50) -/

/-- R50: the count IN + CLOSING + 1. -/
def nextCount (s : State) : Nat := s.energisedCount + 1

def setNextCount (s : State) : State :=
  { s with harmonic := { s.harmonic with nextCount := nextCount s, nextBlocked := countBlocked (nextCount s) s } }

/-- R50: the status is re-evaluated, and a change of the answer writes its event. -/
def reformNextCount (s : State) : State :=
  let was := s.harmonic.nextBlocked
  let s := setNextCount s
  if !was ∧ s.harmonic.nextBlocked then logEvent .resonanceBlockOn .none (some s.harmonic.nextCount) s
  else if was ∧ !s.harmonic.nextBlocked then logEvent .resonanceBlockOff .none (some s.harmonic.nextCount) s
  else s

/-! ## Sustain counts and detuning (R51, R52) -/

/-- R51: a sustain count at an evaluable record of MI 0. -/
def sustainStep (damaged set : Bool) (c : Nat) : Nat :=
  if set && !damaged then min Config.sustainMax (c + 1) else 0

def updateSustain (s : State) : State :=
  { s with harmonic := { s.harmonic with
      sustain := Vector.ofFn fun o =>
        sustainStep s.memory.tables.harmonic[orderRow o].damaged s.harmonic.block[orderRow o] s.harmonic.sustain[o] } }

def clearSustain (s : State) : State :=
  { s with harmonic := { s.harmonic with sustain := Vector.replicate 14 0 } }

/-- R41, R54: the sustain count of one row's order set to 0; the THD row has none. -/
def zeroSustain (i : Fin 15) (s : State) : State :=
  if h : i.val < 14 then { s with harmonic := { s.harmonic with sustain := s.harmonic.sustain.set i.val 0 } } else s

/-- R52, condition 3: the order's sustain count has reached its row's pickup delay. -/
def orderSustained (s : State) (h : Nat) : Bool :=
  if h' : 2 ≤ h ∧ h ≤ 15 then
    let o : Fin 14 := ⟨h - 2, by omega⟩
    let row := s.memory.tables.harmonic[orderRow o]
    !row.damaged && row.row.pickup ≤ s.harmonic.sustain[o]
  else false

/-- R52: whether the supervisor asks for a detuning open. -/
def detuneDue (s : State) : Bool :=
  let n := s.inCount
  if h : n < 9 then
    let row := s.memory.tables.resonance[n]
    1 ≤ n && !row.damaged && row.row.orders.any (orderSustained s) &&
      (s.switching.control = .autoWatch || s.switching.control = .autoHigh || s.switching.control = .autoLow)
  else false

/-- R43 to R52: the harmonic supervisor acts on a publication of input `m`. -/
def harmonicPublication (m : Fin 38) (s : State) : State :=
  let record := s.engine.results[m]
  if h : m.val < 6 then
    let s := moveElements ⟨m.val, h⟩ record s
    if h3 : m.val < 3 then
      let s := if evaluable record then
          reformBlocks { s with harmonic := { s.harmonic with
            held := s.harmonic.held.set m.val (some { ratios := record.ratios, thd := record.thd }) } }
        else s
      let s := if m.val = 0 ∧ evaluable record then updateSustain s else s
      let s := reformNextCount s
      if m.val = 0 ∧ detuneDue s then hand .detuneRequest s else s
    else s
  else s

/-- The states that the next count is formed of (R50). -/
def isEnergised (x : StepState) : Bool := x = .inService ∨ x = .closing

/-- R50, R51: the harmonic supervisor takes a step state report: the sustain counts restart where a step entering or
leaving IN has changed the in-service count, and the next-count status is re-evaluated where the step enters or leaves IN
or CLOSING. -/
def harmonicReport (r : StepReport) (s : State) : State :=
  let s := if (r.old = .inService ∨ r.new = .inService) ∧ s.inCount ≠ s.harmonic.countSeen then
      let n := s.inCount
      let s := clearSustain s
      { s with harmonic := { s.harmonic with countSeen := n } }
    else s
  if isEnergised r.old ∨ isEnergised r.new then reformNextCount s else s

/-- R54: a Harmonic Limit row is found DAMAGED. -/
def harmonicFoundDamaged (i : Fin 15) (s : State) : State :=
  reformNextCount (zeroSustain i (removeElements i s))

end Sys2Proof.Machine
end

