-- ==== Sys2Proof/Machine/Summary.lean ====
section
/-! DEFINITION. The numbers of named values (R158) and the yard summary (12.2), with the mark that a change of it sets
(R171). The numbers of items that no list of the manual gives are those of notes/assumptions/21.md. -/

namespace Sys2Proof.Machine

/-! ## Numbers of named values (R158) -/

/-- The number that stands for an absent named value. -/
def absentName : Nat := 255

/-- no 1, yes 2, as the in-use flag lists them (1.1). KEYLOCK, the DAMAGED marks, whether a selection exists and slot held have no
list of their own and take these, the model's choice (notes/assumptions/21.md). -/
def yesNo (b : Bool) : Nat := if b then 2 else 1
/-- clear 1, set 2, as LOW_FUNDAMENTAL lists them (2.6). -/
def clearSet (b : Bool) : Nat := if b then 2 else 1
/-- SET 1, CLEAR 2, as the SET or CLEAR fields list them. The harmonic alarm status and the trip operated, heat trip operated and
expiry held marks have no list of their own and take these, the model's choice (notes/assumptions/21.md). -/
def setClear (b : Bool) : Nat := if b then 1 else 2
/-- STANDING 1, CLEAR 2. -/
def standingClear (b : Bool) : Nat := if b then 1 else 2
/-- VALID 1, INVALID 2. -/
def validInvalid (b : Bool) : Nat := if b then 1 else 2

def nameOr {α : Type} (f : α → Nat) : Option α → Nat
  | some a => f a
  | none => absentName

def stepStateNumber : StepState → Nat
  | .withdrawn => 1
  | .unresolved => 2
  | .cooling => 3
  | .ready => 4
  | .closing => 5
  | .inService => 6
  | .opening => 7
  | .lockout => 8
  | .failed => 9

/-- 9.5: 1 OPEN, 2 CLOSED, 3 INTERMEDIATE; UNKNOWN is the fourth of the list of 8.2 (notes/assumptions/21.md). -/
def positionNumber : Option Position → Nat
  | some .opened => 1
  | some .closed => 2
  | some .intermediate => 3
  | none => 4

/-- 9.5: 0 not charged, any other value charged; the part sends 1 (notes/assumptions/21.md). -/
def chargedNumber (ready : Bool) : Nat := if ready then 1 else 0

def supervisionNumber : Supervision → Nat
  | .alive => 1
  | .silent => 2

/-- 9.5: 1 OPEN, 2 CLOSE. -/
def cmdKindNumber : CmdKind → Nat
  | .opn => 1
  | .close => 2

/-- 9.5: 1 TRIP, 2 CONTROL. -/
def cmdClassNumber : CmdClass → Nat
  | .trip => 1
  | .control => 2

/-- The causes of a command in the order of 8.2 (notes/assumptions/21.md). -/
def cmdCauseNumber : Cause → Nat
  | .autoVoltage => 1
  | .autoDetune => 2
  | .manual => 3
  | .closeFail => 4
  | .unbalance => 5
  | .overheat => 6
  | .deadLine => 7
  | .settingsFault => 8
  | .backup => 9

/-- Lockout causes carry the numbers of the cause table of 6.1 (notes/assumptions/21.md). -/
def lockoutNumber (c : LockoutCause) : Nat :=
  match c with
  | .settingsFault => 5
  | .unbalance => 11
  | .closeFail => 12
  | .breakerFail => 14

def contextNumber : ContextState → Nat
  | .idle => 1
  | .sending => 2
  | .awaitingMove => 3
  | .failed => 4

/-- UNANSWERED 1, NO_MOVE 2 (8.2). -/
def outcomeNumber : CmdOutcome → Nat
  | .unanswered => 1
  | .noMove => 2
  | .done => absentName

/-- NONE 1, A 2, B 3 (8.2); the report port takes the same numbers (notes/assumptions/21.md). -/
def learnedNumber : Option Port → Nat
  | none => 1
  | some .a => 2
  | some .b => 3

def lineNumber : LineState → Nat
  | .live => 1
  | .dead => 2
  | .restore => 3

def controlNumber : ControlState → Nat
  | .manual => 1
  | .autoWatch => 2
  | .autoHigh => 3
  | .autoLow => 4
  | .autoPending => 5
  | .autoSettle => 6

def reasonNumber : Reason → Nat
  | .high => 1
  | .low => 2
  | .detune => 3

/-- UP 1, DOWN 2 (9.1). -/
def linkNumber (up : Bool) : Nat := if up then 1 else 2

def bufferNumber : BufferStatus → Nat
  | .free => 1
  | .armed => 2
  | .recording => 3
  | .ready => 4

def streamNumberOf : StreamStatus → Nat
  | .idle => 1
  | .running => 2
  | .lost => 3

def fillNumber : FillState → Nat
  | .unmapped => 1
  | .aligning => 2
  | .collecting => 3

/-- R158: 0 GOOD, 1 DOUBTFUL, 2 BAD, 3 INVALID. -/
def qualityNumber : Quality → Nat
  | .good => 0
  | .doubtful => 1
  | .invalid => 3

def compModeNumber : CompMode → Nat
  | .none => 1
  | .auto => 2
  | .manual => 3

/-- AUTO 1, MANUAL 2 (7.1). -/
def startModeNumber : Mode → Nat
  | .auto => 1
  | .manual => 2

def inputKind (m : Fin 38) : InputKind := if m.val < 3 then .voltage else .current

def inputKindNumber : InputKind → Nat
  | .voltage => 1
  | .current => 2

def errorClassNumber : ErrorClass → Nat
  | .corrected => 1
  | .damaged => 2

/-- The table number of 10.1. -/
def tableNumber : RowRef → Nat
  | .stream _ => 1
  | .input _ => 2
  | .step _ => 3
  | .harmonic _ => 4
  | .resonance _ => 5
  | .yard => 6
  | .unit _ => 7
  | .link => 8

/-- The row number of 10.1: Harmonic Limit rows by their order, the THD row as 16. -/
def rowNumber : RowRef → Nat
  | .stream i => i.val
  | .input i => i.val
  | .step i => i.val
  | .harmonic i => i.val + 2
  | .resonance c => c.val
  | .yard => 0
  | .unit u => u.val
  | .link => 0

/-- The number of an event kind: its place in the table of 12.1 (R158). -/
def eventNumber : EventKind → Nat
  | .stepWithdrawn => 1
  | .stepUnresolved => 2
  | .stepCooling => 3
  | .stepReady => 4
  | .stepClosing => 5
  | .stepIn => 6
  | .stepOpening => 7
  | .stepLockout => 8
  | .stepFailed => 9
  | .positionIntermediate => 10
  | .closedUndischarged => 11
  | .closedOutOfService => 12
  | .positionUnsupervised => 13
  | .positionSupervised => 14
  | .unbalanceAlarm => 15
  | .unbalanceAlarmClear => 16
  | .unbalanceTrip => 17
  | .unbalanceInputInvalid => 18
  | .nullDone => 19
  | .nullAborted => 20
  | .heatAlarm => 21
  | .heatAlarmClear => 22
  | .heatTrip => 23
  | .dutyBarSet => 24
  | .dutyBarClear => 25
  | .harmonicAlarmOn => 26
  | .harmonicAlarmOff => 27
  | .resonanceBlockOn => 28
  | .resonanceBlockOff => 29
  | .measInvalid => 30
  | .measValid => 31
  | .lineDead => 32
  | .lineRestore => 33
  | .lineLive => 34
  | .closeDeferred => 35
  | .openDeferred => 36
  | .manualRefused => 37
  | .switchDone => 38
  | .switchFailed => 39
  | .switchOvertaken => 40
  | .selectExpired => 41
  | .selectionRemoved => 42
  | .commandFailed => 43
  | .backupTrip => 44
  | .unitSilent => 45
  | .unitAlive => 46
  | .uncommandedPosition => 47
  | .streamLost => 48
  | .streamRunning => 49
  | .portDown => 50
  | .portUp => 51
  | .tableDamaged => 52
  | .storeDone => 53
  | .storeFailed => 54
  | .storeInvalid => 55
  | .startUp => 56
  | .captureReady => 57
  | .captureMissed => 58

/-! ## The yard summary (12.2) -/

/-- The per-step figures of the summary. -/
def summaryStep (s : State) (i : Fin 8) : List Item :=
  let x := s.supervisor.steps[i]
  let u := s.unbalance.steps[i]
  let d := s.duty.steps[i]
  [.name (stepStateNumber x.state), .name (standingClear x.unsupervised), .name (standingClear x.outOfServiceClose),
    .name (standingClear u.alarm), .name (setClear u.inputInvalid), .name (standingClear d.heatAlarm),
    .name (setClear d.dutyBar)]

/-- Whether any row is DAMAGED (R165). -/
def anyDamaged (s : State) : Bool := allRows.any s.memory.tables.damagedAt

/-- 12.2, R171: the yard summary. The manual lists no values for KEYLOCK, for whether any row is DAMAGED and for whether a
selection exists: no 1 and yes 2 are the model's choice, and so are SET 1 and CLEAR 2 for the harmonic alarm status
(notes/assumptions/21.md). -/
def yardSummary (s : State) : List Item :=
  allSteps.flatMap (summaryStep s) ++
    [.name (setClear (harmonicAlarm s)), .name (lineNumber s.switching.line), .name (controlNumber s.switching.control),
      .name (validInvalid s.switching.valid), .name (yesNo s.switching.selection.isSome),
      .name (positionNumber s.commands[incomer].position)] ++
    allUnits.map (fun u => Item.name (supervisionNumber s.commands[u].supervision)) ++
    [.name (linkNumber s.ports.lineA.linkUp), .name (linkNumber s.ports.lineB.linkUp), .name (yesNo s.keylock),
      .name (standingClear s.memory.storeInvalid), .name (yesNo (anyDamaged s)), .name (setClear s.events.lost),
      .name (bufferNumber s.events.buffers[0].status), .name (bufferNumber s.events.buffers[1].status)]

/-! ## Changes of the summary (R171) -/

/-- R171: reports are made while the report destination is not all zero. -/
def reporting (s : State) : Bool := s.link.destination ≠ 0

/-- R171: a change of the yard summary since `before` sets change pending. -/
def markChange (before s : State) : State :=
  if reporting s ∧ yardSummary before ≠ yardSummary s then
    { s with events := { s.events with changePending := true } }
  else s

end Sys2Proof.Machine
end

