-- ==== Sys2Proof/Machine/Unbalance.lean ====
section
/-! DEFINITION. Unbalance Protection (chapter 04): the compensated unbalance, the alarm and trip stages, null capture. -/

namespace Sys2Proof.Machine

/-- The compensation phasor in force: the row's in AUTO and MANUAL, 0 in NONE (R57, R59). -/
def compensation (row : StepRow) : Int × Int :=
  match row.compMode with
  | .none => (0, 0)
  | _ => (row.kr, row.ki)

/-- R59: U = isqrt((r1 − Kr)² + (i1 − Ki)²). -/
def compensatedU (row : StepRow) (record : ResultRecord) : Nat :=
  let k := compensation row
  isqrt ((record.r1 - k.1).natAbs ^ 2 + (record.i1 - k.2).natAbs ^ 2)

/-- The reset threshold of a stage (R60). -/
def resetThreshold (level : Nat) : Nat := level * 15 / 16

/-- R60: the counter of a stage of level `level` after a record of quality `q` with unbalance `u`. -/
def stageCounter (q : Quality) (u level count : Nat) : Nat :=
  match q with
  | .invalid => 0
  | .doubtful => count
  | .good =>
    if level ≤ u then min Config.unbalanceMax (count + 1)
    else if resetThreshold level ≤ u then count
    else 0

/-- R61, R62: a stage operates at a GOOD record whose counter has advanced to the delay. -/
def stageOperates (q : Quality) (u level delay count : Nat) : Bool :=
  q = .good ∧ level ≤ u ∧ delay ≤ stageCounter q u level count

/-- R70: the capture that serves step `i`, if one does, is abandoned. -/
def abandonNull (i : Fin 8) (s : State) : State :=
  match s.unbalance.context with
  | some c =>
    if c.step = i then
      logEvent .nullAborted (.step i) (some c.counted) { s with unbalance := { s.unbalance with context := none } }
    else s
  | none => s

/-- R63: an INVALID record sets the input-invalid status, with its event when the status was CLEAR; any other clears
it. -/
def judgeInputInvalid (i : Fin 8) (q : Quality) (s : State) : State :=
  let was := s.unbalance.steps[i].inputInvalid
  let s := s.updUnbalance i fun x => { x with inputInvalid := q = .invalid }
  if q = .invalid ∧ !was then logEvent .unbalanceInputInvalid (.step i) none s else s

/-- R61: the alarm stage. -/
def alarmStage (i : Fin 8) (row : StepRow) (q : Quality) (u : Nat) (s : State) : State :=
  let x := s.unbalance.steps[i]
  let s := s.updUnbalance i fun y => { y with alarmCount := stageCounter q u row.alarmLevel x.alarmCount }
  if stageOperates q u row.alarmLevel row.alarmDelay x.alarmCount ∧ !x.alarm then
    logEvent .unbalanceAlarm (.step i) (some u) (s.updUnbalance i fun y => { y with alarm := true })
  else if q = .good ∧ u < resetThreshold row.alarmLevel ∧ x.alarm then
    logEvent .unbalanceAlarmClear (.step i) (some u) (s.updUnbalance i fun y => { y with alarm := false })
  else s

/-- R62: what an operating trip stage does: the mark, the event, the trip request, the capture trigger, the lockout
notice, and the end of a null capture of the step (R70). -/
def unbalanceTrip (i : Fin 8) (u : Nat) (s : State) : State :=
  let s := s.updUnbalance i fun y => { y with tripOperated := true }
  let s := logEvent .unbalanceTrip (.step i) (some u) s
  let s := hand (.commandRequest { unit := stepUnit i, kind := .opn, cls := .trip, cause := .unbalance }) s
  let s := hand (.captureTrigger .unbalanceTrip (some i)) s
  let s := hand (.unbalanceLockoutNotice i) s
  abandonNull i s

/-- R62: the trip stage. -/
def tripStage (i : Fin 8) (row : StepRow) (q : Quality) (u : Nat) (s : State) : State :=
  let x := s.unbalance.steps[i]
  let s := s.updUnbalance i fun y => { y with tripCount := stageCounter q u row.tripLevel x.tripCount }
  if stageOperates q u row.tripLevel row.tripDelay x.tripCount ∧ !x.tripOperated then unbalanceTrip i u s else s

/-- R69: the end of a capture with `c` complete: the means become K with mode AUTO, or the capture is aborted when a mean
is out of range. -/
def completeNull (c : NullContext) (s : State) : State :=
  let kr := c.sumR.tdiv Config.nullResults
  let ki := c.sumI.tdiv Config.nullResults
  let s := { s with unbalance := { s.unbalance with context := none } }
  if kr.natAbs ≤ Config.kMax ∧ ki.natAbs ≤ Config.kMax then
    let row := { s.stepRow c.step with kr := kr, ki := ki, compMode := .auto }
    let t := s.memory.tables
    logEvent .nullDone (.step c.step) (some (isqrt (kr.natAbs ^ 2 + ki.natAbs ^ 2)))
      (s.putTables { t with step := t.step.set c.step (Held.fresh row) })
  else logEvent .nullAborted (.step c.step) (some Config.nullResults) s

/-- R68: a GOOD record of the served step is summed, a DOUBTFUL one skipped, an INVALID one abandons the capture. -/
def offerNull (i : Fin 8) (record : ResultRecord) (s : State) : State :=
  match s.unbalance.context with
  | some c =>
    if c.step = i then
      match record.quality with
      | .invalid => abandonNull i s
      | .doubtful => s
      | .good =>
        let c := { c with counted := c.counted + 1, sumR := c.sumR + record.r1, sumI := c.sumI + record.i1 }
        if Config.nullResults ≤ c.counted then completeNull c s
        else { s with unbalance := { s.unbalance with context := some c } }
    else s
  | none => s

/-- R59: the last U, formed from a GOOD or DOUBTFUL record only. -/
def formLastU (i : Fin 8) (record : ResultRecord) (u : Nat) (s : State) : State :=
  if record.quality = .invalid then s else s.updUnbalance i fun y => { y with lastU := some u }

/-- R58: the evaluation of step `i` at a publication of its neutral input. -/
def unbalanceEvaluate (i : Fin 8) (s : State) : State :=
  let row := s.stepRow i
  let record := s.engine.results[stepInput i 3]
  if s.stepState i = .inService ∧ row.neutralPresent ∧ !s.stepDamaged i then
    let u := compensatedU row record
    let s := judgeInputInvalid i record.quality s
    let s := formLastU i record u s
    let s := alarmStage i row record.quality u s
    let s := tripStage i row record.quality u s
    offerNull i record s
  else s

/-- R65: step `i` has left IN. -/
def unbalanceLeave (i : Fin 8) (s : State) : State :=
  let was := s.unbalance.steps[i].alarm
  let s := s.updUnbalance i fun _ => UnbalanceLive.reset
  let s := if was then logEvent .unbalanceAlarmClear (.step i) none s else s
  abandonNull i s

/-- R65: step `i` has entered IN. Its counters, its mark and its statuses start as its departure (`unbalanceLeave`) or the
reset (R72) left them, and what an evaluation since the entry has made of them stands: the alarm returns to CLEAR as R61
gives alone, and the mark is kept while the step stays IN (R62; notes/assumptions/49.md). The input-invalid status becomes
SET while the neutral input's latest record is INVALID, with its event if it was CLEAR (R63). The neutral input present flag
counts as the row holds it, also while the row is DAMAGED (notes/assumptions/62.md). -/
def unbalanceEnter (i : Fin 8) (s : State) : State :=
  if (s.stepRow i).neutralPresent ∧ s.engine.results[stepInput i 3].quality = .invalid ∧
      !s.unbalance.steps[i].inputInvalid then
    logEvent .unbalanceInputInvalid (.step i) none (s.updUnbalance i fun x => { x with inputInvalid := true })
  else s

end Sys2Proof.Machine
end

