-- ==== Sys2Proof/Machine/Duty.lean ====
section
/-! DEFINITION. Thermal Duty and Cooldown (chapter 05): the thermal image, the discharge timer, the operations count and
the duty bar. -/

namespace Sys2Proof.Machine

/-! ## The thermal image -/

/-- R76: the heat mode of a step state. -/
def heatModeOf : StepState → HeatMode
  | .inService | .closing | .opening | .failed => .service
  | .withdrawn | .unresolved | .cooling | .ready | .lockout => .cooldown

/-- R76: a step state report sets the heat mode, last P too while the row is DAMAGED (notes/assumptions/50.md). -/
def DutyLive.setMode (m : HeatMode) (d : DutyLive) : DutyLive :=
  match m with
  | .service => { d with mode := .service }
  | .cooldown => { d with mode := .cooldown, lastP := 0, heatTripOperated := false }

/-- E of one phase, the sum of RMS_h² (R77 step 1); none for an INVALID record. -/
def phaseEnergy (record : ResultRecord) : Option Nat :=
  if record.quality = .invalid then none else some (record.rms.toList.foldl (fun e x => e + x * x) 0)

/-- The largest of the energies present (R77 step 1). -/
def largest (es : List (Option Nat)) : Option Nat :=
  es.foldl (fun m e => match m, e with
    | some a, some b => some (max a b)
    | some a, none => some a
    | none, e => e) none

/-- R77 steps 2 to 4: the load figure P of an effective energy `e` on the rated current. -/
def loadFigure (rated e : Nat) : Nat :=
  let l := min 4095 (isqrt e * 1024 / rated)
  l * l

/-- R77 step 5 and R78: H + trunc((P − H) / 2^k). -/
def heatToward (h p k : Nat) : Nat :=
  ((h : Int) + ((p : Int) - h).tdiv (2 ^ k)).toNat

/-- R80: the heat alarm judged after a heat update. -/
def judgeHeatAlarm (i : Fin 8) (row : StepRow) (s : State) : State :=
  let d := s.duty.steps[i]
  if row.heatAlarm ≤ d.heat ∧ !d.heatAlarm then
    logEvent .heatAlarm (.step i) (some d.heat) (s.updDuty i fun x => { x with heatAlarm := true })
  else if d.heat ≤ row.heatReclose ∧ d.heatAlarm then
    logEvent .heatAlarmClear (.step i) (some d.heat) (s.updDuty i fun x => { x with heatAlarm := false })
  else s

/-- The latest records of the three phase currents of a step. -/
def phaseRecords (i : Fin 8) (s : State) : List ResultRecord :=
  [s.engine.results[stepInput i 0], s.engine.results[stepInput i 1], s.engine.results[stepInput i 2]]

/-- R81: whether the heat trip operates. -/
def heatTripDue (i : Fin 8) (row : StepRow) (s : State) : Bool :=
  row.heatTrip ≤ s.duty.steps[i].heat ∧ (phaseRecords i s).all (fun r => r.quality = .good) ∧
    (s.stepState i = .inService ∨ s.stepState i = .closing ∨ s.stepState i = .opening) ∧
    !s.duty.steps[i].heatTripOperated

/-- R81: the heat trip. -/
def judgeHeatTrip (i : Fin 8) (row : StepRow) (s : State) : State :=
  if heatTripDue i row s then
    let h := s.duty.steps[i].heat
    let s := s.updDuty i fun x => { x with heatTripOperated := true }
    let s := logEvent .heatTrip (.step i) (some h) s
    let s := hand (.commandRequest { unit := stepUnit i, kind := .opn, cls := .trip, cause := .overheat }) s
    let s := hand (.captureTrigger .heatTrip (some i)) s
    abandonNull i s
  else s

/-- R77: the heat update of step `i` at a publication of its phase-A input. -/
def heatUpdate (i : Fin 8) (s : State) : State :=
  let row := s.stepRow i
  if s.duty.steps[i].mode = .service ∧ !s.stepDamaged i then
    let p := match largest ((phaseRecords i s).map phaseEnergy) with
      | some e => loadFigure row.rated e
      | none => s.duty.steps[i].lastP
    let s := s.updDuty i fun d => { d with lastP := p, heat := heatToward d.heat p row.thermalCode }
    judgeHeatTrip i row (judgeHeatAlarm i row s)
  else s

/-- R78: the cooldown update of step `i` at a tick of the seconds clock. -/
def cooldownUpdate (i : Fin 8) (s : State) : State :=
  let row := s.stepRow i
  if s.duty.steps[i].mode = .cooldown ∧ !s.stepDamaged i then
    judgeHeatAlarm i row (s.updDuty i fun d => { d with heat := heatToward d.heat 0 (row.thermalCode - 6) })
  else s

/-! ## The discharge timer -/

/-- Discharge remaining in whole seconds: above 0 while the timer is RUNNING, 0 when it is STOPPED (5.3, R83). -/
def DutyLive.remaining (d : DutyLive) : Nat :=
  match d.discharge with
  | some ms => max 1 ((ms + 999) / 1000)
  | none => 0

/-- Discharge remaining of step `i`. -/
def dischargeRemaining (i : Fin 8) (s : State) : Nat := s.duty.steps[i].remaining

/-- R82: the discharge timer of step `i` is loaded, with 900 s while its row is DAMAGED. -/
def loadDischarge (i : Fin 8) (s : State) : State :=
  let t := if s.stepDamaged i then 900 else (s.stepRow i).dischargeTime
  s.updDuty i fun d => { d with discharge := some (t * 1000) }

/-! ## The operations count and the duty bar -/

/-- R86: the duty bar re-formed against the limit and base, with its event; not while the row is DAMAGED. -/
def reformDutyBar (i : Fin 8) (s : State) : State :=
  let row := s.stepRow i
  let d := s.duty.steps[i]
  if s.stepDamaged i then s
  else if row.opsLimit ≤ d.operations then
    if d.dutyBar then s
    else logEvent .dutyBarSet (.step i) (some d.operations) (s.updDuty i fun x => { x with dutyBar := true })
  else if d.operations ≤ row.opsBase then
    if d.dutyBar then
      logEvent .dutyBarClear (.step i) (some d.operations) (s.updDuty i fun x => { x with dutyBar := false })
    else s
  else s

/-- The decay period in force, 120 min while the row is DAMAGED (R85, R88), counted in ms from the timer's start
(notes/assumptions/57.md). -/
def decayTime (i : Fin 8) (s : State) : Nat :=
  (if s.stepDamaged i then 120 else (s.stepRow i).decayPeriod) * 60000

/-- R84: an operation is reported: the count rises, saturating at 15, the bar is re-formed, a STOPPED decay timer
starts, with 120 min while the row is DAMAGED (notes/assumptions/50.md). -/
def operationReport (i : Fin 8) (s : State) : State :=
  let t := decayTime i s
  let s := s.updDuty i fun d =>
    { d with
      operations := min Config.operationsMax (d.operations + 1)
      decay := if d.decay.isNone ∧ d.operations < Config.operationsMax then some t else d.decay }
  reformDutyBar i s

/-- R85: the decay timer of step `i` runs out. -/
def decayExpiry (i : Fin 8) (s : State) : State :=
  if s.duty.steps[i].decay.isSome then
    let t := decayTime i s
    let s := s.updDuty i fun d =>
      { d with operations := d.operations - 1, decay := if 1 < d.operations then some t else none }
    reformDutyBar i s
  else s

/-- R87: whether step `i` is cool enough to close; NO while its row is DAMAGED. -/
def coolEnough (i : Fin 8) (s : State) : Bool :=
  !s.stepDamaged i && s.duty.steps[i].heat ≤ (s.stepRow i).heatReclose

/-- R87: whether step `i` is duty-barred; SET while its row is DAMAGED. -/
def dutyBarred (i : Fin 8) (s : State) : Bool :=
  s.stepDamaged i || s.duty.steps[i].dutyBar

end Sys2Proof.Machine
end

