-- ==== Sys2Proof/Machine/Supervisor.lean ====
section
/-! DEFINITION. Step States and the Rotation Lists (chapter 06): the change of a step's state, position reports, starts
and outcomes of operations, lockout, withdrawal and the settings-fault path. -/

namespace Sys2Proof.Machine

/-! ## Numbers and names -/

/-- The number of a cause (6.1). -/
def causeNumber : StateCause → Nat
  | .restore => 1
  | .resolved => 2
  | .intermediate => 3
  | .withdraw => 4
  | .settingsFault => 5
  | .grant => 6
  | .closeDone => 7
  | .control => 8
  | .deadLine => 9
  | .overheat => 10
  | .unbalance => 11
  | .closeFail => 12
  | .openFail => 13
  | .breakerFail => 14
  | .uncommandedOpen => 15
  | .uncommandedClose => 16
  | .discharged => 17
  | .recharge => 18
  | .lockoutReset => 19
  | .unitBusy => 20

/-- The event of the state entered (6.1). -/
def stateEvent : StepState → EventKind
  | .withdrawn => .stepWithdrawn
  | .unresolved => .stepUnresolved
  | .cooling => .stepCooling
  | .ready => .stepReady
  | .closing => .stepClosing
  | .inService => .stepIn
  | .opening => .stepOpening
  | .lockout => .stepLockout
  | .failed => .stepFailed

/-- The cause of a step's state change at a trip start (R101). -/
def tripStateCause : TripCause → StateCause
  | .unbalance => .unbalance
  | .overheat => .overheat
  | .deadLine => .deadLine
  | .settingsFault => .settingsFault

/-- The cause of the STEP_LOCKOUT event (R96, R104, R105). -/
def lockoutStateCause : LockoutCause → StateCause
  | .unbalance => .unbalance
  | .settingsFault => .settingsFault
  | .closeFail => .closeFail
  | .breakerFail => .breakerFail

/-- The states that take a step into the Open List (R92). -/
def isResting (x : StepState) : Bool := x = .cooling ∨ x = .ready

/-- The states a step cannot be operated from and in which a CLOSED breaker raises the out-of-service close alarm. -/
def isOutOfService (x : StepState) : Bool := x = .lockout ∨ x = .withdrawn

/-! ## Changes of state -/

/-- The operation of a step in CLOSING or OPENING: its class, its cause, and whether it holds the switching slot. -/
structure Operation where
  cls : CmdClass
  cause : StateCause
  slotHeld : Bool
deriving DecidableEq, Repr

/-- The lists after step `i` has gone from state `old` to state `new` (R92). -/
def moveOpenList (i : Fin 8) (old new : StepState) (l : List (Fin 8)) : List (Fin 8) :=
  if isResting new then (if isResting old then l else l.erase i ++ [i]) else l.erase i

def moveClosedList (i : Fin 8) (old new : StepState) (l : List (Fin 8)) : List (Fin 8) :=
  if new = .inService then (if old = .inService then l else l.erase i ++ [i]) else l.erase i

/-- The live fields of a step that enters state `new` (R93, R98, R99, R102). -/
def StepLive.enter (new : StepState) (op : Option Operation) (lock : Option LockoutCause) (x : StepLive) : StepLive :=
  { x with
    state := new
    opClass := op.map Operation.cls
    opCause := op.map Operation.cause
    slotHeld := (op.map Operation.slotHeld).getD false
    lockoutPending := if isOutOfService new || isResting new then none else x.lockoutPending
    lockoutCause := lock
    resolutionDue := new = .unresolved
    unsupervised := x.unitSupervision = .silent ∧ new ≠ .withdrawn
    outOfServiceClose := isOutOfService new ∧ x.lastPosition = some .closed }

/-- The events of the alarms that a change of state from `x` to `y` moves (R98, R99). -/
def logAlarms (i : Fin 8) (x y : StepLive) (s : State) : State :=
  let s := if y.unsupervised ∧ !x.unsupervised then logEvent .positionUnsupervised (.step i) none s else s
  let s := if x.unsupervised ∧ !y.unsupervised then logEvent .positionSupervised (.step i) none s else s
  if y.outOfServiceClose then logEvent .closedOutOfService (.step i) none s else s

/-- R93: the four reports of a change of state. -/
def handReports (r : StepReport) (s : State) : State :=
  hand (.controlStepReport r) (hand (.harmonicStepReport r) (hand (.unbalanceStepReport r) (hand (.heatModeChange r) s)))

/-- R93: step `i` enters state `new` with its cause, in one event: the state and the lists, the event of the state
entered, and the four reports. -/
def changeStep (i : Fin 8) (new : StepState) (cause : StateCause) (op : Option Operation) (lock : Option LockoutCause)
    (s : State) : State :=
  let x := s.supervisor.steps[i]
  let y := x.enter new op lock
  let s := { s with
    supervisor :=
      { steps := s.supervisor.steps.set i y
        openList := moveOpenList i x.state new s.supervisor.openList
        closedList := moveClosedList i x.state new s.supervisor.closedList } }
  let s := logEvent (stateEvent new) (.step i) (some (causeNumber cause)) s
  let s := logAlarms i x y s
  handReports { step := i, old := x.state, new := new, cause := cause, slotHeld := x.slotHeld } s

/-- A change to a state that is no operation and no lockout. -/
def moveStep (i : Fin 8) (new : StepState) (cause : StateCause) (s : State) : State :=
  changeStep i new cause none none s

/-- R92: COOLING while discharge remaining is above 0, READY when it is 0. -/
def restingState (i : Fin 8) (s : State) : StepState :=
  if 0 < dischargeRemaining i s then .cooling else .ready

/-- The step comes to rest in COOLING or READY. -/
def restStep (i : Fin 8) (cause : StateCause) (s : State) : State :=
  moveStep i (restingState i s) cause s

/-- The step enters LOCKOUT. -/
def lockStep (i : Fin 8) (lock : LockoutCause) (s : State) : State :=
  changeStep i .lockout (lockoutStateCause lock) none (some lock) s

/-- The step enters CLOSING or OPENING. -/
def operateStep (i : Fin 8) (new : StepState) (op : Operation) (s : State) : State :=
  changeStep i new op.cause (some op) none s

/-- R82 and R106: a discharge loading is handed to the duty monitor, and a step in READY goes back to COOLING in the same
event. -/
def handLoading (i : Fin 8) (s : State) : State :=
  let s := loadDischarge i s
  if s.stepState i = .ready then moveStep i .cooling .recharge s else s

/-! ## Lockout pending (R102) -/

/-- The precedence of a pending cause: SETTINGS_FAULT above UNBALANCE above CLOSE_FAIL. -/
def pendingRank : LockoutCause → Nat
  | .settingsFault => 3
  | .unbalance => 2
  | .closeFail => 1
  | .breakerFail => 0

/-- The cause of higher precedence stays. -/
def raisePending (c : LockoutCause) (held : Option LockoutCause) : Option LockoutCause :=
  match held with
  | some h => if pendingRank h < pendingRank c then some c else some h
  | none => some c

def setPending (i : Fin 8) (c : LockoutCause) (s : State) : State :=
  s.updStep i fun x => { x with lockoutPending := raisePending c x.lockoutPending }

/-! ## Position reports (R94 to R98) -/

/-- R94: the reports to the duty monitor for a position that has changed and is no resolution: an operation report at
OPEN or CLOSED, a loading at OPEN when the settled position was CLOSED. -/
def dutyReports (i : Fin 8) (pos : Position) (settled : Option Position) (s : State) : State :=
  let s := if pos = .intermediate then s else operationReport i s
  if pos = .opened ∧ settled = some .closed then handLoading i s else s

/-- R95: the report resolves the step. -/
def resolveStep (i : Fin 8) (pos : Position) (s : State) : State :=
  let s := s.updStep i fun x => { x with resolutionDue := false }
  match pos with
  | .opened => restStep i .resolved (handLoading i s)
  | .closed => moveStep i .inService .resolved s
  | .intermediate => moveStep i .withdrawn .intermediate s

/-- R96: an uncommanded open of a step in IN. -/
def uncommandedOpen (i : Fin 8) (s : State) : State :=
  match s.supervisor.steps[i].lockoutPending with
  | some c => lockStep i c s
  | none => restStep i .uncommandedOpen s

/-- R97: an uncommanded close of a step in COOLING or READY. -/
def uncommandedClose (i : Fin 8) (s : State) : State :=
  let left := dischargeRemaining i s
  let s := moveStep i .inService .uncommandedClose s
  if 0 < left then logEvent .closedUndischarged (.step i) (some left) s else s

/-- R98: the out-of-service close alarm of a step in LOCKOUT or WITHDRAWN follows OPEN and CLOSED reports; an INTERMEDIATE
one leaves it as it stands (notes/assumptions/58.md). -/
def outOfServiceReport (i : Fin 8) (pos : Position) (s : State) : State :=
  let was := s.supervisor.steps[i].outOfServiceClose
  match pos with
  | .closed =>
    let s := s.updStep i fun x => { x with outOfServiceClose := true }
    if was then s else logEvent .closedOutOfService (.step i) none s
  | .opened => s.updStep i fun x => { x with outOfServiceClose := false }
  | .intermediate => s

/-- R96 to R98 and R105: what a report of a position other than the last does in a step that it does not resolve. -/
def positionByState (i : Fin 8) (pos : Position) (s : State) : State :=
  match s.stepState i, pos with
  | .inService, .opened => uncommandedOpen i s
  | .cooling, .closed => uncommandedClose i s
  | .ready, .closed => uncommandedClose i s
  | .failed, .opened => lockStep i .breakerFail s
  | .lockout, _ => outOfServiceReport i pos s
  | .withdrawn, _ => outOfServiceReport i pos s
  | _, _ => s

/-- The last and settled positions after a report (R94). -/
def StepLive.seePosition (pos : Position) (x : StepLive) : StepLive :=
  { x with
    lastPosition := some pos
    settledPosition := if pos = .intermediate then x.settledPosition else some pos }

/-- R94: a position report is taken. It acts when the position differs from the last one or a resolution is due. The
alarm that an entry into LOCKOUT or WITHDRAWN re-forms reads the position this report carries
(notes/assumptions/15.md). -/
def takePosition (i : Fin 8) (pos : Position) (s : State) : State :=
  let x := s.supervisor.steps[i]
  let changed : Bool := x.lastPosition ≠ some pos
  if changed || x.resolutionDue then
    let resolution : Bool := x.resolutionDue || x.lastPosition = none
    let s := s.updStep i (StepLive.seePosition pos)
    let s := if pos = .intermediate then logEvent .positionIntermediate (.step i) none s else s
    let s := if changed && !resolution then dutyReports i pos x.settledPosition s else s
    if x.resolutionDue then resolveStep i pos s else positionByState i pos s
  else s

/-- R99: a SILENT or ALIVE notice sets the copy and re-forms the unsupervised alarm. -/
def takeSupervision (i : Fin 8) (sup : Supervision) (s : State) : State :=
  let x := s.supervisor.steps[i]
  let y := { x with unitSupervision := sup, unsupervised := sup = .silent ∧ x.state ≠ .withdrawn }
  let s := s.updStep i fun _ => y
  if y.unsupervised ∧ !x.unsupervised then logEvent .positionUnsupervised (.step i) none s
  else if x.unsupervised ∧ !y.unsupervised then logEvent .positionSupervised (.step i) none s
  else s

/-! ## Operations (R100 to R105) -/

/-- R100: a close start, taken with the grant: a READY step enters CLOSING holding the slot, and the close is requested
of the command engine. -/
def closeStart (i : Fin 8) (cause : Cause) (s : State) : State :=
  if s.stepState i = .ready then
    hand (.commandRequest { unit := stepUnit i, kind := .close, cls := .control, cause := cause })
      (operateStep i .closing { cls := .control, cause := .grant, slotHeld := true } s)
  else s

/-- R100: an open start of class CONTROL, taken with the grant. -/
def openStart (i : Fin 8) (cause : Cause) (s : State) : State :=
  if s.stepState i = .inService then
    hand (.commandRequest { unit := stepUnit i, kind := .opn, cls := .control, cause := cause })
      (operateStep i .opening { cls := .control, cause := .grant, slotHeld := true } s)
  else s

/-- R100: a UNIT_BUSY refusal. A step in CLOSING goes back to the Open List (READY, by R92), a step in OPENING that holds
the slot with class CONTROL back to IN, and the refusal is passed on; in any other case nothing changes. -/
def takeBusy (r : BusyRefusal) (s : State) : State :=
  let x := s.supervisor.steps[r.step]
  match r.kind with
  | .close =>
    if x.state = .closing then
      hand (.switchOutcome r.step .close (.unitBusy r.cause)) (restStep r.step .unitBusy s)
    else s
  | .opn =>
    if x.state = .opening ∧ x.opClass = some .control ∧ x.slotHeld then
      hand (.switchOutcome r.step .opn (.unitBusy r.cause)) (moveStep r.step .inService .unitBusy s)
    else s

/-- R101: a trip start. -/
def takeTripStart (i : Fin 8) (c : TripCause) (s : State) : State :=
  let x := s.supervisor.steps[i]
  let cause := tripStateCause c
  match x.state with
  | .inService => operateStep i .opening { cls := .trip, cause := cause, slotHeld := false } s
  | .closing => operateStep i .opening { cls := .trip, cause := cause, slotHeld := false } s
  | .opening =>
    if x.opClass = some .trip then s
    else s.updStep i fun y => { y with opClass := some .trip, opCause := some cause }
  | _ => s

/-- R102: an unbalance lockout notice. -/
def takeLockoutNotice (i : Fin 8) (s : State) : State :=
  match s.stepState i with
  | .inService | .closing | .opening | .failed => setPending i .unbalance s
  | .cooling | .ready => lockStep i .unbalance s
  | .lockout | .unresolved | .withdrawn => s

/-- R103: a failed close, in the order the rule gives. -/
def failedClose (i : Fin 8) (s : State) : State :=
  let s := handLoading i s
  let s := setPending i .closeFail s
  let s := operateStep i .opening { cls := .control, cause := .closeFail, slotHeld := false } s
  hand (.commandRequest { unit := stepUnit i, kind := .opn, cls := .control, cause := .closeFail }) s

/-- The result passed on to switching control for an outcome (R103, R104, R128). -/
def passedResult : CmdOutcome → SwitchResult
  | .done => .done
  | _ => .failed

/-- R103: the outcome of a close. -/
def takeCloseOutcome (i : Fin 8) (o : CmdOutcome) (s : State) : State :=
  if s.stepState i = .closing then
    let s := if o = .done then moveStep i .inService .closeDone s else failedClose i s
    hand (.switchOutcome i .close (passedResult o)) s
  else s

/-- R104: the step entered by a DONE open without a lockout pending: cause CONTROL for class CONTROL, and otherwise the
trip's operation cause. -/
def openedCause (x : StepLive) : StateCause :=
  if x.opClass = some .trip then x.opCause.getD .control else .control

/-- R104, R105: the change of state that the outcome of an open makes in a step in OPENING. -/
def openOutcomeMove (i : Fin 8) (o : CmdOutcome) (s : State) : State :=
  let x := s.supervisor.steps[i]
  match o, x.lockoutPending with
  | .done, some c => lockStep i c s
  | .done, none => restStep i (openedCause x) s
  | _, _ => hand (.captureTrigger .breakerFailure (some i)) (moveStep i .failed .openFail s)

/-- R104, R105: the outcome of an open; a step that holds the slot passes it on to switching control. -/
def takeOpenOutcome (i : Fin 8) (o : CmdOutcome) (s : State) : State :=
  let x := s.supervisor.steps[i]
  if x.state = .opening then
    let s := openOutcomeMove i o s
    if x.slotHeld then hand (.switchOutcome i .opn (passedResult o)) s else s
  else s

/-- R106: a discharged report moves a step in COOLING to READY; as every path into READY, it is judged against the duty
monitor's figure when it is taken, so a report overtaken by a new loading moves nothing. -/
def takeDischarged (i : Fin 8) (s : State) : State :=
  if s.stepState i = .cooling ∧ dischargeRemaining i s = 0 then moveStep i .ready .discharged s else s

/-! ## Settings fault (R110) -/

def settingsFault (i : Fin 8) (s : State) : State :=
  match s.stepState i with
  | .withdrawn | .lockout => s
  | .unresolved | .cooling | .ready => moveStep i .withdrawn .settingsFault s
  | .inService | .closing | .opening =>
    hand (.commandRequest { unit := stepUnit i, kind := .opn, cls := .trip, cause := .settingsFault })
      (setPending i .settingsFault s)
  | .failed => setPending i .settingsFault s

end Sys2Proof.Machine
end

