-- ==== Sys2Proof/Machine/Switching.lean ====
section
/-! DEFINITION. Voltage Switching Control (chapter 07): the control quantity, the line state, automatic control, the
switching request queue and slot, and the selection record. -/

namespace Sys2Proof.Machine

/-- The conditions of R127. -/
inductive Condition where
  | state
  | line
  | maximum
  | resonance
  | unit
  | settings
  | stepFailed
  | position
  | unitBusy
  | voltage
  | noStep
  | reasonGone
  | queueFull
  | settle
  | mode
  | dead
  | lockout
  | withdrawn
deriving DecidableEq, Repr

/-- The numbers of R127. -/
def conditionNumber : Condition → Nat
  | .state => 1
  | .line => 2
  | .maximum => 3
  | .resonance => 4
  | .unit => 5
  | .settings => 6
  | .stepFailed => 7
  | .position => 8
  | .unitBusy => 9
  | .voltage => 10
  | .noStep => 11
  | .reasonGone => 12
  | .queueFull => 13
  | .settle => 14
  | .mode => 15
  | .dead => 16
  | .lockout => 17
  | .withdrawn => 18

/-- The first check of a list that fails, by its condition. -/
def firstFailing : List (Bool × Condition) → Option Condition
  | [] => none
  | (ok, c) :: rest => if ok then firstFailing rest else some c

/-! ## The queue (R123) -/

def QueueEntry.isAuto (e : QueueEntry) : Bool :=
  match e.origin with
  | .auto _ => true
  | .manual _ => false

/-- R123: whether `a` stands ahead of `b`: MANUAL before AUTO, OPEN before CLOSE, then the earlier arrival. -/
def QueueEntry.ahead (a b : QueueEntry) : Bool :=
  if a.isAuto ≠ b.isAuto then !a.isAuto
  else if a.kind ≠ b.kind then a.kind = .opn
  else a.arrival < b.arrival

/-- R123: an arriving entry takes its place in the order, behind the entries it does not stand ahead of. -/
def insertEntry (e : QueueEntry) (q : List QueueEntry) : List QueueEntry :=
  q.takeWhile (fun x => !e.ahead x) ++ [e] ++ q.dropWhile (fun x => !e.ahead x)

def hasAuto (s : State) : Bool := s.switching.queue.any QueueEntry.isAuto

def queueRoom (s : State) : Bool := s.switching.queue.length < Config.queueCapacity

/-- The deferral event of an AUTO entry by its kind. -/
def deferralEvent : CmdKind → EventKind
  | .close => .closeDeferred
  | .opn => .openDeferred

/-- A deferral event; an AUTO entry names no step, so its subject is none (R121, notes/assumptions/19.md). -/
def defer (k : CmdKind) (c : Condition) (s : State) : State :=
  logEvent (deferralEvent k) .none (some (conditionNumber c)) s

/-- A MANUAL_REFUSED event, with the step or unit 8 as subject (R127). -/
def refuse (t : Fin 9) (c : Condition) (s : State) : State :=
  logEvent .manualRefused (targetSubject t) (some (conditionNumber c)) s

/-- The waiting AUTO entry, if there is one, leaves the queue with its deferral event. -/
def withdrawAuto (c : Condition) (s : State) : State :=
  match s.switching.queue.find? QueueEntry.isAuto with
  | some e => defer e.kind c (s.updSwitching fun w => { w with queue := w.queue.eraseP QueueEntry.isAuto })
  | none => s

/-- The high and low timers STOPPED and the expiry held mark clear. -/
def stopBandTimers (s : State) : State :=
  s.updSwitching fun w => { w with high := .stopped, low := .stopped, expiryHeld := none }

/-- AUTO_SETTLE, with the settle timer started from 0 and the band timers stopped (R122). -/
def startSettle (s : State) : State :=
  (stopBandTimers s).updSwitching fun w => { w with control := .autoSettle, settle := some 0 }

/-! ## Grants (R124 to R127) -/

def unitAlive (u : Fin 9) (s : State) : Bool := s.commands[u].supervision = .alive

/-- ALIVE, with the mechanism reported ready. -/
def unitReady (u : Fin 9) (s : State) : Bool := unitAlive u s && s.commands[u].ready

def isSelected (t : Fin 9) (s : State) : Bool :=
  match s.switching.selection with
  | some x => x.target = t
  | none => false

/-- R127: the checks of a MANUAL entry, in order; none when every check passes. -/
def manualCheck (t : Fin 9) (k : CmdKind) (s : State) : Option Condition :=
  match unitStep t, k with
  | some i, .close => firstFailing
      [(s.stepState i = .ready, .state),
       (!s.yardDamaged && !s.stepDamaged i, .settings),
       (s.switching.line = .live, .line),
       (s.energisedCount < s.yard.maxSteps, .maximum),
       (!countBlocked (s.energisedCount + 1) s, .resonance),
       (unitReady t s, .unit)]
  | some i, .opn => firstFailing [(s.stepState i = .inService, .state), (unitAlive t s, .unit)]
  | none, .close => firstFailing
      [(s.countIn .failed = 0, .stepFailed),
       (s.commands[t].position ≠ some .closed, .position),
       (unitReady t s, .unit)]
  | none, .opn => firstFailing [(s.commands[t].position ≠ some .opened, .position), (unitAlive t s, .unit)]

/-- The granted operation is started: the step supervisor's start, or a request for unit 8 (R124). -/
def startOperation (t : Fin 9) (k : CmdKind) (cause : Cause) (s : State) : State :=
  match unitStep t, k with
  | some i, .close => closeStart i cause s
  | some i, .opn => openStart i cause s
  | none, k => hand (.commandRequest { unit := t, kind := k, cls := .control, cause := cause }) s

/-- The cause that switching control names (R124). -/
def reasonCause : Option Reason → Cause
  | some .high => .autoVoltage
  | some .low => .autoVoltage
  | some .detune => .autoDetune
  | none => .manual

/-- A grant that passes: the slot becomes HELD with its holder record, and the operation starts. -/
def grantTo (t : Fin 9) (k : CmdKind) (reason : Option Reason) (s : State) : State :=
  startOperation t k (reasonCause reason) (s.updSwitching fun w =>
    { w with holder := some { target := t, kind := k, reason := reason } })

/-- An AUTO entry dropped at grant: its deferral event, and AUTO_SETTLE (R125, R126). -/
def dropAuto (k : CmdKind) (c : Condition) (s : State) : State :=
  startSettle (defer k c s)

/-- R127: a MANUAL entry at grant. -/
def grantManual (t : Fin 9) (k : CmdKind) (s : State) : State :=
  match manualCheck t k s with
  | some c => refuse t c s
  | none => grantTo t k none s

/-- R125: whether a step of the Open List is eligible for an AUTO CLOSE. -/
def eligible (s : State) (i : Fin 8) : Bool :=
  s.stepState i = .ready && !dutyBarred i s && coolEnough i s && unitReady (stepUnit i) s && !isSelected (stepUnit i) s

/-- Whether the latest evaluation is valid with V_ctrl satisfying `p`. -/
def vctrlValid (p : Nat → Bool) (s : State) : Bool :=
  s.switching.valid && (s.switching.vctrl.map p).getD false

/-- R125: an AUTO CLOSE at grant. -/
def grantAutoClose (reason : Reason) (s : State) : State :=
  let checks := firstFailing
    [(vctrlValid (fun v => v < s.switching.uLo) s, .reasonGone),
     (s.switching.line = .live, .line),
     (s.energisedCount < s.yard.maxSteps, .maximum),
     (!countBlocked (s.energisedCount + 1) s, .resonance)]
  match checks, s.supervisor.openList.find? (eligible s) with
  | some c, _ => dropAuto .close c s
  | none, none => dropAuto .close .noStep s
  | none, some i => grantTo (stepUnit i) .close (some reason) s

/-- R126: whether the reason of an AUTO OPEN still stands. -/
def openReasonStands (reason : Reason) (s : State) : Bool :=
  match reason with
  | .detune => 1 ≤ s.inCount && countBlocked s.inCount s
  | _ => vctrlValid (fun v => s.switching.uHi < v) s

/-- R126: the candidates of an AUTO OPEN, in list order. -/
def openCandidates (s : State) : List (Fin 8) :=
  s.supervisor.closedList.filter fun i => !s.supervisor.steps[i].unsupervised && !isSelected (stepUnit i) s

/-- R126: the first candidate whose duty bar is CLEAR, or the first when every one is barred. -/
def openChoice (s : State) : Option (Fin 8) :=
  match (openCandidates s).find? fun i => !dutyBarred i s with
  | some i => some i
  | none => (openCandidates s).head?

/-- R126: an AUTO OPEN at grant. -/
def grantAutoOpen (reason : Reason) (s : State) : State :=
  if openReasonStands reason s then
    match openChoice s with
    | some i => grantTo (stepUnit i) .opn (some reason) s
    | none => dropAuto .opn .noStep s
  else dropAuto .opn .reasonGone s

/-- The grant of one entry that has left the queue. -/
def grantEntry (e : QueueEntry) (s : State) : State :=
  match e.origin, e.kind with
  | .manual t, k => grantManual t k s
  | .auto r, .close => grantAutoClose r s
  | .auto r, .opn => grantAutoOpen r s

/-- R124: while the slot is FREE the head entry is granted; `n` bounds the entries. -/
def grantLoop : Nat → State → State
  | 0, s => s
  | n + 1, s =>
    match s.switching.holder, s.switching.queue with
    | none, e :: rest => grantLoop n (grantEntry e (s.updSwitching fun w => { w with queue := rest }))
    | _, _ => s

/-- R124: the waiting entries are granted while the slot is FREE. -/
def grantWaiting (s : State) : State :=
  grantLoop s.switching.queue.length s

/-- An arriving entry takes its place in the queue (R123). -/
def enqueue (k : CmdKind) (o : Origin) (s : State) : State :=
  let e : QueueEntry := { kind := k, origin := o, arrival := s.timebase }
  s.updSwitching fun w => { w with queue := insertEntry e w.queue }

/-- An entry arrives in the queue, and the head is granted at once if the slot is FREE (R123, R124). -/
def arrive (k : CmdKind) (o : Origin) (s : State) : State := grantWaiting (enqueue k o s)

/-- AUTO_PENDING, with the band timers stopped (R121, R123). -/
def goPending (s : State) : State :=
  (stopBandTimers s).updSwitching fun w => { w with control := .autoPending }

/-- An AUTO entry arrives: the band timers stop and the state becomes AUTO_PENDING (R121, R123). -/
def arriveAuto (k : CmdKind) (reason : Reason) (s : State) : State :=
  arrive k (.auto reason) (goPending s)

/-! ## Timer expiries (R119, R121, R122) -/

/-- R121: the parts of a high timer expiry's condition, with the ΔV `rise` in force at that expiry (R114). Where more than
one part fails, the deferral names the voltage before the count and the count before the queue
(notes/assumptions/53.md). -/
def highCheck (rise : Nat) (s : State) : Option Condition :=
  firstFailing
    [((s.switching.vctrl.map fun v => decide (s.switching.uLo + rise < v)).getD false, .voltage),
     (1 ≤ s.inCount, .noStep),
     (queueRoom s, .queueFull)]

/-- R121: the judgement of a high timer expiry. -/
def judgeHigh (rise : Nat) (s : State) : State :=
  match highCheck rise s with
  | some c => startSettle (defer .opn c s)
  | none => arriveAuto .opn .high s

/-- R121: the voltage part of a low timer expiry's condition. -/
def lowVoltage (rise : Nat) (s : State) : Bool :=
  (s.switching.vctrl.map fun v => decide (v + rise < s.switching.uHi)).getD false

/-- R121: the parts of a low timer expiry's condition, in the same order. The maximum steps in service is the one in force
at the judgement, also where an expiry was held (notes/assumptions/63.md). -/
def lowCheck (rise : Nat) (s : State) : Option Condition :=
  firstFailing
    [(lowVoltage rise s, .voltage), (s.energisedCount < s.yard.maxSteps, .maximum), (queueRoom s, .queueFull)]

/-- R121: the judgement of a low timer expiry. -/
def judgeLow (rise : Nat) (s : State) : State :=
  match lowCheck rise s with
  | some c => startSettle (defer .close c s)
  | none => arriveAuto .close .low s

/-- R121: a held expiry is judged once the selection is gone, with the ΔV it was held with. -/
def judgeHeld (s : State) : State :=
  match s.switching.expiryHeld, s.switching.control with
  | some rise, .autoHigh => judgeHigh rise s
  | some rise, .autoLow => judgeLow rise s
  | _, _ => s

def BandTimer.isRunning : BandTimer → Bool
  | .running _ => true
  | _ => false

/-- R121: whether the high timer can expire. -/
def highRuns (s : State) : Bool :=
  s.switching.control = .autoHigh ∧ s.switching.high.isRunning ∧ s.switching.expiryHeld.isNone

/-- R121: whether the low timer can expire. -/
def lowRuns (s : State) : Bool :=
  s.switching.control = .autoLow ∧ s.switching.low.isRunning ∧ s.switching.expiryHeld.isNone

/-- R121: the high timer reaches its delay; behind a selection the expiry is held and the timer stays at the delay. -/
def highExpiry (s : State) : State :=
  if highRuns s then
    if s.switching.selection.isSome then
      s.updSwitching fun w => { w with expiryHeld := some s.yard.stepRise, high := .running (s.yard.highDelay * 1000) }
    else judgeHigh s.yard.stepRise s
  else s

/-- R121: the low timer reaches its delay. -/
def lowExpiry (s : State) : State :=
  if lowRuns s then
    if s.switching.selection.isSome then
      s.updSwitching fun w => { w with expiryHeld := some s.yard.stepRise, low := .running (s.yard.lowDelay * 1000) }
    else judgeLow s.yard.stepRise s
  else s

/-- R122: the settle timer expires. -/
def settleExpiry (s : State) : State :=
  if s.switching.control = .autoSettle ∧ s.switching.settle.isSome then
    s.updSwitching fun w => { w with control := .autoWatch, settle := none }
  else s

/-- R119: the restore hold timer expires. -/
def restoreExpiry (s : State) : State :=
  if s.switching.line = .restore ∧ s.switching.restore.isSome then
    if s.switching.valid then
      logEvent .lineLive .none none (s.updSwitching fun w => { w with line := .live, restore := none })
    else s.updSwitching fun w => { w with restore := none }
  else s

/-! ## Removal of the selection (R131) -/

/-- The record is removed without an event (OPERATE, CANCEL), and a held expiry is judged. -/
def dropSelection (s : State) : State :=
  judgeHeld (s.updSwitching fun w => { w with selection := none })

/-- The record, if one exists, is removed with an event whose subject is its step, and a held expiry is judged. -/
def removeSelection (k : EventKind) (value : Option Nat) (s : State) : State :=
  match s.switching.selection with
  | some x =>
    judgeHeld (logEvent k (targetSubject x.target) value (s.updSwitching fun w => { w with selection := none }))
  | none => s

/-! ## Settle (R122) -/

/-- R122 (a): the release of the slot at the end of a granted operation. The control state at the release decides, also
for an AUTO operation that was granted before SET_MODE MANUAL and ends after SET_MODE AUTO, whose end R132 has start no
settle (notes/assumptions/66.md). -/
def settleAtRelease (s : State) : State :=
  match s.switching.control with
  | .manual => s
  | .autoWatch | .autoHigh | .autoLow | .autoSettle => startSettle s
  | .autoPending => startSettle (withdrawAuto .settle s)

/-- R122 (b): a step has entered or left IN by a change that is not the slot holder's own. -/
def settleAtMove (s : State) : State :=
  match s.switching.control with
  | .manual => s
  | .autoWatch | .autoHigh | .autoLow | .autoSettle => startSettle s
  | .autoPending => if hasAuto s then startSettle (withdrawAuto .settle s) else s

/-! ## Mode (R132, R133) -/

/-- R132: MANUAL is forced: every timer stops, the mark is cleared, a waiting AUTO entry is withdrawn. -/
def forceManual (s : State) : State :=
  if s.switching.control = .manual then s
  else withdrawAuto .mode ((stopBandTimers s).updSwitching fun w => { w with control := .manual, settle := none })

/-- R133: the Yard Table is found DAMAGED. -/
def yardFoundDamaged (s : State) : State :=
  (forceManual s).updSwitching fun w => { w with restore := none }

/-! ## The line state (R116 to R119) -/

/-- The RMS_1 of the three bus phases. -/
def busFundamentals (s : State) : List Nat :=
  [s.engine.results[0].rms[0], s.engine.results[1].rms[0], s.engine.results[2].rms[0]]

def allBelow (level : Nat) (vs : List Nat) : Bool := vs.all fun v => v < level
def allAtOrAbove (level : Nat) (vs : List Nat) : Bool := vs.all fun v => level ≤ v

/-- R117, step 3: a TRIP OPEN with cause DEAD_LINE is requested for step `i`. -/
def deadLineTrip (i : Fin 8) (s : State) : State :=
  hand (.commandRequest { unit := stepUnit i, kind := .opn, cls := .trip, cause := .deadLine }) s

/-- R117, step 3: for every step in IN or CLOSING. -/
def tripEnergised (s : State) : State :=
  allSteps.foldl (fun s i => if s.stepState i = .inService ∨ s.stepState i = .closing then deadLineTrip i s else s) s

/-- R117, step 5: the event of one CLOSE entry removed. -/
def logRemoved (s : State) (e : QueueEntry) : State :=
  match e.origin with
  | .manual t => refuse t .dead s
  | .auto _ => defer .close .dead s

/-- R117, step 5: every CLOSE entry leaves the queue, its event in the order of the queue, the model's choice
(notes/assumptions/14.md). -/
def removeCloses (s : State) : State :=
  let gone := s.switching.queue.filter fun e => e.kind = .close
  gone.foldl logRemoved (s.updSwitching fun w => { w with queue := w.queue.filter fun e => e.kind = .opn })

/-- R117, step 6: the control state once the close entries are gone; `autoGone` says whether an AUTO entry went. -/
def deadControl (autoGone : Bool) (c : ControlState) : ControlState :=
  match c with
  | .autoHigh => .autoWatch
  | .autoLow => .autoWatch
  | .autoPending => if autoGone then .autoWatch else .autoPending
  | c => c

/-- R117, steps 1 to 3: the line state, the trigger and the trips. -/
def enterDead (s : State) : State :=
  let s := logEvent .lineDead .none none (s.updSwitching fun w => { w with line := .dead, restore := none })
  tripEnergised (hand (.captureTrigger .lineDead none) s)

/-- R117: the line goes DEAD. -/
def goDead (s : State) : State :=
  let s := removeSelection .selectionRemoved (some (conditionNumber .dead)) (enterDead s)
  let autoGone := s.switching.queue.any fun e => e.isAuto && e.kind = .close
  let s := removeCloses s
  (stopBandTimers s).updSwitching fun w => { w with control := deadControl autoGone w.control }

/-- R116: the dead count after an evaluation. -/
def deadCountAfter (valid below : Bool) (c : Nat) : Nat :=
  if valid && below then min Config.deadMax (c + 1) else 0

/-- R116 to R119: an evaluation acts on the line state. -/
def lineRules (s : State) : State :=
  let valid := s.switching.valid
  let below := allBelow s.yard.deadLevel (busFundamentals s)
  let above := allAtOrAbove s.yard.deadLevel (busFundamentals s)
  let s := s.updSwitching fun w => { w with deadCount := deadCountAfter valid below w.deadCount }
  match s.switching.line with
  | .live => if valid && below && s.yard.deadDelay ≤ s.switching.deadCount then goDead s else s
  | .restore =>
    if valid && below then goDead s
    else if valid && above then s.updSwitching fun w => { w with restore := some (w.restore.getD 0) }
    else s.updSwitching fun w => { w with restore := none }
  | .dead =>
    if valid && above then
      logEvent .lineRestore .none none (s.updSwitching fun w => { w with line := .restore, restore := some 0 })
    else s

/-! ## The band (R120) -/

def BandTimer.resume : BandTimer → BandTimer
  | .paused c => .running c
  | t => t

def BandTimer.pause : BandTimer → BandTimer
  | .running c => .paused c
  | t => t

/-- R120: a valid evaluation above U_hi. -/
def bandAbove (w : SwitchingState) : SwitchingState :=
  match w.control with
  | .autoWatch => { w with control := .autoHigh, high := .running 0 }
  | .autoHigh => { w with high := w.high.resume }
  | .autoLow => { w with control := .autoHigh, low := .stopped, expiryHeld := none, high := .running 0 }
  | _ => w

/-- R120: a valid evaluation below U_lo. -/
def bandBelow (w : SwitchingState) : SwitchingState :=
  match w.control with
  | .autoWatch => { w with control := .autoLow, low := .running 0 }
  | .autoLow => { w with low := w.low.resume }
  | .autoHigh => { w with control := .autoLow, high := .stopped, expiryHeld := none, low := .running 0 }
  | _ => w

/-- R120: a valid evaluation within U_lo to U_hi. -/
def bandWithin (w : SwitchingState) : SwitchingState :=
  match w.control with
  | .autoHigh => { w with control := .autoWatch, high := .stopped, expiryHeld := none }
  | .autoLow => { w with control := .autoWatch, low := .stopped, expiryHeld := none }
  | _ => w

/-- R120: an evaluation acts on the control state while the line is LIVE; one that is not valid pauses the timers. -/
def bandRules (s : State) : State :=
  if s.switching.line = .live then
    match s.switching.valid, s.switching.vctrl with
    | true, some v =>
      if s.switching.uHi < v then s.updSwitching bandAbove
      else if v < s.switching.uLo then s.updSwitching bandBelow
      else s.updSwitching bandWithin
    | _, _ => s.updSwitching fun w => { w with high := w.high.pause, low := w.low.pause }
  else s

/-! ## The control quantity (R115) -/

/-- R115: whether an evaluation is valid. -/
def evaluationValid (s : State) : Bool :=
  let r0 := s.engine.results[0]
  let r1 := s.engine.results[1]
  let r2 := s.engine.results[2]
  r0.quality ≠ .invalid ∧ r1.quality ≠ .invalid ∧ r2.quality ≠ .invalid ∧ r1.age ≤ 2 ∧ r2.age ≤ 2

/-- R115: V_ctrl and its validity, with MEAS_VALID or MEAS_INVALID at a change. -/
def formControlQuantity (s : State) : State :=
  let valid := evaluationValid s
  let was := s.switching.valid
  let v := (busFundamentals s).sum / 3
  let s := s.updSwitching fun w => { w with valid := valid, vctrl := if valid then some v else w.vctrl }
  if valid ∧ !was then logEvent .measValid .none none s
  else if was ∧ !valid then logEvent .measInvalid .none none s
  else s

/-- R114: an evaluation takes U_lo and U_hi, which stay in force until the next one; a DAMAGED Yard Table gives none. -/
def takeLimits (s : State) : State :=
  if s.yardDamaged then s else s.updSwitching fun w => { w with uLo := s.yard.uLo, uHi := s.yard.uHi }

/-- R115: the evaluation at a publication of MI 0; the line-state logic is stopped while the Yard Table is DAMAGED
(R133). -/
def controlEvaluation (s : State) : State :=
  let s := takeLimits (formControlQuantity s)
  let s := if s.yardDamaged then s else lineRules s
  bandRules s

/-! ## Reports and outcomes (R118, R122, R128, R131) -/

/-- The causes of a change made by a grant, an outcome or a command refusal of the slot holder's own operation (R122). -/
def isOwnCause (c : StateCause) : Bool := c = .grant ∨ c = .closeDone ∨ c = .unitBusy

/-- The causes of a trip start (R101). -/
def isTripCause (c : StateCause) : Bool :=
  c = .unbalance ∨ c = .overheat ∨ c = .deadLine ∨ c = .settingsFault

/-- R128: the slot is released when its holder is `t`. -/
def releaseSlot (t : Fin 9) (s : State) : State :=
  match s.switching.holder with
  | some h => if h.target = t then s.updSwitching fun w => { w with holder := none } else s
  | none => s

/-- R128: the report of the slot holder's step leaving CLOSING or OPENING releases the slot; one that left CLOSING at a
trip start was overtaken. -/
def releaseByReport (r : StepReport) (s : State) : State :=
  if r.slotHeld ∧ (r.old = .closing ∨ r.old = .opening) then
    let s := releaseSlot (stepUnit r.step) s
    let s := if r.old = .closing ∧ r.new = .opening ∧ isTripCause r.cause then
        logEvent .switchOvertaken (.step r.step) (some 1) s else s
    settleAtRelease s
  else s

/-- R131: the selection of a step that enters LOCKOUT or WITHDRAWN is removed. -/
def selectionByReport (r : StepReport) (s : State) : State :=
  if isSelected (stepUnit r.step) s then
    match r.new with
    | .lockout => removeSelection .selectionRemoved (some (conditionNumber .lockout)) s
    | .withdrawn => removeSelection .selectionRemoved (some (conditionNumber .withdrawn)) s
    | _ => s
  else s

/-- Whether a report tells of a step entering or leaving IN (R122 (b)). -/
def crossesIn (r : StepReport) : Bool :=
  (r.old = .inService ∧ r.new ≠ .inService) ∨ (r.old ≠ .inService ∧ r.new = .inService)

/-- R122, R128: the slot is released and settle starts. -/
def settleByReport (r : StepReport) (s : State) : State :=
  let s := releaseByReport r s
  if crossesIn r && !isOwnCause r.cause then settleAtMove s else s

/-- R118: a step that enters IN while the line is DEAD is tripped. -/
def tripInDead (r : StepReport) (s : State) : State :=
  if s.switching.line = .dead ∧ r.new = .inService ∧ r.old ≠ .inService then deadLineTrip r.step s else s

/-- R93, R118, R122, R128, R131: switching control takes a step state report. Settle comes before the removal of a
selection (notes/assumptions/52.md). -/
def controlReport (r : StepReport) (s : State) : State :=
  grantWaiting (tripInDead r (selectionByReport r (settleByReport r s)))

/-- The value of a SWITCH event: 1 for a close, 2 for an open (R128). -/
def kindNumber : CmdKind → Nat
  | .close => 1
  | .opn => 2

/-- R128: whether a refused request was an AUTO operation's. -/
def isAutoCause (c : Cause) : Bool := c = .autoVoltage ∨ c = .autoDetune

/-- R128: the event of an outcome or refusal passed on for a step. -/
def switchEvent (i : Fin 8) (k : CmdKind) (r : SwitchResult) (s : State) : State :=
  match r with
  | .done => logEvent .switchDone (.step i) (some (kindNumber k)) s
  | .failed => logEvent .switchFailed (.step i) (some (kindNumber k)) s
  | .unitBusy c =>
    logEvent (if isAutoCause c then deferralEvent k else .manualRefused) (.step i)
      (some (conditionNumber .unitBusy)) s

/-- R128: the event of the end of a unit 8 command. -/
def incomerEvent (k : CmdKind) (r : IncomerResult) (s : State) : State :=
  match r with
  | .outcome .done => logEvent .switchDone (.unit incomer) (some (kindNumber k)) s
  | .outcome _ => logEvent .switchFailed (.unit incomer) (some (kindNumber k)) s
  | .unitBusy => refuse incomer .unitBusy s
  | .overtaken => logEvent .switchOvertaken (.unit incomer) (some (kindNumber k)) s

/-- R128: the end of a unit 8 command releases the slot that unit 8 holds, with its event. -/
def endIncomer (k : CmdKind) (r : IncomerResult) (s : State) : State :=
  let held : Bool := (s.switching.holder.map fun h => decide (h.target = incomer)).getD false
  let s := incomerEvent k r (releaseSlot incomer s)
  if held then settleAtRelease s else s

/-- R128: the end of a unit 8 command releases the slot and writes its event in one event. -/
def takeIncomerOutcome (k : CmdKind) (r : IncomerResult) (s : State) : State := grantWaiting (endIncomer k r s)

/-- R123, R53: whether a DETUNE request makes an entry. -/
def detuneTaken (s : State) : Bool :=
  let c := s.switching.control
  (c = .autoWatch ∨ c = .autoHigh ∨ c = .autoLow) ∧ queueRoom s

/-- R123, R53: a DETUNE request makes an AUTO OPEN entry, or lapses. -/
def takeDetune (s : State) : State :=
  if detuneTaken s then arriveAuto .opn .detune s else s

/-- R114: a delay that a write has lowered below a running timer's count makes the timer expire in the write's event. -/
def BandTimer.reached (delay : Nat) : BandTimer → Bool
  | .running c => delay ≤ c
  | _ => false

def countReached (delay : Nat) : Option Nat → Bool
  | some c => delay ≤ c
  | none => false

/-- R114: the running timers of this block against the delays in force. -/
def expireReached (s : State) : State :=
  let s := if s.switching.high.reached (s.yard.highDelay * 1000) then highExpiry s else s
  let s := if s.switching.low.reached (s.yard.lowDelay * 1000) then lowExpiry s else s
  let s := if countReached (s.yard.settleTime * 1000) s.switching.settle then settleExpiry s else s
  if countReached (s.yard.restoreHold * 1000) s.switching.restore then restoreExpiry s else s

end Sys2Proof.Machine
end

