-- ==== Sys2Proof/Machine/Engine.lean ====
section
/-! DEFINITION. The Phasor Engine (chapter 02): the fixed tables, the sums, the result record, publications and notices,
the window queue. -/

namespace Sys2Proof.Machine

/-! ## The fixed tables (2.2, R23) -/

/-- C[k], from the seventeen entries listed and the symmetries of R23. -/
def cosTable (k : Nat) : Int :=
  let j := k % 64
  if j ≤ 16 then Config.cosines.getD j 0
  else if j ≤ 32 then -Config.cosines.getD (32 - j) 0
  else if j ≤ 48 then -Config.cosines.getD (j - 32) 0
  else Config.cosines.getD (64 - j) 0

/-- S[k] = C[(k + 48) mod 64] (R23). -/
def sinTable (k : Nat) : Int := cosTable (k + 48)

/-! ## The sums and magnitudes (R24 to R26) -/

/-- The sum over the samples, from position `n`, of x[n] × f((h·n) mod 64). -/
def dftSum (f : Nat → Int) (h : Nat) : Nat → List Int → Int
  | _, [] => 0
  | n, x :: xs => x * f (h * n % 64) + dftSum f h (n + 1) xs

/-- Re_h (R24). -/
def dftRe (xs : List Int) (h : Nat) : Int := dftSum cosTable h 0 xs

/-- Im_h (R24). -/
def dftIm (xs : List Int) (h : Nat) : Int := -dftSum sinTable h 0 xs

/-- M_h, the isqrt of Re_h² + Im_h² (R25). -/
def magnitude (re im : Int) : Nat := isqrt (re.natAbs * re.natAbs + im.natAbs * im.natAbs)

/-- RMS_h = floor(M_h × 23,170 / 2^34) (R25). -/
def rmsOf (m : Nat) : Nat := m * 23170 / 2 ^ 34

/-- A phasor component, truncated toward zero (R26). -/
def phasorOf (x : Int) : Int := (x * 23170).tdiv (2 ^ 34)

/-- RMS_1 to RMS_15 of a window. -/
def windowRms (xs : List Int) : Vector Nat 15 :=
  Vector.ofFn fun i => rmsOf (magnitude (dftRe xs (i.val + 1)) (dftIm xs (i.val + 1)))

/-! ## Ratios and THD (R27 to R29) -/

/-- R27: the LOW_FUNDAMENTAL mark. -/
def lowFundamentalOf (nominal rms1 : Nat) : Bool := rms1 < nominal / 16 ∨ rms1 = 0

/-- R28: a harmonic ratio in 0.01 %, saturated at 65,535. -/
def ratioOf (rms1 x : Nat) : Nat := min 65535 (x * 10000 / rms1)

/-- R29: Q, the sum of RMS_h² over orders 2 to 15. -/
def harmonicEnergy (rms : Vector Nat 15) : Nat :=
  (rms.toList.drop 1).foldl (fun q x => q + x * x) 0

/-- R29. -/
def thdOf (rms1 q : Nat) : Nat := min 65535 (isqrt q * 10000 / rms1)

/-- R30: the quality of a computed result. -/
def qualityOf : WindowMark → Quality
  | .good => .good
  | .doubtful => .doubtful

/-- R31: the record computed from a window, published after the record `old`. -/
def computeRecord (w : Window) (nominal : Nat) (old : ResultRecord) : ResultRecord :=
  let rms := windowRms w.values
  let rms1 := rms[0]
  let low := lowFundamentalOf nominal rms1
  { sequence := (old.sequence + 1) % mod16
    quality := qualityOf w.mark
    lowFundamental := low
    start := w.start
    r1 := phasorOf (dftRe w.values 1)
    i1 := phasorOf (dftIm w.values 1)
    rms := rms
    ratios := Vector.ofFn fun i => if low then 0 else ratioOf rms1 rms[i.val + 1]
    thd := if low then 0 else thdOf rms1 (harmonicEnergy rms)
    age := 0 }

/-- R32: the record an INVALID notice leaves. -/
def invalidRecord (old : ResultRecord) : ResultRecord :=
  { old with sequence := (old.sequence + 1) % mod16, quality := .invalid, age := 0 }

/-! ## Publication (R31, R32) -/

/-- The consumers of input `m` act on its publication: the harmonic supervisor, unbalance protection, the duty monitor,
switching control (R31; their order is notes/assumptions/13.md). -/
def actOnPublication (m : Fin 38) (s : State) : State :=
  let s := harmonicPublication m s
  let s := match inputStep m with
    | some (i, k) => if k = 3 then unbalanceEvaluate i s else if k = 0 then heatUpdate i s else s
    | none => s
  if m = 0 then controlEvaluation s else s

/-- A record replaces the input's record whole, and the consumers act; a change of the yard summary that this
publication makes sets change pending, whatever another one of the same event does to the summary (R171). -/
def publish (m : Fin 38) (record : ResultRecord) (s : State) : State :=
  markChange s (actOnPublication m { s with engine := { s.engine with results := s.engine.results.set m record } })

/-- R32. -/
def publishInvalid (m : Fin 38) (s : State) : State :=
  publish m (invalidRecord s.engine.results[m]) s

/-! ## Windows and notices (R20 to R22) -/

def State.window (s : State) (m : Fin 38) (w : Fin 2) : Window := s.acceptance.inputs[m].windows[w]

def setWindow (m : Fin 38) (w : Fin 2) (x : Window) (s : State) : State :=
  s.updInput m fun i => { i with windows := i.windows.set w x }

def setNotice (m : Fin 38) (x : Option (Vector Bool 2)) (s : State) : State :=
  { s with engine := { s.engine with notices := s.engine.notices.set m x } }

/-- The pending notice of an input is published once it waits for no window (R22). -/
def settleNotice (m : Fin 38) (s : State) : State :=
  match s.engine.notices[m] with
  | some waits => if waits.toList.any id then s else publishInvalid m (setNotice m none s)
  | none => s

/-- R22: window `w` of the input ends its part in the pending notice. -/
def endWait (m : Fin 38) (w : Fin 2) (s : State) : State :=
  match s.engine.notices[m] with
  | some waits => settleNotice m (setNotice m (some (waits.set w false)) s)
  | none => s

/-- R22: whether a window stands ahead of a notice handed now. A COMPUTING window already marked withdrawn has ended its
part and does not (notes/assumptions/48.md). -/
def standsAhead (x : Window) : Bool :=
  match x.state with
  | .queued => true
  | .computing withdrawn => !withdrawn
  | _ => false

/-- R22: an INVALID notice is handed for an input: it waits for the windows ahead of it, merged into a notice already
pending, and is published at once when it waits for none. -/
def handNotice (m : Fin 38) (s : State) : State :=
  let held := s.engine.notices[m].getD (Vector.replicate 2 false)
  let waits := Vector.ofFn fun w : Fin 2 => held[w] || standsAhead (s.window m w)
  settleNotice m (setNotice m (some waits) s)

/-- The window of an input that is in a given state, if there is one. -/
def findWindow (m : Fin 38) (p : WindowState → Bool) (s : State) : Option (Fin 2) :=
  (List.finRange 2).find? fun w => p (s.window m w).state

/-- R20: with no computation in progress the engine takes the head of the queue. -/
def engineTake (s : State) : State :=
  match s.engine.computing, s.engine.queue with
  | none, m :: rest =>
    match findWindow m (· = .queued) s with
    | some w =>
      let s := setWindow m w { s.window m w with state := .computing false } s
      { s with engine := { s.engine with queue := rest, computing := some (m, w) } }
    | none => { s with engine := { s.engine with queue := rest } }
  | _, _ => s

/-- A complete window joins the tail of the queue (R19), and an idle engine takes it at once (R20). -/
def enqueueWindow (m : Fin 38) (s : State) : State :=
  engineTake { s with engine := { s.engine with queue := s.engine.queue ++ [m] } }

/-- R20, R31: the computation in progress ends. -/
def computationEnds (s : State) : State :=
  match s.engine.computing with
  | some (m, w) =>
    let x := s.window m w
    let s := { s with engine := { s.engine with computing := none } }
    let s := setWindow m w Window.empty s
    let s := if x.state = .computing true then s
      else publish m (computeRecord x s.memory.tables.input[m].row.nominal s.engine.results[m]) s
    engineTake (endWait m w s)
  | none => s

/-- R21: an input that becomes UNMAPPED loses its QUEUED window, and its COMPUTING window is marked withdrawn. -/
def withdrawWindow (m : Fin 38) (s : State) (w : Fin 2) : State :=
  match (s.window m w).state with
  | .queued =>
    let s := setWindow m w Window.empty s
    endWait m w { s with engine := { s.engine with queue := s.engine.queue.erase m } }
  | .computing _ => endWait m w (setWindow m w { s.window m w with state := .computing true } s)
  | _ => s

def withdrawInput (m : Fin 38) (s : State) : State :=
  (List.finRange 2).foldl (withdrawWindow m) s

/-! ## The hold copy and the age clock (R33, R35, R36) -/

/-- R33: every live record ages by one, saturating. -/
def ageRecords (e : EngineState) : EngineState :=
  { e with results := e.results.map fun r => { r with age := min 65535 (r.age + 1) } }

/-- R33: the ms to the next tick at a frequency, from a place in the 60 Hz sequence 17, 17, 16. -/
def ageInterval (frequency : Nat) (phase : Fin 3) : Nat :=
  if frequency = 60 then (if phase = 2 then 16 else 17) else 20

/-- R33: the next place in the sequence. -/
def nextPhase (phase : Fin 3) : Fin 3 := phase + 1

/-- R33: a tick of the age clock; it takes the Yard Table's frequency unless that row is DAMAGED. -/
def ageTick (s : State) : State :=
  let f := if s.yardDamaged then s.engine.ageFrequency else s.yard.frequency
  let e := ageRecords s.engine
  { s with engine := { e with
      ageFrequency := f, ageLeft := ageInterval f s.engine.agePhase
      agePhase := if f = 60 then nextPhase s.engine.agePhase else 0 } }

/-- R35: a hold is made, or made afresh. -/
def takeHold (s : State) : State :=
  { s with engine := { s.engine with holdCopy := s.engine.results, hold := some Config.holdTime } }

/-- R36: a hold ends. -/
def endHold (s : State) : State :=
  { s with engine := { s.engine with hold := none } }

end Sys2Proof.Machine
end

