-- ==== Sys2Proof/Machine/Acceptance.lean ====
section
/-! DEFINITION. Stream Acceptance (chapter 01): matching and judging a sample frame, gap filling, abandonment, the
placing of values and the window boundary, loss, damage and rewriting. -/

namespace Sys2Proof.Machine

def allStreams : List (Fin 16) := List.finRange 16
def allPositions : List (Fin 12) := List.finRange 12

/-! ## Configured streams (R1, R6) -/

def streamHeld (i : Fin 16) (s : State) : Held StreamRow := s.memory.tables.stream[i]

/-- R1: a row in use and not DAMAGED is a configured stream. -/
def configured (h : Held StreamRow) : Bool := h.row.inUse && !h.damaged

/-- The inputs a row maps. -/
def mappedInputs (r : StreamRow) : List (Fin 38) := r.map.toList.filterMap id

/-- R6: the configured stream with a frame's source tag. -/
def matchStream (f : SampleFrame) (s : State) : Option (Fin 16) :=
  allStreams.find? fun i =>
    let h := streamHeld i s
    configured h && h.row.address = f.sender && h.row.streamNumber = f.streamNumber

/-- Whether a configured stream feeds an input (R4). -/
def fed (t : Tables) (m : Fin 38) : Bool :=
  t.stream.toList.any fun h => configured h && (mappedInputs h.row).contains m

/-- The quality of a channel (R11, 9.5). -/
inductive SampleQuality where
  | good
  | doubtful
  | bad
deriving DecidableEq, Repr

/-- R11: a field that names none of the three is BAD. -/
def qualityOfBits (q : BitVec 2) : SampleQuality :=
  if q = 0 then .good else if q = 1 then .doubtful else .bad

/-! ## Fill states (1.4) -/

def fillState (m : Fin 38) (s : State) : FillState := s.acceptance.inputs[m].fill

def setFill (m : Fin 38) (x : FillState) (s : State) : State := s.updInput m fun i => { i with fill := x }

/-- The FILLING window of an input is discarded without publication; its storage becomes FREE. -/
def InputLive.discardFilling (i : InputLive) : InputLive :=
  { i with windows := i.windows.map fun w => if w.state = .filling then Window.empty else w }

/-- An input goes to `x` with its FILLING window discarded. -/
def discardTo (x : FillState) (m : Fin 38) (s : State) : State :=
  s.updInput m fun i => { i.discardFilling with fill := x }

/-- R10, R11, R13: the input goes to ALIGNING, its FILLING window is discarded, and one INVALID notice is handed. -/
def breakInput (m : Fin 38) (s : State) : State :=
  handNotice m (discardTo .aligning m s)

/-- R10: an input in COLLECTING is broken; one in ALIGNING is left with its last notice. -/
def abandonInput (s : State) (m : Fin 38) : State :=
  if fillState m s = .collecting then breakInput m s else s

/-- R10: the row's window in progress is abandoned, input by input in channel order (notes/assumptions/14.md). -/
def abandonRow (i : Fin 16) (s : State) : State :=
  let s := s.updStream i fun x => { x with gapCount := 0 }
  (mappedInputs (streamHeld i s).row).foldl abandonInput s

/-! ## Placing a value (R15 to R17) -/

/-- A window that starts to fill at counter `c` (R15, R17). -/
def Window.opened (c : Nat) : Window where
  state := .filling
  start := c
  mark := .good
  values := []

/-- A value written at position `p`, with the mark of R17. -/
def Window.write (p : Nat) (value : Int) (doubtful : Bool) (w : Window) : Window :=
  { w with
    values := w.values.take p ++ [value]
    mark := if doubtful then .doubtful else w.mark }

def countOverrun (m : Fin 38) (s : State) : State :=
  s.updInput m fun i => { i with overruns := (i.overruns + 1) % mod16 }

def otherWindow (w : Fin 2) : Fin 2 := if w = 0 then 1 else 0

/-- R16: window `w` of input `m` is complete. -/
def windowBoundary (m : Fin 38) (w : Fin 2) (s : State) : State :=
  let x := s.window m w
  let o := otherWindow w
  let next := (x.start + Config.windowSize) % mod16
  let complete := setWindow m w { x with state := .queued } s
  match (s.window m o).state with
  | .queued => endWait m o (countOverrun m (setWindow m o (Window.opened next) complete))
  | .computing _ => enqueueWindow m (setFill m .aligning complete)
  | _ => enqueueWindow m (setWindow m o (Window.opened next) complete)

/-- R15, line 4: a value is written at position c − c0 of the FILLING window, and position 63 completes it. -/
def storeValue (m : Fin 38) (c : Nat) (value : Int) (doubtful : Bool) (w : Fin 2) (s : State) : State :=
  let x := s.window m w
  let p := (c + mod16 - x.start) % mod16
  let s := setWindow m w (x.write p value doubtful) s
  if p + 1 = Config.windowSize then windowBoundary m w s else s

/-- The FILLING window of an input, and its lowest-numbered FREE one (notes/assumptions/12.md). -/
def fillingWindow (m : Fin 38) (s : State) : Option (Fin 2) := findWindow m (· = .filling) s
def freeWindow (m : Fin 38) (s : State) : Option (Fin 2) := findWindow m (· = .free) s

/-- R15: a received GOOD or DOUBTFUL value is placed and handed to capture; one of an UNMAPPED input is neither. That capture
has it first is the model's choice (notes/assumptions/14.md). -/
def placeReceived (m : Fin 38) (c : Nat) (value : Int) (doubtful : Bool) (s : State) : State :=
  match fillState m s with
  | .unmapped => s
  | .aligning =>
    let s := handSample m value c false s
    if c % Config.windowSize = 0 then
      match freeWindow m s with
      | some w => setFill m .collecting (setWindow m w ((Window.opened c).write 0 value doubtful) s)
      | none => countOverrun m s
    else s
  | .collecting =>
    let s := handSample m value c false s
    match fillingWindow m s with
    | some w => storeValue m c value doubtful w s
    | none => s

/-- R9, R15: a filled value is written in COLLECTING only, and makes the window DOUBTFUL; capture has it first
(notes/assumptions/14.md). -/
def placeFilled (m : Fin 38) (c : Nat) (value : Int) (s : State) : State :=
  if fillState m s = .collecting then
    let s := handSample m value c true s
    match fillingWindow m s with
    | some w => storeValue m c value true w s
    | none => s
  else s

/-! ## Short gaps (R9) -/

/-- R9: the missing counter `c` is given, on every mapped channel, the last value received there. R9 orders the counters of a
gap only; that the channels of one counter are filled in the order of the positions, and that inputs whose position 63 is
filled so join the window queue in that order, is the model's choice (notes/assumptions/14.md). -/
def fillCounter (i : Fin 16) (c : Nat) (s : State) : State :=
  allPositions.foldl (fun s j =>
    match (streamHeld i s).row.map[j], s.acceptance.streams[i].lastValues[j] with
    | some m, some v => placeFilled m c v s
    | _, _ => s) s

/-- R9: the gap count returns to 0 when the counter next to be placed is a multiple of 64. -/
def gapAt (c gap : Nat) : Nat := if c % Config.windowSize = 0 then 0 else gap

/-- R9: the gap count before counter `c` is placed. -/
def enterCounter (i : Fin 16) (c : Nat) (s : State) : State :=
  s.updStream i fun x => { x with gapCount := gapAt c x.gapCount }

/-- R9: `n` missing counters from `c` on are filled; a fill that would be the third of its span abandons the window and
ends the filling. -/
def fillGap (i : Fin 16) : Nat → Nat → State → State
  | 0, _, s => s
  | n + 1, c, s =>
    let s := enterCounter i c s
    let gap := s.acceptance.streams[i].gapCount
    if 2 ≤ gap then abandonRow i s
    else
      let s := fillCounter i c (s.updStream i fun x => { x with gapCount := gap + 1 })
      fillGap i n ((c + 1) % mod16) s

/-! ## Taking a frame (R8, R11, R12) -/

/-- R11: one channel of a taken frame. -/
def takeChannel (i : Fin 16) (c : Nat) (j : Fin 12) (m : Fin 38) (ch : Channel) (s : State) : State :=
  match qualityOfBits ch.quality with
  | .bad => abandonInput (s.updStream i fun x => { x with badQuality := (x.badQuality + 1) % mod32 }) m
  | q =>
    let s := s.updStream i fun x => { x with lastValues := x.lastValues.set j (some ch.value) }
    placeReceived m c ch.value (q = .doubtful) s

/-- R11: every mapped channel of a taken frame, judged and placed in the order of the positions (notes/assumptions/14.md); an
unmapped one is read and disregarded (R1). -/
def takeChannels (i : Fin 16) (c : Nat) (channels : List Channel) (s : State) : State :=
  allPositions.foldl (fun s j =>
    match (streamHeld i s).row.map[j], channels[j.val]? with
    | some m, some ch => takeChannel i c j m ch s
    | _, _ => s) s

/-- R12: what a frame taken leaves in the row: RUNNING, its counter, its timer restarted, and its count. -/
def StreamLive.take (c timeout : Nat) (x : StreamLive) : StreamLive :=
  { x with
    status := .running
    lastCounter := some c
    loss := some { elapsed := 0, limit := timeout }
    framesAccepted := (x.framesAccepted + 1) % mod32 }

/-- R8, R12: a frame is taken. -/
def takeFrame (i : Fin 16) (f : SampleFrame) (s : State) : State :=
  let was := s.acceptance.streams[i].status
  let s := s.updStream i (StreamLive.take f.counter (streamHeld i s).row.lossTimeout)
  let s := if was = .lost then logEvent .streamRunning (.row (.stream i)) none s else s
  takeChannels i f.counter f.channels (enterCounter i f.counter s)

def countGap (i : Fin 16) (s : State) : State :=
  s.updStream i fun x => { x with counterGaps := (x.counterGaps + 1) % mod32 }

/-- R8: the counter of a matched frame with the right channel count is judged against the last one. -/
def judgeCounter (i : Fin 16) (f : SampleFrame) (s : State) : State :=
  match s.acceptance.streams[i].lastCounter with
  | none => takeFrame i f s
  | some last =>
    let d := (f.counter + mod16 - last) % mod16
    if d = 1 then takeFrame i f s
    else if d = 0 then countGap i s
    else if d ≤ 3 then takeFrame i f (fillGap i (d - 1) ((last + 1) % mod16) (countGap i s))
    else takeFrame i f (abandonRow i (countGap i s))

/-- R6, R7: acceptance takes a sample frame through its stages. -/
def acceptFrame (f : SampleFrame) (s : State) : State :=
  match matchStream f s with
  | some i =>
    let row := (streamHeld i s).row
    if f.simulated && !row.acceptSimulated then s
    else if f.channels.length ≠ row.channelCount then
      s.updStream i fun x => { x with wrongCount := (x.wrongCount + 1) % mod32 }
    else judgeCounter i f s
  | none => s

/-! ## Loss (R13) -/

/-- R13: what the loss of a stream leaves in its row. -/
def StreamLive.lose (x : StreamLive) : StreamLive :=
  { x with status := .lost, loss := none, lastCounter := none, lastValues := Vector.replicate 12 none, gapCount := 0 }

/-- R13: an input the lost row maps. -/
def loseInput (s : State) (m : Fin 38) : State :=
  if fillState m s = .unmapped then s else breakInput m s

/-- R13: the loss timer of a RUNNING stream expires. -/
def streamLost (i : Fin 16) (s : State) : State :=
  if s.acceptance.streams[i].status = .running then
    let s := logEvent .streamLost (.row (.stream i)) none (s.updStream i StreamLive.lose)
    (mappedInputs (streamHeld i s).row).foldl loseInput s
  else s

/-! ## Damage (R5, R14) -/

/-- R14, R21: an input becomes UNMAPPED through damage: its FILLING window is discarded, one INVALID notice is handed,
merged into one that still waits (2.10), and the engine loses the windows it waits for. -/
def unmapInput (s : State) (m : Fin 38) : State :=
  withdrawInput m (handNotice m (discardTo .unmapped m s))

/-- R14: what damage leaves in a row; that the gap count goes to 0 is the model's choice (notes/assumptions/47.md). -/
def StreamLive.endStream (x : StreamLive) : StreamLive :=
  { x with status := .idle, loss := none, lastCounter := none, lastValues := Vector.replicate 12 none, gapCount := 0 }

/-- R14: a Stream Table row is found DAMAGED; `inputs` are those it mapped. -/
def streamFoundDamaged (i : Fin 16) (inputs : List (Fin 38)) (s : State) : State :=
  inputs.foldl unmapInput (s.updStream i StreamLive.endStream)

/-- R5: an Input Table row is found DAMAGED. -/
def inputFoundDamaged (m : Fin 38) (s : State) : State := unmapInput s m

/-! ## Writes (R3 to R5) -/

/-- R3: a row is held by an in-service step. -/
def rowHeld (i : Fin 16) (s : State) : Bool :=
  s.acceptance.streams[i].status = .running &&
    (mappedInputs (streamHeld i s).row).any fun m =>
      match inputStep m with
      | some (k, _) => s.stepState k ≠ .withdrawn
      | none => false

/-- R4: whether a write changes the source tag, the channel count, the channel map or the in-use flag; a DAMAGED row
cannot be compared and counts as changed. -/
def streamChanged (old : Held StreamRow) (new : StreamRow) : Bool :=
  old.damaged || old.row.inUse ≠ new.inUse || old.row.address ≠ new.address ||
    old.row.streamNumber ≠ new.streamNumber || old.row.channelCount ≠ new.channelCount || old.row.map ≠ new.map

/-- R4: the fill state of an input that a rewritten row feeds: ALIGNING, or UNMAPPED while its Input Table row is
DAMAGED (R5). -/
def alignInput (s : State) (m : Fin 38) : State :=
  if s.memory.tables.input[m].damaged then s else discardTo .aligning m s

/-- R4, R21: an input that the old map named and that no configured stream feeds any more. -/
def dropInput (s : State) (m : Fin 38) : State :=
  if fed s.memory.tables m then s else withdrawInput m (discardTo .unmapped m s)

/-- R4: the effects of rewriting one row, with every row of the request in place; that the gap count goes to 0 with the
stream is the model's choice (notes/assumptions/47.md). -/
def streamRewritten (i : Fin 16) (old : Held StreamRow) (s : State) : State :=
  let h := streamHeld i s
  if streamChanged old h.row then
    let s := s.updStream i fun _ => StreamLive.reset
    let s := (mappedInputs old.row).foldl dropInput s
    if configured h then (mappedInputs h.row).foldl alignInput s else s
  else s

/-- R5: a rewritten Input Table row that was DAMAGED brings its input back to ALIGNING when a stream maps it. -/
def inputRewritten (m : Fin 38) (wasDamaged : Bool) (s : State) : State :=
  if wasDamaged && fed s.memory.tables m then discardTo .aligning m s else s

/-- R18: the fill states that follow the tables loaded at start-up. -/
def fillStates (s : State) : State :=
  allInputs.foldl (fun s m =>
    if fed s.memory.tables m && !s.memory.tables.input[m].damaged then setFill m .aligning s else s) s

end Sys2Proof.Machine
end

