-- ==== Sys2Proof/Machine/Ports.lean ====
section
/-! DEFINITION. Yard Link Ports (chapter 09): the forward and origin queues, the arbiter, and the frames the part makes. -/

namespace Sys2Proof.Machine

/-! ## Classes of origin frames -/

def OriginFrame.isCommand (f : OriginFrame) : Bool :=
  match f.cls with
  | .command _ => true
  | _ => false

def OriginFrame.isReport (f : OriginFrame) : Bool :=
  match f.cls with
  | .report => true
  | _ => false

def OriginFrame.isReply (f : OriginFrame) : Bool :=
  match f.cls with
  | .reply _ => true
  | _ => false

/-- Whether the frame belongs to the command context of unit `u` (R152). -/
def OriginFrame.ofUnit (u : Fin 9) (f : OriginFrame) : Bool :=
  f.cls = .command u

/-! ## The arbiter (R153) -/

/-- The head of the origin queue is sent; the origin run rises, saturating at 2. -/
def PortState.sendOrigin (p : PortState) : PortState :=
  match p.origin with
  | f :: rest => { p with origin := rest, tx := some (.origin f), originRun := min 2 (p.originRun + 1) }
  | [] => p

/-- The head of the forward queue is sent; the origin run becomes 0. -/
def PortState.sendForward (p : PortState) : PortState :=
  match p.forward with
  | f :: rest => { p with forward := rest, tx := some (.forward f), originRun := 0 }
  | [] => p

/-- R153: at a frame boundary (link UP, transmitter IDLE) the arbiter chooses by the first line that applies. -/
def PortState.choose (p : PortState) : PortState :=
  if p.linkUp && p.tx.isNone then
    if p.origin.any OriginFrame.isCommand then p.sendOrigin
    else if 2 ≤ p.originRun ∧ p.forward ≠ [] then p.sendForward
    else if p.origin ≠ [] then p.sendOrigin
    else p.sendForward
  else p

/-! ## The queues -/

/-- R150: a frame joins the tail of the forward queue, or is dropped and counted when the queue is full or the link is
DOWN. -/
def PortState.joinForward (bytes : List Byte) (p : PortState) : PortState :=
  if p.linkUp ∧ p.forward.length < Config.forwardCapacity then
    { p with forward := p.forward ++ [bytes] }.choose
  else { p with counts := { p.counts with forwardDrops := (p.counts.forwardDrops + 1) % mod32 } }

/-- A COMMAND frame takes its place behind the COMMAND frames and ahead of all others (R151). -/
def insertCommand (f : OriginFrame) (q : List OriginFrame) : List OriginFrame :=
  q.takeWhile OriginFrame.isCommand ++ [f] ++ q.dropWhile OriginFrame.isCommand

def PortState.countDisplaced (p : PortState) : PortState :=
  { p with counts := { p.counts with displaced := (p.counts.displaced + 1) % mod32 } }

/-- R151, R152: a frame enters the origin queue. The second component is a frame that is discarded or not entered. -/
def PortState.enter (f : OriginFrame) (p : PortState) : PortState × Option OriginFrame :=
  match f.cls with
  | .command u =>
    if p.origin.any (OriginFrame.ofUnit u) then
      ({ p with origin := p.origin.map fun g => if g.ofUnit u then f else g }, none)
    else if p.origin.length < Config.originCapacity then
      ({ p with origin := insertCommand f p.origin }, none)
    else
      match p.origin.find? OriginFrame.isReport with
      | some g => ({ p with origin := insertCommand f (p.origin.eraseP OriginFrame.isReport) }.countDisplaced, some g)
      | none =>
        match p.origin.find? OriginFrame.isReply with
        | some g => ({ p with origin := insertCommand f (p.origin.eraseP OriginFrame.isReply) }.countDisplaced, some g)
        | none => (p, none)
  | _ =>
    if p.origin.length < Config.originCapacity then ({ p with origin := p.origin ++ [f] }, none)
    else ({ p with counts := { p.counts with originDrops := (p.counts.originDrops + 1) % mod32 } }, some f)

/-- R164: the reset of a RESTART is due once its reply has been sent, discarded or not entered. -/
def restartDue (lost : Option OriginFrame) (s : State) : State :=
  match lost with
  | some f => if f.cls = .reply true then hand .restartReset s else s
  | none => s

/-- A frame enters the origin queue of port `p`, and an IDLE transmitter starts (R151, R153). -/
def enterOrigin (f : OriginFrame) (p : Port) (s : State) : State :=
  let x := (s.port p).enter f
  restartDue x.2 (s.setPort p x.1.choose)

/-- A frame enters the queue of one port, or of both ports while none is given. -/
def enterOrigins (f : OriginFrame) (p : Option Port) (s : State) : State :=
  match p with
  | some p => enterOrigin f p s
  | none => enterOrigin f .b (enterOrigin f .a s)

/-- R152: the frames of a command context that wait in the queue of port `p` leave it; the others keep their order. -/
def withdrawFrames (u : Fin 9) (p : Port) (s : State) : State :=
  s.setPort p { s.port p with origin := (s.port p).origin.filter fun f => !f.ofUnit u }

/-- R145: the frames of a context leave both queues. -/
def withdrawAll (u : Fin 9) (s : State) : State :=
  withdrawFrames u .b (withdrawFrames u .a s)

/-- R157: a frame of the part's own, with the station address and link type in force when it is made. -/
def makeFrame (destination : Addr) (body : FrameBody) (link : LinkRow) : OutFrame where
  destination := destination
  source := link.station
  linkType := link.linkType
  body := body

/-- A group address has the lowest bit of its first byte set (PRESUMED, notes/assumptions/9.md). -/
def isGroup (a : Addr) : Bool := a.getLsbD 40

/-! ## Link changes and transmissions -/

/-- R150: the link of a port goes DOWN. -/
def PortState.goDown (p : PortState) : PortState :=
  { p with
    linkUp := false, forward := [], tx := none
    counts := { p.counts with forwardDrops := (p.counts.forwardDrops + p.forward.length) % mod32 } }

/-- R150: the link of a port comes UP, a frame boundary (R153). -/
def PortState.goUp (p : PortState) : PortState :=
  { p with linkUp := true }.choose

/-- R153, R154: the last byte of the frame being sent has gone, and the arbiter chooses the next frame. -/
def PortState.endTransmission (p : PortState) : PortState :=
  { p with tx := none, counts := { p.counts with sent := (p.counts.sent + 1) % mod32 } }.choose

/-- The value of a PORT_DOWN or PORT_UP event (R150). -/
def portNumber : Port → Nat
  | .a => 1
  | .b => 2

end Sys2Proof.Machine
end

