-- ==== Sys2Proof/Machine/Encoding.lean ====
section
/-! DEFINITION. The layouts of what the part sends (9.5, R157, R158): the bytes of items and frames, and the items of rows,
records and the READ_STATUS sections. -/

namespace Sys2Proof.Machine

/-! ## Bytes (R157, R158) -/

/-- `k` bytes of a number, the most significant first. -/
def bigEndian : Nat → Nat → List Byte
  | 0, _ => []
  | k + 1, n => BitVec.ofNat 8 (n / 256 ^ k) :: bigEndian k n

/-- `k` bytes of a signed number in two's complement. -/
def signedBytes (k : Nat) (n : Int) : List Byte := bigEndian k (n % (256 ^ k : Nat)).toNat

def addrBytes (a : Addr) : List Byte := bigEndian 6 a.toNat

/-- R158: the 3 bytes of a subject. -/
def subjectBytes : Subject → List Byte
  | .none => [0, 0, 0]
  | .step s => [1, BitVec.ofNat 8 s.val, 0]
  | .input i => [2, BitVec.ofNat 8 i.val, 0]
  | .unit u => [3, BitVec.ofNat 8 u.val, 0]
  | .row r => [4, BitVec.ofNat 8 (tableNumber r), BitVec.ofNat 8 (rowNumber r)]

/-- R158: the 6 bytes of a capture position. -/
def sampleBytes : Option CapSample → List Byte
  | none => [0, 0, 0, 0, 0, 0]
  | some c => (if c.filled then 2 else 1) :: signedBytes 3 c.value ++ bigEndian 2 c.counter

/-- R158: the encoding of an item by its sort. -/
def Item.bytes : Item → List Byte
  | .num n => signedBytes 4 n
  | .optNum (some n) => 1 :: signedBytes 4 n
  | .optNum none => [0, 0, 0, 0, 0]
  | .addr a => addrBytes a
  | .optAddr (some a) => 1 :: addrBytes a
  | .optAddr none => [0, 0, 0, 0, 0, 0, 0]
  | .name n => [BitVec.ofNat 8 n]
  | .count n => [BitVec.ofNat 8 n]
  | .subject s => subjectBytes s
  | .sample c => sampleBytes c

def itemBytes (xs : List Item) : List Byte := xs.flatMap Item.bytes

/-- 9.5: the frame kind of a body. -/
def bodyKind : FrameBody → Byte
  | .command .. => 3
  | .reply .. => 5
  | .report .. => 6

/-- 9.5: the bytes of a body, from offset 16 on. -/
def bodyBytes : FrameBody → List Byte
  | .command a k c q =>
    addrBytes a ++ [BitVec.ofNat 8 (cmdKindNumber k), BitVec.ofNat 8 (cmdClassNumber c), BitVec.ofNat 8 q]
  | .reply n o clamped held d =>
    let data := itemBytes d
    bigEndian 2 n ++ [BitVec.ofNat 8 o, BitVec.ofNat 8 ((if clamped then 1 else 0) + if held then 2 else 0)] ++
      bigEndian 2 data.length ++ data
  | .report p c n d =>
    let data := itemBytes d
    BitVec.ofNat 8 ((if p then 1 else 0) + if c then 2 else 0) :: bigEndian 4 n ++ bigEndian 2 data.length ++ data

/-- R157: zero bytes up to 60. -/
def padTo60 (bs : List Byte) : List Byte := bs ++ List.replicate (60 - bs.length) 0

/-- R157: the bytes of a frame of the part's own, without its check sequence. -/
def OutFrame.bytes (f : OutFrame) : List Byte :=
  padTo60 (addrBytes f.destination ++ addrBytes f.source ++ bigEndian 2 f.linkType ++ [bodyKind f.body, 1] ++
    bodyBytes f.body)

/-! ## Rows (R158, R163) -/

def nat (n : Nat) : Item := .num n

def optNat (n : Option Nat) : Item := .optNum (n.map Int.ofNat)

/-- A Stream Table row; its channel map is twelve entries without a count (notes/assumptions/54.md). -/
def streamItems (r : StreamRow) : List Item :=
  [.name (yesNo r.inUse), .addr r.address, nat r.streamNumber, nat r.channelCount] ++
    r.map.toList.map (fun m => optNat (m.map Fin.val)) ++ [nat r.lossTimeout, .name (yesNo r.acceptSimulated)]

/-- R14, R163: the stream state, the last sample counter and the four counters. -/
def streamLiveItems (x : StreamLive) : List Item :=
  [.name (streamNumberOf x.status), optNat x.lastCounter, nat x.framesAccepted, nat x.counterGaps, nat x.badQuality,
    nat x.wrongCount]

def inputItems (m : Fin 38) (r : InputRow) : List Item :=
  [nat r.nominal, .name (inputKindNumber (inputKind m))]

/-- R163: the fill state and the overrun count. -/
def inputLiveItems (x : InputLive) : List Item := [.name (fillNumber x.fill), nat x.overruns]

/-- R158: the in-use flag, then the fields of 4.1, then those of 5.1. -/
def stepItems (r : StepRow) : List Item :=
  [.name (yesNo r.inUse), .name (yesNo r.neutralPresent), nat r.alarmLevel, nat r.tripLevel, nat r.alarmDelay,
    nat r.tripDelay, .name (compModeNumber r.compMode), .num r.kr, .num r.ki, nat r.rated, nat r.thermalCode,
    nat r.heatAlarm, nat r.heatTrip, nat r.heatReclose, nat r.dischargeTime, nat r.opsLimit, nat r.opsBase,
    nat r.decayPeriod]

def harmItems (r : HarmRow) : List Item :=
  [.name (yesNo r.supervise), nat r.alarmLevel, nat r.blockLevel, nat r.pickup, nat r.dropout]

def listItems (xs : List Nat) : List Item := .count xs.length :: xs.map nat

def resItems (r : ResRow) : List Item := listItems r.orders

def yardItems (r : YardRow) : List Item :=
  [nat r.frequency, nat r.uLo, nat r.uHi, nat r.stepRise, nat r.highDelay, nat r.lowDelay, nat r.settleTime,
    nat r.deadLevel, nat r.deadDelay, nat r.restoreHold, nat r.maxSteps, .name (startModeNumber r.startMode),
    nat r.selectTimeout]

def unitItems (r : UnitRow) : List Item :=
  [.addr r.address, nat r.retry, nat r.attempts, nat r.operateTime, nat r.statusTimeout]

def linkItems (r : LinkRow) : List Item :=
  [.addr r.station, nat r.linkType, .addr r.destination, nat r.period, .count r.requesters.length] ++
    r.requesters.map .addr

/-- R163: one row of a READ_ROWS reply: its fields, the live fields of a Stream or Input row, its DAMAGED mark. The manual lists
no values for the mark: no 1 and yes 2 are the model's choice (notes/assumptions/21.md). -/
def rowItems (s : State) (r : RowRef) : List Item :=
  let t := s.memory.tables
  let fields := match r with
    | .stream i => streamItems t.stream[i].row ++ streamLiveItems s.acceptance.streams[i]
    | .input i => inputItems i t.input[i].row ++ inputLiveItems s.acceptance.inputs[i]
    | .step i => stepItems t.step[i].row
    | .harmonic i => harmItems t.harmonic[i].row
    | .resonance c => resItems t.resonance[c].row
    | .yard => yardItems t.yard.row
    | .unit u => unitItems t.unit[u].row
    | .link => linkItems t.link.row
  fields ++ [.name (yesNo (t.damagedAt r))]

/-! ## Records, entries and positions -/

/-- R37: a whole result record, its fields in the order of 2.6. -/
def recordItems (r : ResultRecord) : List Item :=
  [nat r.sequence, .name (qualityNumber r.quality), .name (clearSet r.lowFundamental), nat r.start, .num r.r1, .num r.i1] ++
    r.rms.toList.map nat ++ r.ratios.toList.map nat ++ [nat r.thd, nat r.age]

/-- R158: an event entry. -/
def entryItems (e : EventEntry) : List Item :=
  [nat e.sequence, nat e.stamp, .name (eventNumber e.kind), .subject e.subject, optNat e.value]

/-! ## The sections of READ_STATUS (R163) -/

/-- R90: decay remaining in whole seconds, a second begun counted whole (notes/assumptions/57.md). -/
def decayRemaining (d : DutyLive) : Nat :=
  match d.decay with
  | some ms => (ms + 999) / 1000
  | none => 0

/-- R165: the first-error record: the table, numbered by 10.1, the row and the class. -/
def firstErrorItems : Option (RowRef × ErrorClass) → List Item
  | some (r, c) => [.name (tableNumber r), optNat (some (rowNumber r)), .name (errorClassNumber c)]
  | none => [.name absentName, optNat none, .name absentName]

/-- R163: the YARD section. The manual lists no values for KEYLOCK: no 1 and yes 2 are the model's choice, and so are SET 1 and
CLEAR 2 for the harmonic alarm status (notes/assumptions/21.md). -/
def yardStatus (s : State) : List Item :=
  yardSummary s ++
    [.name (yesNo s.keylock), nat s.agent.refusedUnheard, nat s.agent.answered, .name (setClear (harmonicAlarm s)),
      nat s.harmonic.nextCount, .name (if s.harmonic.nextBlocked then 1 else 2), nat s.memory.corrected,
      nat s.memory.damaged] ++ firstErrorItems s.memory.firstError

/-- The figures of R73, R90 and R112 for one step. The manual lists no values for the trip operated and heat trip operated marks
and for slot held: SET 1 and CLEAR 2 for the former, no 1 and yes 2 for the latter are the model's choice
(notes/assumptions/21.md). -/
def stepStatus (s : State) (i : Fin 8) : List Item :=
  let u := s.unbalance.steps[i]
  let d := s.duty.steps[i]
  let x := s.supervisor.steps[i]
  [optNat u.lastU, nat u.alarmCount, nat u.tripCount, .name (standingClear u.alarm), .name (setClear u.inputInvalid),
    .name (setClear u.tripOperated), nat d.heat, nat d.lastP, .name (standingClear d.heatAlarm),
    .name (setClear d.heatTripOperated), nat d.remaining, nat d.operations, .name (setClear d.dutyBar),
    nat (decayRemaining d), .name (stepStateNumber x.state), .name (nameOr cmdClassNumber x.opClass),
    .name (nameOr causeNumber x.opCause), .name (yesNo x.slotHeld), .name (nameOr lockoutNumber x.lockoutPending),
    .name (nameOr lockoutNumber x.lockoutCause), .name (positionNumber x.lastPosition),
    .name (nameOr (fun p => positionNumber (some p)) x.settledPosition), .name (supervisionNumber x.unitSupervision),
    .name (standingClear x.unsupervised), .name (standingClear x.outOfServiceClose)]

def stepsStatus (s : State) : List Item :=
  allSteps.flatMap (stepStatus s) ++ listItems (s.supervisor.openList.map Fin.val) ++
    listItems (s.supervisor.closedList.map Fin.val)

/-- R148 for one unit. -/
def unitStatus (s : State) (u : Fin 9) : List Item :=
  let x := s.commands[u]
  let c := x.context
  [.name (positionNumber x.position), .name (chargedNumber x.ready), .name (supervisionNumber x.supervision),
    .name (learnedNumber x.learned), .name (contextNumber c.state), .name (nameOr cmdKindNumber c.kind),
    .name (nameOr cmdClassNumber c.cls), optNat c.sequence, nat c.attempts, .name (nameOr cmdCauseNumber c.cause),
    .name (nameOr outcomeNumber c.outcome), optNat (c.deadline.map fun t => t - s.timebase)]

def unitsStatus (s : State) : List Item := allUnits.flatMap (unitStatus s)

/-- The count of a high or low timer, 0 while it is STOPPED (notes/assumptions/59.md). -/
def BandTimer.count : BandTimer → Nat
  | .stopped => 0
  | .running c => c
  | .paused c => c

/-- MANUAL 1, AUTO 2; then the step or unit, and the reason (7.5). -/
def originItems : Origin → Item × Item × Item
  | .manual t => (.name 1, optNat (some t.val), .name absentName)
  | .auto r => (.name 2, optNat none, .name (reasonNumber r))

def entryStatus (e : QueueEntry) : List Item :=
  let o := originItems e.origin
  [.name (cmdKindNumber e.kind), o.1, o.2.1, o.2.2, nat e.arrival]

/-- The holder record: origin, kind, step or unit, reason. -/
def holderStatus : Option Holder → List Item
  | some h =>
    [.name (if h.reason.isSome then 2 else 1), .name (cmdKindNumber h.kind), optNat (some h.target.val),
      .name (nameOr reasonNumber h.reason)]
  | none => [.name absentName, .name absentName, optNat none, .name absentName]

/-- R133: the selection with its step, action, requester and time to expiry, but not its token. -/
def selectionStatus (now : Nat) : Option Selection → List Item
  | some x =>
    [optNat (some x.target.val), .name (cmdKindNumber x.action), .optAddr (some x.requester), optNat (some (x.expiry - now))]
  | none => [optNat none, .name absentName, .optAddr none, optNat none]

/-- R73: the null capture context: IDLE 1, ACTIVE 2, its step, its results counted, 0 in IDLE
(notes/assumptions/56.md). -/
def nullStatus : Option NullContext → List Item
  | some c => [.name 2, optNat (some c.step.val), nat c.counted]
  | none => [.name 1, optNat none, nat 0]

/-- R133, with the count of a STOPPED timer 0 (notes/assumptions/59.md), and the null capture context (R73). The expiry held mark as
SET 1 and CLEAR 2 is the model's choice (notes/assumptions/21.md). -/
def controlStatus (s : State) : List Item :=
  let w := s.switching
  [optNat w.vctrl, .name (validInvalid w.valid), nat w.deadCount, .name (lineNumber w.line), nat (w.restore.getD 0),
    .name (controlNumber w.control), nat w.high.count, nat w.low.count, nat (w.settle.getD 0), .name (setClear w.expiryHeld.isSome),
    .count w.queue.length] ++ w.queue.flatMap entryStatus ++ holderStatus w.holder ++
    selectionStatus s.timebase w.selection ++ nullStatus s.unbalance.context

/-- R154 for one port. -/
def portStatus (p : PortState) : List Item :=
  [nat p.counts.received, nat p.counts.malformed, nat p.counts.unknown, nat p.counts.forwardDrops,
    nat p.counts.originDrops, nat p.counts.displaced, nat p.counts.sent, .name (linkNumber p.linkUp),
    nat p.forward.length, nat p.origin.length]

def portsStatus (s : State) : List Item :=
  portStatus s.ports.lineA ++ portStatus s.ports.lineB ++ [.name (learnedNumber s.ports.reportPort)]

/-- R163: the figures of a section. -/
def sectionItems (x : Section) (s : State) : List Item :=
  match x with
  | .yard => yardStatus s
  | .steps => stepsStatus s
  | .units => unitsStatus s
  | .control => controlStatus s
  | .ports => portsStatus s

end Sys2Proof.Machine
end

