-- ==== Sys2Proof/Machine/Breaker.lean ====
section
/-! DEFINITION. Breaker Commands (chapter 08): taking a request, sending, acknowledgement and the move, outcomes, the
backup trip, supervision and damage of a unit. -/

namespace Sys2Proof.Machine

/-- A command is in flight while its context is SENDING or AWAITING_MOVE (R137). -/
def CommandContext.inFlight (c : CommandContext) : Bool :=
  c.state = .sending ∨ c.state = .awaitingMove

/-- The target of a command (R137). -/
def targetOf : CmdKind → Position
  | .opn => .opened
  | .close => .closed

/-- The cause of a trip of a step, from the cause of its request (R137). -/
def tripCauseOf : Cause → Option TripCause
  | .unbalance => some .unbalance
  | .overheat => some .overheat
  | .deadLine => some .deadLine
  | .settingsFault => some .settingsFault
  | _ => none

/-- R144: the outcome of a command that is ended without an answer: DONE for an OPEN whose unit last reported OPEN,
UNANSWERED otherwise. -/
def forcedOutcome (x : UnitLive) : CmdOutcome :=
  if x.context.kind = some .opn ∧ x.position = some .opened then .done else .unanswered

/-! ## Sending (R137, R141) -/

/-- The command frame of a context (R137, 9.5). -/
def commandFrame (u : Fin 9) (s : State) : OriginFrame :=
  let c := s.commands[u].context
  let address := (s.unitRow u).address
  { cls := .command u
    frame := makeFrame address
      (.command address (c.kind.getD .opn) (c.cls.getD .trip) (c.sequence.getD 0)) s.link }

/-- R141: a send of the command's frame: to the learned port, or to both while it is NONE, as one attempt. -/
def sendCommand (u : Fin 9) (s : State) : State :=
  let next := s.timebase + (s.unitRow u).retry
  let s := enterOrigins (commandFrame u s) s.commands[u].learned s
  s.updUnit u fun x => { x with context := { x.context with attempts := x.context.attempts + 1, nextSend := some next } }

/-- R137: the sequence number that follows the base, 1 when the base is absent. -/
def nextSequence (base : Option Nat) : Nat :=
  match base with
  | some b => (b + 1) % 256
  | none => 1

/-- R137, effects 1 and 2, and SENDING: the context of a new command. -/
def newContext (r : CmdRequest) (x : UnitLive) : UnitLive :=
  let n := nextSequence x.seqBase
  { x with
    seqBase := some n
    context :=
      { state := .sending, kind := some r.kind, cls := some r.cls, sequence := some n, attempts := 0, nextSend := none,
        deadline := none, cause := some r.cause, outcome := none } }

/-- R152: a frame of the old sequence that waits in a queue the new frame does not enter is withdrawn. -/
def dropStale (u : Fin 9) (s : State) : State :=
  match s.commands[u].learned with
  | some p => withdrawFrames u (otherPort p) s
  | none => s

/-! ## The end of a command (R145, R146) -/

/-- R145, step 2: DONE returns the context to IDLE, UNANSWERED and NO_MOVE put it in FAILED. -/
def endContext (o : CmdOutcome) (c : CommandContext) : CommandContext :=
  if o = .done then { CommandContext.idle with attempts := c.attempts }
  else { c with state := .failed, nextSend := none, deadline := none, outcome := some o }

/-- R145, step 3: the value of COMMAND_FAILED. -/
def failureNumber : CmdOutcome → Nat
  | .done => 0
  | .unanswered => 1
  | .noMove => 2

/-- R145, step 4: the outcome is handed to the block that acts on it. -/
def handOutcome (u : Fin 9) (c : CommandContext) (o : CmdOutcome) (s : State) : State :=
  match unitStep u, c.kind with
  | some i, some .close => hand (.closeOutcome i o) s
  | some i, some .opn => hand (.openOutcome i o) s
  | none, some k => if c.cls = some .control then hand (.incomerOutcome k (.outcome o)) s else s
  | _, none => s

/-- R145: a command ends. -/
def endCore (u : Fin 9) (o : CmdOutcome) (s : State) : State :=
  let c := s.commands[u].context
  let s := withdrawAll u s
  let s := s.updUnit u fun x => { x with context := endContext o x.context }
  let s := if o = .done then s else logEvent .commandFailed (.unit u) (some (failureNumber o)) s
  handOutcome u c o s

/-- R138: a CONTROL request for a unit with a command in flight is refused UNIT_BUSY. -/
def refuseBusy (r : CmdRequest) (s : State) : State :=
  match unitStep r.unit with
  | some i => hand (.unitBusyRefusal { step := i, kind := r.kind, cause := r.cause }) s
  | none => hand (.incomerOutcome r.kind .unitBusy) s

/-- R137: what a TRIP request tells the step supervisor and unbalance protection, whether it starts, overtakes or
merges, ahead of any outcome that its event gives. -/
def announceTrip (r : CmdRequest) (s : State) : State :=
  match r.cls, unitStep r.unit, tripCauseOf r.cause with
  | .trip, some i, some c => abandonNull i (hand (.tripStart i c) s)
  | _, _, _ => s

/-- R139: the overtaken notice of a CONTROL command of the incomer. -/
def noticeOvertaken (u : Fin 9) (s : State) : State :=
  match unitStep u, s.commands[u].context.kind with
  | none, some k => hand (.incomerOutcome k .overtaken) s
  | _, _ => s

/-- R137: a new command starts; while the unit's row is DAMAGED it ends at once (R144), by `finish`. -/
def startCommand (finish : Fin 9 → CmdOutcome → State → State) (r : CmdRequest) (s : State) : State :=
  let s := s.updUnit r.unit (newContext r)
  let s := dropStale r.unit s
  if s.unitDamaged r.unit then finish r.unit (forcedOutcome s.commands[r.unit]) s else sendCommand r.unit s

/-- R137 to R140: whether a request starts a command: none is in flight, or a TRIP overtakes a CONTROL command. -/
def startsCommand (r : CmdRequest) (s : State) : Bool :=
  let c := s.commands[r.unit].context
  !c.inFlight || (r.cls = .trip && c.cls ≠ some .trip)

/-- R137 to R140: a request, once its trip has been announced, is taken. `finish` ends the command of a DAMAGED unit. -/
def takeRequestWith (finish : Fin 9 → CmdOutcome → State → State) (r : CmdRequest) (s : State) : State :=
  if startsCommand r s then
    startCommand finish r (if s.commands[r.unit].context.inFlight then noticeOvertaken r.unit s else s)
  else
    match r.cls with
    | .control => refuseBusy r s
    | .trip => s

/-- R146: the request of the backup trip. -/
def backupRequest : CmdRequest where
  unit := incomer
  kind := .opn
  cls := .trip
  cause := .backup

/-- R145 and R146: a command ends, and a failed open of a step starts the backup trip in the same event. -/
def endCommand (u : Fin 9) (o : CmdOutcome) (s : State) : State :=
  let c := s.commands[u].context
  let s := endCore u o s
  match unitStep u with
  | some i =>
    if c.kind = some .opn ∧ o ≠ .done then
      takeRequestWith endCore backupRequest (logEvent .backupTrip (.unit incomer) (some i.val) s)
    else s
  | none => s

/-- R137 to R140: a request is taken by the command engine. A request of unit 8 announces nothing. -/
def takeRequest (r : CmdRequest) (s : State) : State :=
  takeRequestWith endCommand r s

/-- R144: a command in flight ends without an answer. -/
def forceEnd (u : Fin 9) (s : State) : State :=
  if s.commands[u].context.inFlight then endCommand u (forcedOutcome s.commands[u]) s else s

/-! ## Timers (R136, R141, R143) -/

/-- R141: a next-send time in SENDING: the frame is sent again, or the command ends when the attempts are exhausted. -/
def nextSend (u : Fin 9) (s : State) : State :=
  let x := s.commands[u]
  if x.context.state = .sending then
    if (s.unitRow u).attempts ≤ x.context.attempts then endCommand u (forcedOutcome x) s else sendCommand u s
  else s

/-- R143: the operate deadline in AWAITING_MOVE. -/
def deadlineArrives (u : Fin 9) (s : State) : State :=
  if s.commands[u].context.state = .awaitingMove then endCommand u .noMove s else s

/-- A supervision notice for a unit that serves a step (R99, R136). -/
def handSupervision (u : Fin 9) (sup : Supervision) (s : State) : State :=
  match unitStep u with
  | some i => hand (.unitSupervisionNotice i sup) s
  | none => s

/-- R136: an ALIVE unit becomes SILENT. -/
def goSilent (u : Fin 9) (s : State) : State :=
  let s := s.updUnit u fun x => { x with supervision := .silent, learned := none }
  handSupervision u .silent (logEvent .unitSilent (.unit u) none s)

/-- R136: the supervision timer of a unit expires. -/
def supervisionExpiry (u : Fin 9) (s : State) : State :=
  let x := s.commands[u]
  if x.timer.isSome ∧ x.supervision = .alive then forceEnd u (goSilent u s) else s

/-! ## Status frames (R135, R142, R143) -/

/-- R135, step 1: a position that names none of the three is taken as INTERMEDIATE. -/
def positionOf (b : Byte) : Position :=
  if b = 1 then .opened else if b = 2 then .closed else .intermediate

/-- The echoed kind of a status frame (9.5); other values match no command. -/
def echoKindOf (b : Byte) : Option CmdKind :=
  if b = 1 then some .opn else if b = 2 then some .close else none

/-- R135: the unit whose row carries the sender's address and is not DAMAGED; the all-zero address matches no frame
(8.1, note). -/
def matchUnit (a : Addr) (s : State) : Option (Fin 9) :=
  allUnits.find? fun u => !s.unitDamaged u && (s.unitRow u).address = a && a ≠ 0

/-- R135, step 4: a SILENT unit becomes ALIVE. -/
def comeAlive (u : Fin 9) (s : State) : State :=
  if s.commands[u].supervision = .silent then
    handSupervision u .alive
      (logEvent .unitAlive (.unit u) none (s.updUnit u fun x => { x with supervision := .alive }))
  else s

/-- R135, steps 1 to 3 and 5, and the restart of the timer: what a matched frame leaves in the unit. -/
def seeStatus (f : StatusFrame) (limit : Nat) (x : UnitLive) : UnitLive :=
  { x with
    position := some (positionOf f.position)
    ready := f.ready
    learned := some f.port
    timer := some { elapsed := 0, limit := limit }
    seqBase := match x.seqBase with
      | some b => some b
      | none => some f.echoSeq.toNat }

/-- R135: a change of the incomer's position to OPEN or CLOSED without a command in flight writes UNCOMMANDED_POSITION;
for a step's unit the position report is handed. -/
def reportPosition (u : Fin 9) (before : UnitLive) (pos : Position) (s : State) : State :=
  match unitStep u with
  | some i => hand (.positionReport i pos) s
  | none =>
    if before.position ≠ some pos ∧ pos ≠ .intermediate ∧ !before.context.inFlight then
      logEvent .uncommandedPosition (.unit u) (some (if pos = .opened then 1 else 2)) s
    else s

/-- R142: whether a status frame echoes the command of a context. -/
def acknowledges (f : StatusFrame) (c : CommandContext) : Bool :=
  c.sequence = some f.echoSeq.toNat && c.kind.isSome && echoKindOf f.echoKind = c.kind

/-- R142: an acknowledged command that has not reached its target waits for the move. -/
def awaitMove (u : Fin 9) (s : State) : State :=
  let deadline := s.timebase + (s.unitRow u).operateTime
  (withdrawAll u s).updUnit u fun x =>
    { x with context := { x.context with state := .awaitingMove, nextSend := none, deadline := some deadline } }

/-- R142, R143: a status frame is judged against the command in flight. -/
def judgeStatus (u : Fin 9) (f : StatusFrame) (s : State) : State :=
  let c := s.commands[u].context
  let reached : Bool := c.kind.map targetOf = some (positionOf f.position)
  match c.state with
  | .sending =>
    if reached then endCommand u .done s
    else if acknowledges f c then awaitMove u s
    else s
  | .awaitingMove => if reached then endCommand u .done s else s
  | _ => s

/-- R135: a status frame is taken. -/
def takeStatus (f : StatusFrame) (s : State) : State :=
  match matchUnit f.sender s with
  | some u =>
    let x := s.commands[u]
    let s := s.updUnit u (seeStatus f (s.unitRow u).statusTimeout)
    let s := comeAlive u s
    let s := reportPosition u x (positionOf f.position) s
    judgeStatus u f s
  | none => s

/-! ## Damage and rewriting of a row (R134, R147) -/

/-- R147: the row of a unit is found DAMAGED. -/
def unitFoundDamaged (u : Fin 9) (s : State) : State :=
  let s := forceEnd u s
  let s := if s.commands[u].supervision = .alive then goSilent u s
    else s.updUnit u fun x => { x with learned := none }
  s.updUnit u fun x => { x with timer := none }

/-- R134, R147: a rewrite that changes the address, or clears damage, forgets the port and the base and restarts the
supervision timer. -/
def UnitLive.readdress (limit : Nat) (x : UnitLive) : UnitLive :=
  { x with learned := none, seqBase := none, timer := some { elapsed := 0, limit := limit } }

end Sys2Proof.Machine
end

