-- ==== Sys2Proof/Machine/Uses.lean ====
section
/-! DEFINITION. The rows of the table memory that the owners use (R165): for each act that can use a row, the rows that its
path from a given state takes, in the order in which it takes them. An act uses a row when it takes the row's content, or
when its rule checks that the row is not DAMAGED; an answer formed of live state, with no more of a row than its mark, uses
none (notes/assumptions/11.md). -/

namespace Sys2Proof.Machine

/-! ## The rows of the tables -/

def streamRows : List RowRef := allStreams.map .stream
def stepRows : List RowRef := allSteps.map .step
def harmonicRows : List RowRef := allLimits.map .harmonic
def resonanceRows : List RowRef := (List.finRange 9).map .resonance
def unitRows : List RowRef := allUnits.map .unit

/-! ## Answers on counts (R49, R50, R52) -/

/-- R49: the answer on count `c` uses the Resonance Table row of that count; there is none for 9. -/
def countUses (c : Nat) : List RowRef :=
  if h : c < 9 then [.resonance ⟨c, h⟩] else []

/-- R50: the next-count status. -/
def nextCountUses (s : State) : List RowRef := countUses (nextCount s)

/-- R52, conditions 1 to 3: the row of the in-service count, and the rows of the orders it lists. -/
def detuneUses (s : State) : List RowRef :=
  let n := s.inCount
  if h : 1 ≤ n ∧ n < 9 then
    let row := s.memory.tables.resonance[n]
    .resonance ⟨n, h.2⟩ :: if row.damaged then [] else (row.row.orders.filterMap limitOfOrder).map .harmonic
  else []

/-! ## Grants (R124 to R127) -/

/-- R125: the walk of the Open List asks of each READY step whose duty bar is CLEAR whether it is cool enough (R87), and
ends at the first eligible one. -/
def walkUses (s : State) : List (Fin 8) → List RowRef
  | [] => []
  | i :: rest =>
    (if s.stepState i = .ready ∧ !dutyBarred i s then [.step i] else []) ++
      if eligible s i then [] else walkUses s rest

/-- R127: the checks of a MANUAL entry. SETTINGS uses the Yard Table and the step's row, RESONANCE the answer on the count;
the other entries use no row. -/
def manualUses (t : Fin 9) (k : CmdKind) (s : State) : List RowRef :=
  match unitStep t, k with
  | some i, .close =>
    if s.stepState i = .ready then
      [.yard, .step i] ++
        if !s.yardDamaged ∧ !s.stepDamaged i ∧ s.switching.line = .live ∧ s.energisedCount < s.yard.maxSteps then
          countUses (s.energisedCount + 1)
        else []
    else []
  | _, _ => []

/-- R125: MAXIMUM uses the Yard Table, RESONANCE the answer on the count, and NO_STEP the rows of the walk. -/
def autoCloseUses (s : State) : List RowRef :=
  if vctrlValid (fun v => v < s.switching.uLo) s ∧ s.switching.line = .live then
    .yard ::
      if s.energisedCount < s.yard.maxSteps then
        countUses (s.energisedCount + 1) ++
          if countBlocked (s.energisedCount + 1) s then [] else walkUses s s.supervisor.openList
      else []
  else []

/-- R126: the reason DETUNE uses the answer on the in-service count. -/
def autoOpenUses (reason : Reason) (s : State) : List RowRef :=
  match reason with
  | .detune => if 1 ≤ s.inCount then countUses s.inCount else []
  | .high | .low => []

/-- The grant of one entry that has left the queue. -/
def entryUses (e : QueueEntry) (s : State) : List RowRef :=
  match e.origin, e.kind with
  | .manual t, k => manualUses t k s
  | .auto _, .close => autoCloseUses s
  | .auto r, .opn => autoOpenUses r s

/-- R124: the grants while the slot is FREE. -/
def grantLoopUses : Nat → State → List RowRef
  | 0, _ => []
  | n + 1, s =>
    match s.switching.holder, s.switching.queue with
    | none, e :: rest =>
      let s := s.updSwitching fun w => { w with queue := rest }
      entryUses e s ++ grantLoopUses n (grantEntry e s)
    | _, _ => []

/-- R124: the entries that wait for the slot. -/
def grantUses (s : State) : List RowRef := grantLoopUses s.switching.queue.length s

/-- R123: an arriving entry, and the grants that follow. -/
def arriveUses (k : CmdKind) (o : Origin) (s : State) : List RowRef := grantUses (enqueue k o s)

def arriveAutoUses (k : CmdKind) (reason : Reason) (s : State) : List RowRef :=
  arriveUses k (.auto reason) (goPending s)

/-! ## Timers and the selection (R114, R119, R121, R122, R131) -/

/-- R121: the judgement of a high timer expiry. -/
def judgeHighUses (rise : Nat) (s : State) : List RowRef :=
  if highCheck rise s = none then arriveAutoUses .opn .high s else []

/-- R121: the judgement of a low timer expiry; its count part uses the Yard Table (R114). -/
def judgeLowUses (rise : Nat) (s : State) : List RowRef :=
  (if lowVoltage rise s then [.yard] else []) ++
    if lowCheck rise s = none then arriveAutoUses .close .low s else []

/-- R121: a held expiry. -/
def judgeHeldUses (s : State) : List RowRef :=
  match s.switching.expiryHeld, s.switching.control with
  | some rise, .autoHigh => judgeHighUses rise s
  | some rise, .autoLow => judgeLowUses rise s
  | _, _ => []

/-- R121, R130: the removal of the selection frees a held expiry. -/
def dropUses (s : State) : List RowRef := judgeHeldUses (s.updSwitching fun w => { w with selection := none })

/-- R131: the removal of the selection, if one exists, with an event. -/
def removalUses (s : State) : List RowRef := if s.switching.selection.isSome then dropUses s else []

/-- R121: the high timer's expiry uses the Yard Table for its ΔV. -/
def highExpiryUses (s : State) : List RowRef :=
  if highRuns s then
    .yard :: if s.switching.selection.isSome then [] else judgeHighUses s.yard.stepRise s
  else []

def lowExpiryUses (s : State) : List RowRef :=
  if lowRuns s then
    .yard :: if s.switching.selection.isSome then [] else judgeLowUses s.yard.stepRise s
  else []

/-- R114: the timers that a Yard Table write makes expire. -/
def expireUses (s : State) : List RowRef :=
  let high := s.switching.high.reached (s.yard.highDelay * 1000)
  let after := if high then highExpiry s else s
  (if high then highExpiryUses s else []) ++
    if after.switching.low.reached (after.yard.lowDelay * 1000) then lowExpiryUses after else []

/-! ## Reports to switching control (R93, R122, R128) -/

/-- R131: the selection of a step that enters LOCKOUT or WITHDRAWN. -/
def selectionUses (r : StepReport) (s : State) : List RowRef :=
  if isSelected (stepUnit r.step) s ∧ (r.new = .lockout ∨ r.new = .withdrawn) then removalUses s else []

def controlReportUses (r : StepReport) (s : State) : List RowRef :=
  let s := settleByReport r s
  selectionUses r s ++ grantUses (tripInDead r (selectionByReport r s))

/-! ## Publications (R31) -/

/-- R43 to R52: the rows of the elements that move and of the conditions that are re-formed, and those of the counts. -/
def harmonicUses (m : Fin 38) (record : ResultRecord) (s : State) : List RowRef :=
  if h : m.val < 6 then
    (if !evaluable record then []
     else if m.val < 3 then harmonicRows
     else (allLimits.filter fun i => (s.harmonic.elements[(⟨m.val, h⟩ : Fin 6)][i]).isSome).map .harmonic) ++
      (if m.val < 3 then nextCountUses s else []) ++
      (if m = 0 then detuneUses s else [])
  else []

/-- R58, R77: the row of the step whose neutral or phase A input publishes, where the step is IN, or its heat mode is
SERVICE. -/
def stepPublicationUses (m : Fin 38) (s : State) : List RowRef :=
  match inputStep m with
  | some (i, k) =>
    if (k = 3 ∧ s.stepState i = .inService) ∨ (k = 0 ∧ s.duty.steps[i].mode = .service) then [.step i] else []
  | none => []

/-- R114 to R117: an evaluation uses the Yard Table; the entry to DEAD removes the selection. -/
def controlUses (s : State) : List RowRef :=
  let s := takeLimits (formControlQuantity s)
  .yard ::
    if !s.yardDamaged ∧ s.switching.line ≠ .dead ∧ (lineRules s).switching.line = .dead then removalUses (enterDead s)
    else []

/-- R31: the consumers of a record of input `m`. -/
def publicationUses (m : Fin 38) (record : ResultRecord) (s : State) : List RowRef :=
  let s := { s with engine := { s.engine with results := s.engine.results.set m record } }
  harmonicUses m record s ++ stepPublicationUses m s ++
    if m = 0 then controlUses (harmonicPublication m s) else []

/-- The inputs that an act publishes: those whose record it gives a new sequence number (R31, R32). -/
def publishedBy (act : State → State) (s : State) : List (Fin 38) :=
  let before := s.engine.results
  let after := (act s).engine.results
  allInputs.filter fun m => after[m].sequence ≠ before[m].sequence

/-- R32: what the INVALID publications of an act use. None of them changes what another one uses. -/
def noticeUses (act : State → State) (s : State) : List RowRef :=
  (publishedBy act s).flatMap fun m => publicationUses m (invalidRecord s.engine.results[m]) s

/-! ## Acceptance and the engine (chapters 01 and 02) -/

/-- R1, R6: a sample frame is compared with the rows of the Stream Table. -/
def sampleUses (f : SampleFrame) (s : State) : List RowRef :=
  streamRows ++ noticeUses (acceptFrame f) s

/-- R13: the loss of a RUNNING stream uses the map of its row. -/
def lossUses (i : Fin 16) (s : State) : List RowRef :=
  if s.acceptance.streams[i].status = .running then .stream i :: noticeUses (streamLost i) s else []

/-- R27, R31: the end of a computation uses the input's nominal and what its publication uses, unless its window is
withdrawn; a notice that waited for it follows (R22). -/
def computationUses (s : State) : List RowRef :=
  match s.engine.computing with
  | some (m, w) =>
    let x := s.window m w
    let s := setWindow m w Window.empty { s with engine := { s.engine with computing := none } }
    if x.state = .computing true then noticeUses (endWait m w) s
    else
      let record := computeRecord x s.memory.tables.input[m].row.nominal s.engine.results[m]
      .input m :: publicationUses m record s ++ noticeUses (endWait m w) (publish m record s)
  | none => []

/-! ## The duty monitor and the step supervisor (chapters 05 and 06) -/

/-- R78: the steps whose heat mode is COOLDOWN. -/
def cooldownUses (s : State) : List RowRef :=
  (allSteps.filter fun i => s.duty.steps[i].mode = .cooldown).map .step

/-- R85, R86: a running decay timer uses the decay period, the limit and the base. -/
def decayUses (i : Fin 8) (s : State) : List RowRef :=
  if s.duty.steps[i].decay.isSome then [.step i] else []

/-- R82, R84, R94, R95: a position report that counts as an operation, or that resolves the step to OPEN. -/
def positionUses (i : Fin 8) (pos : Position) (s : State) : List RowRef :=
  let x := s.supervisor.steps[i]
  let operation : Bool :=
    x.lastPosition ≠ some pos ∧ !x.resolutionDue ∧ x.lastPosition ≠ none ∧ pos ≠ .intermediate
  if operation ∨ (x.resolutionDue ∧ pos = .opened) then [.step i] else []

/-- R82, R103: a failed close loads the discharge timer. -/
def closeOutcomeUses (i : Fin 8) (o : CmdOutcome) (s : State) : List RowRef :=
  if s.stepState i = .closing ∧ o ≠ .done then [.step i] else []

/-- R65: an entry into IN uses the neutral input present flag. -/
def unbalanceReportUses (r : StepReport) (_ : State) : List RowRef :=
  if r.old ≠ .inService ∧ r.new = .inService then [.step r.step] else []

/-- R50: a report that has the next-count status evaluated. -/
def harmonicReportUses (r : StepReport) (s : State) : List RowRef :=
  if isEnergised r.old ∨ isEnergised r.new then nextCountUses s else []

/-! ## Breaker commands (chapter 08) -/

/-- R137, R141, R157: a command that starts uses its unit's row, and the Link Table for the frame it sends. -/
def startUses (r : CmdRequest) (s : State) : List RowRef :=
  if startsCommand r s then .unit r.unit :: if s.unitDamaged r.unit then [] else [.link] else []

/-- R146: the failed open of a step starts the backup trip. -/
def endUses (u : Fin 9) (o : CmdOutcome) (s : State) : List RowRef :=
  if (unitStep u).isSome ∧ s.commands[u].context.kind = some .opn ∧ o ≠ .done then startUses backupRequest s else []

/-- R144: a command in flight that ends without an answer. -/
def forceEndUses (u : Fin 9) (s : State) : List RowRef :=
  if s.commands[u].context.inFlight then endUses u (forcedOutcome s.commands[u]) s else []

/-- R137, R144: a request; the command of a DAMAGED unit ends at once. -/
def requestUses (r : CmdRequest) (s : State) : List RowRef :=
  startUses r s ++
    if startsCommand r s ∧ s.unitDamaged r.unit then
      let s := s.updUnit r.unit (newContext r)
      endUses r.unit (forcedOutcome s.commands[r.unit]) s
    else []

/-- R141: a next-send time uses the attempts in force, and the Link Table for the frame it sends. -/
def nextSendUses (u : Fin 9) (s : State) : List RowRef :=
  let x := s.commands[u]
  if x.context.state = .sending then
    .unit u :: if (s.unitRow u).attempts ≤ x.context.attempts then endUses u (forcedOutcome x) s else [.link]
  else []

/-- R143: the operate deadline. -/
def deadlineUses (u : Fin 9) (s : State) : List RowRef :=
  if s.commands[u].context.state = .awaitingMove then endUses u .noMove s else []

/-- R136, R144: the expiry of an ALIVE unit's supervision timer. -/
def supervisionUses (u : Fin 9) (s : State) : List RowRef :=
  if s.commands[u].timer.isSome ∧ s.commands[u].supervision = .alive then forceEndUses u s else []

end Sys2Proof.Machine
end

