-- ==== Sys2Proof/Machine/Damage.lean ====
section
/-! DEFINITION. Check bits and damage (11.1): the read of a row, what the row's owner does when it is found DAMAGED, and
the reads of an act. -/

namespace Sys2Proof.Machine

/-! ## Reading a row (R165) -/

/-- R165: an error fills the first-error record if it is empty. -/
def recordError (r : RowRef) (c : ErrorClass) (s : State) : State :=
  s.updMemory fun m => { m with firstError := some (m.firstError.getD (r, c)) }

/-- R165: a single-bit error is corrected. -/
def correctRow (r : RowRef) (s : State) : State :=
  recordError r .corrected (s.updMemory fun m =>
    { m with tables := m.tables.mapAt r Held.correct, corrected := (m.corrected + 1) % mod32 })

/-- R165: a double-bit error marks the row, counts it and writes TABLE_DAMAGED. -/
def markDamaged (r : RowRef) (s : State) : State :=
  let s := recordError r .damaged (s.updMemory fun m =>
    { m with tables := m.tables.mapAt r Held.fail, damaged := (m.damaged + 1) % mod32 })
  logEvent .tableDamaged (.row r) (some (tableNumber r)) s

/-- R165: the owner of a row found DAMAGED acts as its own chapter gives (table of 11.1). `mapped` are the inputs that a
Stream Table row mapped. -/
def ownerActs (r : RowRef) (mapped : List (Fin 38)) (s : State) : State :=
  match r with
  | .stream i => streamFoundDamaged i mapped s
  | .input m => inputFoundDamaged m s
  | .step i => settingsFault i (abandonNull i s)
  | .harmonic i => harmonicFoundDamaged i s
  | .resonance _ => reformNextCount s
  | .yard => yardFoundDamaged s
  | .unit u => unitFoundDamaged u s
  | .link => s

/-- The inputs that the row of `r` maps, when it is a Stream Table row. -/
def rowInputs (r : RowRef) (s : State) : List (Fin 38) :=
  match r with
  | .stream i => mappedInputs (streamHeld i s).row
  | _ => []

/-- Bit flips strike rows of the table memory. -/
def strikeRows (xs : List Strike) (s : State) : State :=
  s.updMemory fun m => { m with tables := xs.foldl Tables.strikeAt m.tables }

/-! ## Reading rows (R165) -/

/-- R165: the rows that the owner of row `r` uses when it acts on its damage: those of the publications that its notices
give, of the next-count status, and of the backup trip. -/
def ownerUses (r : RowRef) (mapped : List (Fin 38)) (s : State) : List RowRef :=
  match r with
  | .stream i => noticeUses (streamFoundDamaged i mapped) s
  | .input m => noticeUses (inputFoundDamaged m) s
  | .harmonic _ | .resonance _ => nextCountUses s
  | .unit u => forceEndUses u s
  | .step _ | .yard | .link => []

/-- Whether a read of a row finds an error: the row is not DAMAGED already, and fails its check bits. -/
def flawed (s : State) (r : RowRef) : Bool :=
  !s.memory.tables.damagedAt r && s.memory.tables.upsetAt r ≠ .clean

/-- The rows that an act uses are read by `read`: the first one with an error, then, along the path that this read leaves,
the next; `n` bounds how many. -/
def readAlong (read : State → RowRef → State) (uses : State → List RowRef) : Nat → State → State
  | 0, s => s
  | n + 1, s =>
    match (uses s).find? (flawed s) with
    | some r => readAlong read uses n (read s r)
    | none => s

/-- R165: a read of a row; a row already DAMAGED is not judged again. The owner that acts on the damage reads the rows it
uses in turn; `n` bounds how far one damage leads to the next, each with a row less to find. -/
def readAt : Nat → State → RowRef → State
  | 0, s, _ => s
  | n + 1, s, r =>
    if s.memory.tables.damagedAt r then s
    else
      match s.memory.tables.upsetAt r with
      | .clean => s
      | .single => correctRow r s
      | .double =>
        let mapped := rowInputs r s
        markChange s (ownerActs r mapped (readAlong (readAt n) (ownerUses r mapped) n (markDamaged r s)))

/-- R165: a read of a row, with room for the damage of each of the 97 rows. -/
def readRow (s : State) (r : RowRef) : State := readAt 97 s r

/-- Rows read one after the other, whether an owner uses them or not (R163, R166). -/
def readRows (rs : List RowRef) (s : State) : State := rs.foldl readRow s

/-- R165: the rows that an act uses are read, and no others. Each error found leaves a row less to find, of 97. -/
def readUsed (uses : State → List RowRef) (s : State) : State := readAlong readRow uses 97 s

end Sys2Proof.Machine
end

