-- ==== Sys2Proof/Machine/Reports.lean ====
section
/-! DEFINITION. Report frames (R171): periodic reports, change reports, and the change a step makes to the yard
summary. -/

namespace Sys2Proof.Machine

/-- The sequence number of the newest entry; with an empty list, that of the entry written last
(notes/assumptions/23.md). -/
def newestSequence (s : State) : Nat := (s.events.next + mod32 - 1) % mod32

/-- R171: a report frame as the state stands. -/
def reportFrame (periodic change : Bool) (s : State) : OriginFrame where
  cls := .report
  frame := makeFrame s.link.destination (.report periodic change (newestSequence s) (yardSummary s)) s.link

/-- R151, R171: a report is made and enters the queue of the report port, or of both ports while that is NONE. -/
def sendReport (periodic change : Bool) (s : State) : State :=
  enterOrigins (reportFrame periodic change s) s.ports.reportPort s

/-- R171: whether the report timer has reached the report period. -/
def periodReached (s : State) : Bool := s.link.period * 1000 ≤ s.events.reportTimer

/-- R171: a change report is made, with the PERIODIC flag too when both fall due together. -/
def sendChange (s : State) : State :=
  let both := periodReached s
  let s := sendReport both true s
  { s with events := { s.events with
      changePending := false, changeHold := Config.changeInterval
      reportTimer := if both then 0 else s.events.reportTimer } }

/-- R171: a change of the yard summary since `before`, or one that has set change pending since, has its report made at
once if no change report has been made in the last 100 ms; it waits otherwise. Making the report reads the Link Table
(R157, R165), and what the read finds belongs to the same report. Whether changes are reported is judged by the
destination as the event leaves it (notes/assumptions/61.md). -/
def noteChange (before s : State) : State :=
  if reporting s ∧
      (yardSummary before ≠ yardSummary s ∨ (s.events.changePending ∧ !before.events.changePending)) then
    let s := { s with events := { s.events with changePending := true } }
    if s.events.changeHold = 0 then sendChange (readRow s .link) else s
  else s

/-- R171: the report timer reaches the period: it restarts, and a periodic report is made, with the CHANGE flag too when
both fall due together. -/
def periodicReport (s : State) : State :=
  let s := { s with events := { s.events with reportTimer := 0 } }
  if reporting s then
    let both := s.events.changePending && s.events.changeHold = 0
    let s := sendReport true both s
    if both then
      { s with events := { s.events with changePending := false, changeHold := Config.changeInterval } }
    else s
  else s

/-- R171: the 100 ms after a change report end with a change pending. -/
def changeReport (s : State) : State :=
  if reporting s ∧ s.events.changePending then sendChange s else s

end Sys2Proof.Machine
end

