-- ==== Sys2Proof/Machine/Taking.lean ====
section
/-! DEFINITION. The frame of every step that takes a command: the message it takes, the rows it reads, and the change of the
yard summary it makes. -/

namespace Sys2Proof.Machine

/-- What a command's own changes are told from: the state `r` once the rows are read, with the change pending mark as it
stood before the command (R171). -/
def sinceTaken (s r : State) : State :=
  { r with events := { r.events with changePending := s.events.changePending } }

/-- A command is taken as one event: the message it takes leaves the mail, the rows it uses are read, it acts, and a
change of the yard summary is noted (R165, R171). Between a reset and start-up no block acts (R168). -/
def taking (c : Instr) (uses : State → List RowRef) (body : State → State) (s : State) : State :=
  let s := s.dropMail c
  match s.phase with
  | .running =>
    let r := readUsed uses s
    noteChange (sinceTaken s r) (body r)
  | .inReset _ => s

/-- A command that uses no row of the table memory. -/
def noRows (_ : State) : List RowRef := []

end Sys2Proof.Machine
end

