-- ==== Sys2Proof/Machine/DutyCommands.lean ====
section
/-! DEFINITION. The meanings of the commands of the duty monitor (chapter 05). -/

namespace Sys2Proof.Machine

/-- R78: a tick of the seconds clock, which drives the cooldown updates of every step together. -/
def secondsTick (s : State) : State :=
  let s := { s with duty := { s.duty with secondsLeft := 1000 } }
  allSteps.foldl (fun s i => cooldownUpdate i s) s

/-- R83: a RUNNING discharge timer reaches 0: it stops, and the step has discharged. -/
def dischargeExpiry (i : Fin 8) (s : State) : State :=
  if s.duty.steps[i].discharge.isSome then
    hand (.dischargedReport i) (s.updDuty i fun d => { d with discharge := none })
  else s

/-- R76: the duty monitor takes a step state report; R88 holds last P while the row is DAMAGED and R76 clears it, and the
model follows R76 (notes/assumptions/50.md). -/
def takeHeatMode (r : StepReport) (s : State) : State :=
  s.updDuty r.step (DutyLive.setMode (heatModeOf r.new))

/-- SECONDS_CLOCK_TICK (R78). -/
def execSecondsClockTick (s : State) : Host.Outcome State Fault Refusal :=
  .next (taking .secondsClockTick cooldownUses secondsTick s)

/-- DISCHARGE_TIMER_EXPIRY (R83). -/
def execDischargeTimerExpiry (step : Fin 8) (s : State) : Host.Outcome State Fault Refusal :=
  .next (taking (.dischargeTimerExpiry step) noRows (dischargeExpiry step) s)

/-- DECAY_TIMER_EXPIRY (R85). -/
def execDecayTimerExpiry (step : Fin 8) (s : State) : Host.Outcome State Fault Refusal :=
  .next (taking (.decayTimerExpiry step) (decayUses step) (decayExpiry step) s)

/-- HEAT_MODE_CHANGE (R76). -/
def execHeatModeChange (r : StepReport) (s : State) : Host.Outcome State Fault Refusal :=
  .next (taking (.heatModeChange r) noRows (takeHeatMode r) s)

end Sys2Proof.Machine
end

