-- ==== Sys2Proof/Machine/Writes.lean ====
section
/-! DEFINITION. Writes of the settings tables (R162): the checks and clamps of each table's rows, and what a write that is
taken does at once (R2 to R5, R39 to R42, R54, R56, R57, R74, R75, R91, R113, R114, R134, R147, R155). -/

namespace Sys2Proof.Machine

/-- The outcomes of a request (10.1). -/
inductive Code where
  | ok
  | queued
  | busy
  | locked
  | duplicate
  | order
  | bandNarrow
  | range
  | stepInService
  | stepBusy
  | selectBusy
  | token
  | noSelection
  | queueFull
  | unitBusy
  | notPosition
  | unknownRequest
deriving DecidableEq, Repr

/-- The codes of 10.1. -/
def codeNumber : Code → Nat
  | .ok => 0
  | .queued => 1
  | .busy => 16
  | .locked => 17
  | .duplicate => 18
  | .order => 19
  | .bandNarrow => 20
  | .range => 21
  | .stepInService => 22
  | .stepBusy => 23
  | .selectBusy => 24
  | .token => 25
  | .noSelection => 26
  | .queueFull => 27
  | .unitBusy => 28
  | .notPosition => 29
  | .unknownRequest => 30

/-! ## Fields -/

/-- A named flag of two values, no 1 and yes 2 (R158). -/
def flagOf (n : Nat) : Option Bool :=
  if n = 1 then some false else if n = 2 then some true else none

def compModeOf (n : Nat) : Option CompMode :=
  if n = 1 then some .none else if n = 2 then some .auto else if n = 3 then some .manual else none

/-- The start mode of a Yard Table row: AUTO 1, MANUAL 2 (7.1). -/
def startModeOf (n : Nat) : Option Mode :=
  if n = 1 then some .auto else if n = 2 then some .manual else none

/-- Whether a level or delay written is clamped (R162). -/
def clamps (lo hi : Nat) (x : Int) : Bool := !within lo hi x

/-- The first check of a list that fails gives the refusal code. -/
def firstRefusal : List (Bool × Code) → Option Code
  | [] => none
  | (ok, c) :: rest => if ok then firstRefusal rest else some c

/-- A row as it is taken, with whether any field was clamped. -/
abbrev Taken (α : Type) := α × Bool

/-- The rows of a request, numbered from `k` on, within a table of `n` rows. -/
def placeRows {α : Type} {n : Nat} : Nat → List α → List (Fin n × α)
  | _, [] => []
  | k, x :: xs => if h : k < n then (⟨k, h⟩, x) :: placeRows (k + 1) xs else []

/-- The rows of a request judged one after the other, each in the order of its checks; the first failure refuses the
request (R40; notes/assumptions/33.md). -/
def judgeRows {α β : Type} (judge : α → Except Code β) : List α → Except Code (List β)
  | [] => .ok []
  | x :: xs =>
    match judge x, judgeRows judge xs with
    | .error c, _ => .error c
    | .ok _, .error c => .error c
    | .ok y, .ok ys => .ok (y :: ys)

def anyClamped {α β : Type} (rows : List (α × Taken β)) : Bool := rows.any fun x => x.2.2

/-- Rows put into a table, each with fresh check bits and no DAMAGED mark (R162, R165). -/
def putRows {α : Type} {n : Nat} (rows : List (Fin n × Taken α)) (v : Vector (Held α) n) : Vector (Held α) n :=
  rows.foldl (fun v x => v.set x.1 (Held.fresh x.2.1)) v

/-! ## Stream Table (R1 to R4) -/

/-- R1: an entry of the channel map: none, or an input below a position within the channel count. -/
def mapEntryOk (count : Int) (j : Nat) (e : Option Int) : Bool :=
  match e with
  | none => true
  | some m => (j : Int) < count && within 0 37 m

/-- R2, check 1. -/
def streamFieldsOk (r : RawStream) : Bool :=
  within 1 2 r.inUse && within 0 65535 r.streamNumber && within 1 12 r.channelCount &&
    (allPositions.all fun j => mapEntryOk r.channelCount j.val r.map[j]) && within 1 2 r.acceptSimulated

def mapEntry (e : Option Int) : Option (Fin 38) :=
  e.bind fun m => if h : m.toNat < 38 then some ⟨m.toNat, h⟩ else none

/-- R1, R2: the row taken, its loss timeout clamped. -/
def streamTaken (r : RawStream) : Taken StreamRow :=
  ({ inUse := r.inUse = 2, address := r.address, streamNumber := r.streamNumber.toNat, channelCount := r.channelCount.toNat
     map := r.map.map mapEntry, lossTimeout := clampTo 2 50 r.lossTimeout, acceptSimulated := r.acceptSimulated = 2 },
   clamps 2 50 r.lossTimeout)

/-- R2, check 3: no two in-use rows carry the same source tag, and no input appears twice; DAMAGED rows take no part. -/
def streamLaw (v : Vector (Held StreamRow) 16) : Bool :=
  let rows : List StreamRow := (v.toList.filter fun h => !h.damaged).map fun h => h.row
  let tags : List (Addr × Nat) := (rows.filter fun r => r.inUse).map fun r => (r.address, r.streamNumber)
  decide (tags.Nodup) && decide ((rows.flatMap mappedInputs).Nodup)

/-- R2 to R4: a write to the Stream Table. -/
def writeStream (first : Nat) (raws : List RawStream) (s : State) : Except Code (Bool × State) :=
  let placed : List (Fin 16 × RawStream) := placeRows first raws
  let rows := placed.map fun x => (x.1, streamTaken x.2)
  let t := s.memory.tables
  let t' := { t with stream := putRows rows t.stream }
  match firstRefusal
      [(raws.all streamFieldsOk, .range), (rows.all fun x => !rowHeld x.1 s, .stepInService),
       (streamLaw t'.stream, .duplicate)] with
  | some c => .error c
  | none => .ok (anyClamped rows, rows.foldl (fun s x => streamRewritten x.1 t.stream[x.1] s) (s.putTables t'))

/-! ## Input Table (R5) -/

def judgeInput (x : Fin 38 × RawInput) : Except Code (Fin 38 × Taken InputRow) :=
  if within 1 8388607 x.2.nominal ∧ x.2.kind = inputKindNumber (inputKind x.1) then
    .ok (x.1, ({ nominal := x.2.nominal.toNat }, false))
  else .error .range

/-- R5: a write to the Input Table. -/
def writeInput (first : Nat) (raws : List RawInput) (s : State) : Except Code (Bool × State) :=
  match judgeRows judgeInput (placeRows first raws) with
  | .error c => .error c
  | .ok rows =>
    let t := s.memory.tables
    let s := s.putTables { t with input := putRows rows t.input }
    .ok (false, rows.foldl (fun s x => inputRewritten x.1 t.input[x.1].damaged s) s)

/-! ## Step Table (R56, R57, R74, R75, R91) -/

/-- R91: whether a write would change a structural field. -/
def structuralChange (old : StepRow) (r : RawStep) : Bool :=
  flagOf r.inUse ≠ some old.inUse || flagOf r.neutralPresent ≠ some old.neutralPresent || r.rated ≠ old.rated

/-- R91: whether the step's state allows the write. -/
def stepWriteAllowed (i : Fin 8) (r : RawStep) (s : State) : Bool :=
  if s.stepDamaged i then s.stepState i = .withdrawn ∨ s.stepState i = .lockout
  else s.stepState i = .withdrawn ∨ !structuralChange (s.stepRow i) r

/-- R57: whether a write is a write of K. -/
def writesK (old : StepRow) (r : RawStep) : Bool := r.kr ≠ old.kr ∨ r.ki ≠ old.ki

/-- The row a write gives, its levels and delays clamped (R56, R74); a write of K makes the mode MANUAL (R57). -/
def stepTaken (old : StepRow) (r : RawStep) : StepRow where
  inUse := r.inUse = 2
  neutralPresent := r.neutralPresent = 2
  alarmLevel := clampTo 1 100000 r.alarmLevel
  tripLevel := clampTo 1 100000 r.tripLevel
  alarmDelay := clampTo 1 3000 r.alarmDelay
  tripDelay := clampTo 1 3000 r.tripDelay
  compMode := if writesK old r then .manual else (compModeOf r.compMode).getD .none
  kr := r.kr
  ki := r.ki
  rated := r.rated.toNat
  thermalCode := clampTo 6 16 r.thermalCode
  heatAlarm := clampTo 0 16769025 r.heatAlarm
  heatTrip := clampTo 0 16769025 r.heatTrip
  heatReclose := clampTo 0 16769025 r.heatReclose
  dischargeTime := clampTo 60 900 r.dischargeTime
  opsLimit := clampTo 1 15 r.opsLimit
  opsBase := clampTo 0 14 r.opsBase
  decayPeriod := clampTo 1 120 r.decayPeriod

def stepClamped (r : RawStep) : Bool :=
  clamps 1 100000 r.alarmLevel || clamps 1 100000 r.tripLevel || clamps 1 3000 r.alarmDelay || clamps 1 3000 r.tripDelay ||
    clamps 6 16 r.thermalCode || clamps 0 16769025 r.heatAlarm || clamps 0 16769025 r.heatTrip ||
    clamps 0 16769025 r.heatReclose || clamps 60 900 r.dischargeTime || clamps 1 15 r.opsLimit || clamps 0 14 r.opsBase ||
    clamps 1 120 r.decayPeriod

/-- K as a row may hold it (R56). -/
def kOk (k : Int) : Bool := -(Config.kMax : Int) ≤ k && k ≤ Config.kMax

/-- R56: Kr, Ki, the mode and the flags of a row name values of their fields. -/
def stepFieldsOk (r : RawStep) : Bool :=
  kOk r.kr && kOk r.ki && (compModeOf r.compMode).isSome && (flagOf r.inUse).isSome && (flagOf r.neutralPresent).isSome

/-- R56: the alarm level below the trip level. -/
def unbalanceOrdered (row : StepRow) : Bool := row.alarmLevel < row.tripLevel

/-- R74: the heat levels and the operations figures in order. -/
def heatOrdered (row : StepRow) : Bool :=
  row.heatAlarm < row.heatTrip && row.heatReclose < row.heatAlarm && row.opsBase < row.opsLimit

/-- R91, R56, R74 in this order, each over every row of the request before the next (R162). -/
def stepChecks (rows : List (Fin 8 × RawStep)) (s : State) : List (Bool × Code) :=
  let taken := rows.map fun x => stepTaken (s.stepRow x.1) x.2
  [(rows.all fun x => stepWriteAllowed x.1 x.2 s, .stepInService), (rows.all fun x => stepFieldsOk x.2, .range),
   (taken.all unbalanceOrdered, .order), (rows.all fun x => within 1 8388607 x.2.rated, .range),
   (taken.all heatOrdered, .order)]

/-- R57, R70, R75, R88: what a rewritten Step Table row does at once. -/
def stepRewritten (old : StepRow) (i : Fin 8) (s : State) : State :=
  let row := s.stepRow i
  let s := if row.kr ≠ old.kr ∨ row.ki ≠ old.ki then abandonNull i s else s
  reformDutyBar i s

def writeStep (first : Nat) (raws : List RawStep) (s : State) : Except Code (Bool × State) :=
  let placed : List (Fin 8 × RawStep) := placeRows first raws
  match firstRefusal (stepChecks placed s) with
  | some c => .error c
  | none =>
    let rows := placed.map fun x => (x.1, (stepTaken (s.stepRow x.1) x.2, stepClamped x.2))
    let t := s.memory.tables
    let s := s.putTables { t with step := putRows rows t.step }
    .ok (anyClamped rows, rows.foldl (fun s x => stepRewritten t.step[x.1].row x.1 s) s)

/-! ## Harmonic Limit Table (R39, R41, R42, R54) -/

def judgeHarm (x : Fin 15 × RawHarm) : Except Code (Fin 15 × Taken HarmRow) :=
  let r := x.2
  match flagOf r.supervise with
  | none => .error .range
  | some sup =>
    .ok (x.1, ({ supervise := sup, alarmLevel := clampTo 1 10000 r.alarmLevel, blockLevel := clampTo 1 10000 r.blockLevel
                 pickup := clampTo 1 600 r.pickup, dropout := clampTo 1 600 r.dropout },
      clamps 1 10000 r.alarmLevel || clamps 1 10000 r.blockLevel || clamps 1 600 r.pickup || clamps 1 600 r.dropout))

/-- R41, R42: a rewritten row's elements exist or not by its flag, its condition is re-formed, and the sustain count of a
condition that the write clears goes to 0. -/
def harmRewritten (s : State) (i : Fin 15) : State :=
  let was := s.harmonic.block[i]
  let s := if s.memory.tables.harmonic[i].row.supervise then createElements i s else removeElements i s
  let s := reformBlock s i
  if was && !s.harmonic.block[i] then zeroSustain i s else s

def writeHarm (first : Nat) (raws : List RawHarm) (s : State) : Except Code (Bool × State) :=
  match judgeRows judgeHarm (placeRows first raws) with
  | .error c => .error c
  | .ok rows =>
    let t := s.memory.tables
    let s := s.putTables { t with harmonic := putRows rows t.harmonic }
    .ok (anyClamped rows, reformNextCount ((rows.map Prod.fst).foldl harmRewritten s))

/-! ## Resonance Table (R40, R41) -/

def judgeRes (x : Fin 9 × RawRes) : Except Code (Fin 9 × Taken ResRow) :=
  let orders := x.2.orders
  match firstRefusal
      [(orders.length ≤ 4 && orders.all (within 2 15), .range), (decide orders.Nodup, .duplicate),
       (decide (orders.Pairwise (· < ·)), .order)] with
  | some c => .error c
  | none => .ok (x.1, ({ orders := orders.map Int.toNat }, false))

def writeRes (first : Nat) (raws : List RawRes) (s : State) : Except Code (Bool × State) :=
  match judgeRows judgeRes (placeRows first raws) with
  | .error c => .error c
  | .ok rows =>
    let t := s.memory.tables
    .ok (false, reformNextCount (s.putTables { t with resonance := putRows rows t.resonance }))

/-! ## Yard Table (R113, R114) -/

/-- The row a write gives, its levels and delays clamped (R113). -/
def yardTaken (r : RawYard) : YardRow where
  frequency := r.frequency.toNat
  uLo := clampTo 1 8388607 r.uLo
  uHi := clampTo 1 8388607 r.uHi
  stepRise := clampTo 1 8388607 r.stepRise
  highDelay := clampTo 1 600 r.highDelay
  lowDelay := clampTo 1 600 r.lowDelay
  settleTime := clampTo 5 600 r.settleTime
  deadLevel := clampTo 0 8388607 r.deadLevel
  deadDelay := clampTo 1 100 r.deadDelay
  restoreHold := clampTo 5 600 r.restoreHold
  maxSteps := r.maxSteps.toNat
  startMode := (startModeOf r.startMode).getD .manual
  selectTimeout := clampTo 5 120 r.selectTimeout

def yardClamped (r : RawYard) : Bool :=
  clamps 1 8388607 r.uLo || clamps 1 8388607 r.uHi || clamps 1 8388607 r.stepRise || clamps 1 600 r.highDelay ||
    clamps 1 600 r.lowDelay || clamps 5 600 r.settleTime || clamps 0 8388607 r.deadLevel || clamps 1 100 r.deadDelay ||
    clamps 5 600 r.restoreHold || clamps 5 120 r.selectTimeout

/-- The checks of R113, in order. -/
def yardChecks (r : RawYard) : List (Bool × Code) :=
  let row := yardTaken r
  [((r.frequency = 50 || r.frequency = 60) && within 1 8 r.maxSteps && (startModeOf r.startMode).isSome, .range),
   (row.uLo + row.stepRise < row.uHi, .bandNarrow),
   (row.deadLevel < row.uLo, .order)]

def writeYardRow (r : RawYard) (s : State) : Except Code (Bool × State) :=
  match firstRefusal (yardChecks r) with
  | some c => .error c
  | none =>
    let t := s.memory.tables
    .ok (yardClamped r, expireReached (s.putTables { t with yard := Held.fresh (yardTaken r) }))

def writeYard (raws : List RawYard) (s : State) : Except Code (Bool × State) :=
  match raws with
  | [r] => writeYardRow r s
  | _ => .error .range

/-! ## Breaker Unit Table (R134, R147) -/

/-- The row a write gives, its times and attempts clamped (R134). -/
def unitTaken (r : RawUnit) : Taken UnitRow :=
  ({ address := r.address, retry := clampTo 1 20 r.retry, attempts := clampTo 1 16 r.attempts
     operateTime := clampTo 20 500 r.operateTime, statusTimeout := clampTo 100 5000 r.statusTimeout },
   clamps 1 20 r.retry || clamps 1 16 r.attempts || clamps 20 500 r.operateTime || clamps 100 5000 r.statusTimeout)

/-- R134, check 1. -/
def addressFree (s : State) (x : Fin 9 × Taken UnitRow) : Bool :=
  (s.unitRow x.1).address = x.2.1.address || !s.commands[x.1].context.inFlight

/-- R134, check 2: no two rows carry the same address, the all-zero address excepted; a DAMAGED row takes no part. -/
def unitLaw (v : Vector (Held UnitRow) 9) : Bool :=
  decide (((v.toList.filter fun h => !h.damaged && h.row.address ≠ 0).map fun h => h.row.address).Nodup)

/-- R134, R147: a changed address, or a rewrite of a DAMAGED row, forgets what the unit's old address taught. -/
def unitRewritten (u : Fin 9) (old : Held UnitRow) (s : State) : State :=
  if old.damaged ∨ old.row.address ≠ (s.unitRow u).address then
    s.updUnit u (UnitLive.readdress (s.unitRow u).statusTimeout)
  else s

def writeUnit (first : Nat) (raws : List RawUnit) (s : State) : Except Code (Bool × State) :=
  let placed : List (Fin 9 × RawUnit) := placeRows first raws
  let rows := placed.map fun x => (x.1, unitTaken x.2)
  let t := s.memory.tables
  let t' := { t with unit := putRows rows t.unit }
  match firstRefusal [(rows.all (addressFree s), .unitBusy), (unitLaw t'.unit, .duplicate)] with
  | some c => .error c
  | none => .ok (anyClamped rows, rows.foldl (fun s x => unitRewritten x.1 t.unit[x.1] s) (s.putTables t'))

/-! ## Link Table (R155, R156) -/

/-- The row a write gives, its report period clamped (R155). -/
def linkTaken (r : RawLink) : LinkRow where
  station := r.station
  linkType := r.linkType.toNat
  destination := r.destination
  period := clampTo 1 60 r.period
  requesters := r.requesters

/-- The checks of R155, in order. -/
def linkChecks (r : RawLink) : List (Bool × Code) :=
  [(r.station ≠ 0 && !isGroup r.station && within 0x0600 0xFFFF r.linkType && r.requesters.length ≤ 4, .range),
   (decide r.requesters.Nodup, .duplicate)]

/-- R155, R156: the values in force change, and a new report destination makes the report port NONE. -/
def linkRewritten (row : LinkRow) (s : State) : State :=
  let port := if s.link.destination = row.destination then s.ports.reportPort else none
  { s with ports := { s.ports with link := some row, reportPort := port } }

def writeLinkRow (r : RawLink) (s : State) : Except Code (Bool × State) :=
  match firstRefusal (linkChecks r) with
  | some c => .error c
  | none =>
    let t := s.memory.tables
    let row := linkTaken r
    .ok (clamps 1 60 r.period, linkRewritten row (s.putTables { t with link := Held.fresh row }))

def writeLink (raws : List RawLink) (s : State) : Except Code (Bool × State) :=
  match raws with
  | [r] => writeLinkRow r s
  | _ => .error .range

/-! ## A write of any table -/

/-- The number of rows of a request. -/
def rawCount : RawRows → Nat
  | .stream rows => rows.length
  | .input rows => rows.length
  | .step rows => rows.length
  | .harmonic rows => rows.length
  | .resonance rows => rows.length
  | .yard rows => rows.length
  | .unit rows => rows.length
  | .link rows => rows.length

def rawTable : RawRows → TableId
  | .stream _ => .stream
  | .input _ => .input
  | .step _ => .step
  | .harmonic _ => .harmonic
  | .resonance _ => .resonance
  | .yard _ => .yard
  | .unit _ => .unit
  | .link _ => .link

/-- The rows of a table in order. -/
def tableRows : TableId → List RowRef
  | .stream => streamRows
  | .input => allInputs.map .input
  | .step => stepRows
  | .harmonic => harmonicRows
  | .resonance => resonanceRows
  | .yard => [.yard]
  | .unit => unitRows
  | .link => [.link]

/-- The number of a table's first row (10.1). -/
def firstRow : TableId → Nat
  | .harmonic => 2
  | _ => 0

/-- R160: the rows a request addresses, when the count is 1 to 8 and every one of them exists. -/
def addressed (t : TableId) (first count : Nat) : Option (List RowRef) :=
  let rows := tableRows t
  if 1 ≤ count ∧ count ≤ 8 ∧ firstRow t ≤ first ∧ first + count ≤ firstRow t + rows.length then
    some ((rows.drop (first - firstRow t)).take count)
  else none

/-- R162: the owner's checks and effects of a write. -/
def writeTable (first : Nat) (rows : RawRows) (s : State) : Except Code (Bool × State) :=
  match rows with
  | .stream rs => writeStream first rs s
  | .input rs => writeInput first rs s
  | .step rs => writeStep first rs s
  | .harmonic rs => writeHarm (first - 2) rs s
  | .resonance rs => writeRes first rs s
  | .yard rs => writeYard rs s
  | .unit rs => writeUnit first rs s
  | .link rs => writeLink rs s

/-- What a write that is taken leaves. -/
def written (first : Nat) (rows : RawRows) (s : State) : State :=
  match writeTable first rows s with
  | .ok x => x.2
  | .error _ => s

/-- The rows that judging and acting on a write uses: the Stream Table and what the notices of the inputs it drops publish
(R2 to R4, R22); the Stream Table for an input whose damage the write clears (R5); the rows written, with which the new ones
are compared (R57, R91); the row of the next count, unless it is written (R41, R50); those of a grant that an expiring timer
leads to, with the new Yard Table row (R114); the Breaker Unit Table (R134). -/
def writeUses (first : Nat) (rows : RawRows) (s : State) : List RowRef :=
  match rows with
  | .stream _ => streamRows ++ noticeUses (written first rows) s
  | .input raws =>
    if (placeRows (n := 38) first raws).any fun x => s.memory.tables.input[x.1].damaged then streamRows else []
  | .step raws => (placeRows (n := 8) first raws).map fun x => .step x.1
  | .harmonic _ => nextCountUses s
  | .resonance raws => (nextCountUses s).filter fun r => r ∉ (placeRows (n := 9) first raws).map fun x => .resonance x.1
  | .yard raws => raws.flatMap fun r =>
      (expireUses (s.putTables { s.memory.tables with yard := Held.fresh (yardTaken r) })).filter fun x => x ≠ .yard
  | .unit _ => unitRows
  | .link _ => []

end Sys2Proof.Machine
end

