-- ==== Sys2Proof/Machine/Management.lean ====
section
/-! DEFINITION. In-band Management (chapter 10): taking a request and replying to it (R159 to R164), and what each request
does once the agent's checks have passed. -/

namespace Sys2Proof.Machine

/-- What a request is answered with (10.1, 9.5). `restart` marks the reply that a RESTART waits for (R164). -/
structure Answer where
  code : Code
  clamped : Bool
  fromHold : Bool
  data : List Item
  restart : Bool
deriving DecidableEq, Repr

/-- An answer of a code alone. -/
def Answer.plain (c : Code) : Answer where
  code := c
  clamped := false
  fromHold := false
  data := []
  restart := false

/-- OK with reply data. -/
def Answer.okData (d : List Item) : Answer := { Answer.plain .ok with data := d }

/-- NOT_POSITION with the failing condition, a value numbered by the table of R127 (R129, R132, R158). -/
def Answer.condition (c : Condition) : Answer :=
  { Answer.plain .notPosition with data := [.name (conditionNumber c)] }

/-- A request's outcome: the answer and the state its owner leaves. -/
abbrev Served := Answer × State

/-- A refusal changes no state (R160). -/
def refused (c : Code) (s : State) : Served := (Answer.plain c, s)

def accepted (s : State) : Served := (Answer.plain .ok, s)

/-! ## Taking a request (R159, R164) -/

/-- R159: a requester is permitted when the list in force is empty or names it. -/
def permitted (a : Addr) (s : State) : Bool :=
  s.link.requesters.isEmpty || s.link.requesters.contains a

/-- R157, R159: the reply frame, with the station address and link type in force when the request was taken (R155). -/
def replyFrame (q : Requester) (link : LinkRow) (a : Answer) : OriginFrame where
  cls := .reply a.restart
  frame := makeFrame q.address (.reply q.identifier (codeNumber a.code) a.clamped a.fromHold a.data) link

/-- R159: the reply is made, enters the queue of the port the request arrived on, and counts as answered. -/
def reply (q : Requester) (link : LinkRow) (a : Answer) (s : State) : State :=
  enterOrigin (replyFrame q link a) q.port
    { s with agent := { s.agent with answered := (s.agent.answered + 1) % mod32 } }

/-- R159, R164: a request is taken: none while a RESTART waits, whoever asks, and none of these is counted
(notes/assumptions/60.md); none from an address that is not permitted; any other is acted on and given one reply, whose data
stand from before the reply is counted and entered (notes/assumptions/65.md). -/
def serve (q : Requester) (act : State → Served) (s : State) : State :=
  if s.agent.restartWait.isSome then s
  else if !permitted q.address s then
    { s with agent := { s.agent with refusedUnheard := (s.agent.refusedUnheard + 1) % mod32 } }
  else
    let x := act s
    reply q s.link x.1 x.2

/-- R159: the agent uses the Link Table for each request it judges. -/
def requestReads (s : State) : List RowRef := if s.agent.restartWait.isSome then [] else [.link]

/-- A request is taken as one event. -/
def requesting (c : Instr) (q : Requester) (act : State → Served) (s : State) : State :=
  taking c requestReads (serve q act) s

/-! ## Tables (R160 to R163) -/

/-- R163: READ_ROWS. -/
def actReadRows (table : Option TableId) (first count : Nat) (s : State) : Served :=
  match table.bind fun t => addressed t first count with
  | some rows =>
    let s := readRows rows s
    (Answer.okData (rows.flatMap (rowItems s)), s)
  | none => refused .range s

/-- R160, R162: WRITE_ROWS. A write refused by its owner leaves every row and every DAMAGED mark as it was, so what its
judging has read leaves no trace. -/
def actWriteRows (first : Nat) (rows : RawRows) (s : State) : Served :=
  if (addressed (rawTable rows) first (rawCount rows)).isNone then refused .range s
  else if s.keylock then refused .locked s
  else if s.memory.storing then refused .busy s
  else
    match writeTable first rows (readUsed (writeUses first rows) s) with
    | .error c => refused c s
    | .ok x => ({ Answer.plain .ok with clamped := x.1 }, x.2)

/-! ## Results and status (R35 to R37, R163) -/

/-- The inputs a READ_RESULTS names, when there are 1 to 8 and each is one of MI 0 to 37 (R160). -/
def namedInputs (xs : List Nat) : Option (List (Fin 38)) :=
  if 1 ≤ xs.length ∧ xs.length ≤ 8 then
    xs.mapM fun n => if h : n < 38 then some ⟨n, h⟩ else none
  else none

/-- R37: READ_RESULTS is served from the hold copy while the hold is ACTIVE. -/
def actReadResults (inputs : List Nat) (s : State) : Served :=
  match namedInputs inputs with
  | some ms =>
    let held := s.engine.hold.isSome
    let table := if held then s.engine.holdCopy else s.engine.results
    ({ Answer.okData (ms.flatMap fun m => recordItems table[m]) with fromHold := held }, s)
  | none => refused .range s

/-- R163: READ_STATUS. -/
def actReadStatus (sec : Option Section) (s : State) : Served :=
  match sec with
  | some x => (Answer.okData (sectionItems x s), s)
  | none => refused .range s

def actHold (s : State) : Served := accepted (takeHold s)

def actRelease (s : State) : Served := accepted (endHold s)

/-! ## Select-before-operate (R129, R130) -/

/-- A breaker unit or step number of a request. -/
def targetOfNumber (n : Nat) : Option (Fin 9) := if h : n < 9 then some ⟨n, h⟩ else none

def stepOfNumber (n : Nat) : Option (Fin 8) := if h : n < 8 then some ⟨n, h⟩ else none

/-- R129: the select timeout in ms, 30 s while the Yard Table is DAMAGED; the rule names an open, and a close of unit 8
takes the same (notes/assumptions/51.md). -/
def selectTime (s : State) : Nat := (if s.yardDamaged then 30 else s.yard.selectTimeout) * 1000

/-- R129, check 3: the condition that a SELECT fails. While the Yard Table is DAMAGED any close of a step fails
SETTINGS. -/
def selectCheck (t : Fin 9) (k : CmdKind) (s : State) : Option Condition :=
  if s.yardDamaged && (unitStep t).isSome && k = .close then some .settings else manualCheck t k s

/-- R127, R129: the rows of the checks of a SELECT, and the Yard Table for the timeout of one that passes. -/
def selectUses (t : Fin 9) (k : CmdKind) (s : State) : List RowRef :=
  (if (unitStep t).isSome ∧ k = .close then .yard :: if s.yardDamaged then [] else manualUses t k s else []) ++
    if selectCheck t k s = none then [.yard] else []

/-- R129: a SELECT of a named target and action. -/
def selectTarget (q : Requester) (t : Fin 9) (k : CmdKind) (token : Nat) (s : State) : Served :=
  if s.switching.selection.isSome then refused .selectBusy s
  else
    let s := readUsed (selectUses t k) s
    match selectCheck t k s with
    | some c => (Answer.condition c, s)
    | none =>
      accepted (s.updSwitching fun w =>
        { w with selection := some { target := t, action := k, token := token % mod16,
                                     expiry := s.timebase + selectTime s, requester := q.address } })

/-- R129: SELECT. -/
def actSelect (q : Requester) (target : Nat) (action : Option CmdKind) (token : Nat) (s : State) : Served :=
  match targetOfNumber target, action with
  | some t, some k => selectTarget q t k token s
  | _, _ => refused .range s

/-- R123: a full queue loses its AUTO entry to an arriving MANUAL one. -/
def displaceAuto (s : State) : State := startSettle (withdrawAuto .queueFull s)

/-- R123: room is made for an arriving MANUAL entry. -/
def makeRoom (s : State) : State := if queueRoom s then s else displaceAuto s

/-- R130: the entry of a selection is made and the record removed. -/
def operateSelection (x : Selection) (s : State) : State :=
  dropSelection (arrive x.action (.manual x.target) (makeRoom s))

/-- R123, R124, R130: the rows of the grants that follow the entry, and of a held expiry that the removal frees. -/
def operateUses (x : Selection) (s : State) : List RowRef :=
  let s := makeRoom s
  arriveUses x.action (.manual x.target) s ++ dropUses (arrive x.action (.manual x.target) s)

/-- R130: OPERATE. -/
def actOperate (q : Requester) (token : Nat) (s : State) : Served :=
  match s.switching.selection with
  | none => refused .noSelection s
  | some x =>
    if x.requester ≠ q.address ∨ x.token ≠ token % mod16 then refused .token s
    else if !queueRoom s && !hasAuto s then refused .queueFull s
    else (Answer.plain .queued, operateSelection x (readUsed (operateUses x) s))

/-- R130: CANCEL. -/
def actCancel (s : State) : Served :=
  match s.switching.selection with
  | none => refused .noSelection s
  | some _ => accepted (dropSelection (readUsed dropUses s))

/-! ## Steps (R107 to R109) -/

/-- The states a step may be withdrawn from (R107). -/
def withdrawable (x : StepState) : Bool :=
  x = .unresolved ∨ x = .cooling ∨ x = .ready ∨ x = .lockout

/-- R107: WITHDRAW. -/
def actWithdraw (step : Nat) (s : State) : Served :=
  match stepOfNumber step with
  | some i => if withdrawable (s.stepState i) then accepted (moveStep i .withdrawn .withdraw s) else refused .stepBusy s
  | none => refused .range s

/-- R108, R109: whether the step's row is in use and not DAMAGED. -/
def rowUsable (i : Fin 8) (s : State) : Bool := (s.stepRow i).inUse && !s.stepDamaged i

/-- R108: RESTORE of a step, its row read. -/
def restoreStep (i : Fin 8) (s : State) : Served :=
  if !rowUsable i s then refused .range s
  else if s.stepState i = .withdrawn then accepted (moveStep i .unresolved .restore s)
  else refused .stepBusy s

def actRestore (step : Nat) (s : State) : Served :=
  match stepOfNumber step with
  | some i => restoreStep i (readRows [.step i] s)
  | none => refused .range s

/-- R109: RESET_LOCKOUT of a step, its row read. -/
def resetStep (i : Fin 8) (s : State) : Served :=
  let x := s.supervisor.steps[i]
  if !rowUsable i s then refused .range s
  else if x.state ≠ .lockout then refused .stepBusy s
  else if x.unitSupervision = .alive ∧ x.lastPosition = some .opened then accepted (restStep i .lockoutReset s)
  else refused .notPosition s

def actResetLockout (step : Nat) (s : State) : Served :=
  match stepOfNumber step with
  | some i => resetStep i (readRows [.step i] s)
  | none => refused .range s

/-! ## Null capture (R67) -/

/-- R67, checks 2 to 5, for a step whose row has been read. -/
def nullStep (i : Fin 8) (s : State) : Served :=
  if !rowUsable i s || !(s.stepRow i).neutralPresent then refused .range s
  else if s.unbalance.context.isSome then refused .busy s
  else if s.stepState i ≠ .inService then refused .notPosition s
  else if s.engine.results[stepInput i 3].quality ≠ .good then refused .notPosition s
  else
    accepted { s with unbalance := { s.unbalance with
      context := some { step := i, counted := 0, sumR := 0, sumI := 0 } } }

/-- R67: NULL. -/
def actNull (step : Nat) (s : State) : Served :=
  if s.keylock then refused .locked s
  else
    match stepOfNumber step with
    | some i => nullStep i (readRows [.step i] s)
    | none => refused .range s

/-! ## Mode (R132) -/

/-- R132: SET_MODE. AUTO reads the Yard Table. -/
def setMode (m : Mode) (s : State) : Served :=
  match m with
  | .manual => accepted (forceManual s)
  | .auto =>
    let s := readRows [.yard] s
    if s.yardDamaged then (Answer.condition .settings, s)
    else if s.switching.control = .manual then accepted (s.updSwitching fun w => { w with control := .autoWatch })
    else accepted s

def actSetMode (m : Option Mode) (s : State) : Served :=
  match m with
  | some m => setMode m s
  | none => refused .range s

/-! ## Events (R170) -/

/-- The entries from sequence number `n` on. -/
def entriesFrom (n : Nat) (es : List EventEntry) : List EventEntry := es.dropWhile fun e => e.sequence ≠ n

def held (n : Nat) (s : State) : Bool := s.events.entries.any fun e => e.sequence = n

/-- R170: whether a number lies after the newest entry: its distance modulo 2^32 ahead of it is not 0 and lies in the
lower half (notes/assumptions/23.md). -/
def afterNewest (n : Nat) (s : State) : Bool :=
  let d := (n + mod32 - newestSequence s) % mod32
  0 < d && d < 2147483648

/-- R170: READ_EVENTS. -/
def eventsRead (n : Nat) (s : State) : List EventEntry :=
  (if held n s then entriesFrom n s.events.entries
   else if afterNewest n s then []
   else s.events.entries).take Config.readEventsMax

def actReadEvents (n : Nat) (s : State) : Served :=
  let es := eventsRead n s
  (Answer.okData ([.name (setClear s.events.lost), nat (newestSequence s), .count es.length] ++ es.flatMap entryItems), s)

/-- R170: the entries up to and including `n` removed. -/
def acknowledge (n : Nat) (s : State) : State :=
  { s with events := { s.events with
      entries := if held n s then (entriesFrom n s.events.entries).drop 1 else s.events.entries
      lost := false } }

/-- R170: ACK_EVENTS. -/
def actAckEvents (n : Nat) (s : State) : Served :=
  if !held n s && afterNewest n s then refused .range s else accepted (acknowledge n s)

/-! ## Capture (R173) -/

/-- R158: the trigger record. -/
def triggerItems : Option Trigger → List Item
  | some t => [.name (triggerNumber t.kind), .name (nameOr Fin.val t.step), nat t.stamp]
  | none => [.name absentName, .name absentName, nat 0]

/-- R173: the positions from an offset on, up to 32 of each channel. -/
def positionItems (b : CaptureBuffer) (offset : Nat) : List Item :=
  let n := min Config.readCaptureMax (1024 - offset)
  (List.range n).flatMap fun j => allChannels.map fun k => Item.sample (b.position k (offset + j))

/-- R173: READ_CAPTURE. The offset is judged before the state of the buffer (notes/assumptions/67.md). -/
def actReadCapture (buffer : Option (Fin 2)) (offset : Nat) (s : State) : Served :=
  match buffer with
  | some i =>
    let b := s.events.buffers[i]
    if 1023 < offset then refused .range s
    else if b.status = .ready then (Answer.okData (triggerItems b.trigger ++ positionItems b offset), s)
    else refused .notPosition s
  | none => refused .range s

/-- R173: FREE_CAPTURE. -/
def actFreeCapture (buffer : Option (Fin 2)) (s : State) : Served :=
  match buffer with
  | some i => if s.events.buffers[i].status = .ready then accepted (freeCapture i s) else refused .notPosition s
  | none => refused .range s

/-! ## Store and table errors (R165, R167) -/

/-- R167, step 1: the mark is made INVALID. The rows are copied in turn after the STORE is taken
(Store.lean, `storeWorks`; notes/assumptions/26.md). -/
def beginStore (s : State) : State :=
  s.updMemory fun m => { m with storing := true, copied := 0, imageValid := false }

/-- R160, R167: STORE. -/
def actStore (s : State) : Served :=
  if s.keylock then refused .locked s
  else if s.memory.storing then refused .busy s
  else accepted (beginStore s)

/-- R165: CLEAR_TABLE_ERROR. -/
def actClearTableError (s : State) : Served :=
  accepted (s.updMemory fun m => { m with firstError := none })

/-! ## RESTART (R164) -/

/-- R164: RESTART is answered OK, and its reset waits for the reply. -/
def actRestart (s : State) : Served :=
  ({ Answer.plain .ok with restart := true }, { s with agent := { s.agent with restartWait := some 0 } })

end Sys2Proof.Machine
end

