-- ==== Sys2Proof/Machine/Operands.lean ====
section
/-! DEFINITION. Frames received (R149, R156): the stages a port judges a frame in, and the reading of sample frames, status
frames and requests (9.5, R158). -/

namespace Sys2Proof.Machine

/-! ## Reading fields -/

/-- A number from bytes, the most significant first (R157). -/
def fromBytes (bs : List Byte) : Nat := bs.foldl (fun n b => n * 256 + b.toNat) 0

/-- The `k`-byte field at offset `o`. -/
def field (bs : List Byte) (o k : Nat) : Nat := fromBytes ((bs.drop o).take k)

/-- A number of `k` bytes read in two's complement. -/
def signedOf (k n : Nat) : Int := if 2 * n < 256 ^ k then n else (n : Int) - 256 ^ k

/-- A reader of items takes what it reads from the front of the bytes. -/
abbrev Reader (α : Type) := List Byte → Option (α × List Byte)

def readNat (k : Nat) : Reader Nat := fun bs =>
  if k ≤ bs.length then some (fromBytes (bs.take k), bs.drop k) else none

/-- An unsigned number of an item (R158). -/
def readNum : Reader Int := fun bs => (readNat 4 bs).map fun x => ((x.1 : Int), x.2)

/-- A number that can be negative (R158). -/
def readSigned : Reader Int := fun bs => (readNat 4 bs).map fun x => (signedOf 4 x.1, x.2)

def readAddr : Reader Addr := fun bs => (readNat 6 bs).map fun x => (BitVec.ofNat 48 x.1, x.2)

/-- A number that can be absent: one byte, then the number (R158). A byte other than 0 says present
(notes/assumptions/54.md). -/
def readOpt : Reader (Option Int) := fun bs => do
  let (present, bs) ← readNat 1 bs
  let (n, bs) ← readNum bs
  pure (if present = 0 then none else some n, bs)

/-- `n` items of one sort. -/
def readMany {α : Type} (r : Reader α) : Nat → Reader (List α)
  | 0 => fun bs => some ([], bs)
  | n + 1 => fun bs => do
    let (x, bs) ← r bs
    let (xs, bs) ← readMany r n bs
    pure (x :: xs, bs)

/-- A list: its number of items in one byte, then the items (R158). -/
def readList {α : Type} (r : Reader α) : Reader (List α) := fun bs => do
  let (n, bs) ← readNat 1 bs
  readMany r n bs

/-! ## Rows of a WRITE_ROWS request (R158) -/

/-- The twelve positions of a channel map, read without a count (notes/assumptions/54.md). -/
def mapOf (xs : List (Option Int)) : Vector (Option Int) 12 :=
  Vector.ofFn fun j : Fin 12 => (xs[j.val]?).getD none

def readStream : Reader RawStream := fun bs => do
  let (inUse, bs) ← readNat 1 bs
  let (address, bs) ← readAddr bs
  let (streamNumber, bs) ← readNum bs
  let (channelCount, bs) ← readNum bs
  let (map, bs) ← readMany readOpt 12 bs
  let (lossTimeout, bs) ← readNum bs
  let (acceptSimulated, bs) ← readNat 1 bs
  pure ({ inUse, address, streamNumber, channelCount, map := mapOf map, lossTimeout, acceptSimulated }, bs)

def readInput : Reader RawInput := fun bs => do
  let (nominal, bs) ← readNum bs
  let (kind, bs) ← readNat 1 bs
  pure ({ nominal, kind }, bs)

/-- A Step Table row; K alone is read as signed, every level and delay as unsigned (notes/assumptions/64.md). -/
def readStep : Reader RawStep := fun bs => do
  let (inUse, bs) ← readNat 1 bs
  let (neutralPresent, bs) ← readNat 1 bs
  let (alarmLevel, bs) ← readNum bs
  let (tripLevel, bs) ← readNum bs
  let (alarmDelay, bs) ← readNum bs
  let (tripDelay, bs) ← readNum bs
  let (compMode, bs) ← readNat 1 bs
  let (kr, bs) ← readSigned bs
  let (ki, bs) ← readSigned bs
  let (rated, bs) ← readNum bs
  let (thermalCode, bs) ← readNum bs
  let (heatAlarm, bs) ← readNum bs
  let (heatTrip, bs) ← readNum bs
  let (heatReclose, bs) ← readNum bs
  let (dischargeTime, bs) ← readNum bs
  let (opsLimit, bs) ← readNum bs
  let (opsBase, bs) ← readNum bs
  let (decayPeriod, bs) ← readNum bs
  pure ({ inUse, neutralPresent, alarmLevel, tripLevel, alarmDelay, tripDelay, compMode, kr, ki, rated, thermalCode,
          heatAlarm, heatTrip, heatReclose, dischargeTime, opsLimit, opsBase, decayPeriod }, bs)

def readHarm : Reader RawHarm := fun bs => do
  let (supervise, bs) ← readNat 1 bs
  let (alarmLevel, bs) ← readNum bs
  let (blockLevel, bs) ← readNum bs
  let (pickup, bs) ← readNum bs
  let (dropout, bs) ← readNum bs
  pure ({ supervise, alarmLevel, blockLevel, pickup, dropout }, bs)

def readRes : Reader RawRes := fun bs => do
  let (orders, bs) ← readList readNum bs
  pure ({ orders }, bs)

def readYard : Reader RawYard := fun bs => do
  let (frequency, bs) ← readNum bs
  let (uLo, bs) ← readNum bs
  let (uHi, bs) ← readNum bs
  let (stepRise, bs) ← readNum bs
  let (highDelay, bs) ← readNum bs
  let (lowDelay, bs) ← readNum bs
  let (settleTime, bs) ← readNum bs
  let (deadLevel, bs) ← readNum bs
  let (deadDelay, bs) ← readNum bs
  let (restoreHold, bs) ← readNum bs
  let (maxSteps, bs) ← readNum bs
  let (startMode, bs) ← readNat 1 bs
  let (selectTimeout, bs) ← readNum bs
  pure ({ frequency, uLo, uHi, stepRise, highDelay, lowDelay, settleTime, deadLevel, deadDelay, restoreHold, maxSteps,
          startMode, selectTimeout }, bs)

def readUnit : Reader RawUnit := fun bs => do
  let (address, bs) ← readAddr bs
  let (retry, bs) ← readNum bs
  let (attempts, bs) ← readNum bs
  let (operateTime, bs) ← readNum bs
  let (statusTimeout, bs) ← readNum bs
  pure ({ address, retry, attempts, operateTime, statusTimeout }, bs)

def readLink : Reader RawLink := fun bs => do
  let (station, bs) ← readAddr bs
  let (linkType, bs) ← readNum bs
  let (destination, bs) ← readAddr bs
  let (period, bs) ← readNum bs
  let (requesters, bs) ← readList readAddr bs
  pure ({ station, linkType, destination, period, requesters }, bs)

/-- The rows of a request, by the table it names. -/
def readRawRows (t : TableId) (n : Nat) : Reader RawRows := fun bs =>
  match t with
  | .stream => (readMany readStream n bs).map fun x => (.stream x.1, x.2)
  | .input => (readMany readInput n bs).map fun x => (.input x.1, x.2)
  | .step => (readMany readStep n bs).map fun x => (.step x.1, x.2)
  | .harmonic => (readMany readHarm n bs).map fun x => (.harmonic x.1, x.2)
  | .resonance => (readMany readRes n bs).map fun x => (.resonance x.1, x.2)
  | .yard => (readMany readYard n bs).map fun x => (.yard x.1, x.2)
  | .unit => (readMany readUnit n bs).map fun x => (.unit x.1, x.2)
  | .link => (readMany readLink n bs).map fun x => (.link x.1, x.2)

/-! ## Requests (10.1) -/

def tableOf (n : Nat) : Option TableId :=
  [TableId.stream, .input, .step, .harmonic, .resonance, .yard, .unit, .link][n - 1]?.filter fun _ => 1 ≤ n

def sectionOf (n : Nat) : Option Section :=
  [Section.yard, .steps, .units, .control, .ports][n - 1]?.filter fun _ => 1 ≤ n

/-- MANUAL 1, AUTO 2, as 10.1 lists them for SET_MODE. -/
def modeOf (n : Nat) : Option Mode := if n = 1 then some .manual else if n = 2 then some .auto else none

/-- 9.5: 1 OPEN, 2 CLOSE. -/
def actionOf (n : Nat) : Option CmdKind := if n = 1 then some .opn else if n = 2 then some .close else none

def bufferOf (n : Nat) : Option (Fin 2) := if h : n < 2 then some ⟨n, h⟩ else none

/-- All the bytes of an argument list must have been read (R160, check 2). -/
def finish {α : Type} (x : Option (α × List Byte)) : Option α :=
  match x with
  | some (a, []) => some a
  | _ => none

/-- The arguments of a WRITE_ROWS request; a table that does not exist, or a count above 8, is refused before its rows are
read. -/
def readWrite (q : Requester) (args : List Byte) : Option Instr := do
  let (t, bs) ← readNat 1 args
  let (first, bs) ← readNat 4 bs
  let (count, bs) ← readNat 4 bs
  let table ← tableOf t
  if 8 < count then none
  else
    let rows ← finish (readRawRows table count bs)
    pure (.writeRows q first rows)

def readReadRows (q : Requester) (args : List Byte) : Option Instr := do
  let (t, bs) ← readNat 1 args
  let (first, bs) ← readNat 4 bs
  let count ← finish (readNat 4 bs)
  pure (.readRows q (tableOf t) first count)

def readSelect (q : Requester) (args : List Byte) : Option Instr := do
  let (target, bs) ← readNat 4 args
  let (action, bs) ← readNat 1 bs
  let token ← finish (readNat 4 bs)
  pure (.select q target (actionOf action) token)

def readReadCapture (q : Requester) (args : List Byte) : Option Instr := do
  let (b, bs) ← readNat 4 args
  let offset ← finish (readNat 4 bs)
  pure (.readCapture q (bufferOf b) offset)

/-- A request without arguments. -/
def noArguments (i : Instr) (args : List Byte) : Option Instr := if args = [] then some i else none

/-- A request with one argument of `k` bytes. -/
def oneArgument (k : Nat) (f : Nat → Instr) (args : List Byte) : Option Instr := (finish (readNat k args)).map f

/-- 10.1: the request of a name code and its arguments; none when the argument length is not what the request needs. -/
def readRequest (q : Requester) (code : Nat) (args : List Byte) : Option Instr :=
  match code with
  | 1 => readReadRows q args
  | 2 => readWrite q args
  | 3 => (finish (readList (readNat 4) args)).map (.readResults q)
  | 4 => oneArgument 1 (fun n => .readStatus q (sectionOf n)) args
  | 5 => noArguments (.hold q) args
  | 6 => noArguments (.release q) args
  | 7 => readSelect q args
  | 8 => oneArgument 4 (.operate q) args
  | 9 => noArguments (.cancel q) args
  | 10 => oneArgument 4 (.withdraw q) args
  | 11 => oneArgument 4 (.restore q) args
  | 12 => oneArgument 4 (.resetLockout q) args
  | 13 => oneArgument 4 (.null q) args
  | 14 => oneArgument 1 (fun n => .setMode q (modeOf n)) args
  | 15 => oneArgument 4 (.readEvents q) args
  | 16 => oneArgument 4 (.ackEvents q) args
  | 17 => readReadCapture q args
  | 18 => oneArgument 4 (fun n => .freeCapture q (bufferOf n)) args
  | 19 => noArguments (.store q) args
  | 20 => noArguments (.restart q) args
  | 21 => noArguments (.clearTableError q) args
  | _ => none

/-- R160, checks 1 and 2: a request that can be read is handed to the agent; an unknown code, or arguments of the wrong
length, are answered at once (notes/assumptions/31.md). -/
def handRequest (q : Requester) (code : Nat) (args : List Byte) (s : State) : State :=
  match readRequest q code args with
  | some i => hand i s
  | none => serve q (refused (if 1 ≤ code ∧ code ≤ 21 then .range else .unknownRequest)) s

/-! ## The stages of R149 -/

/-- The frame without its 4-byte check sequence. -/
def content (bytes : List Byte) : List Byte := bytes.take (bytes.length - 4)

def frameDestination (bs : List Byte) : Addr := BitVec.ofNat 48 (field bs 0 6)
def frameSource (bs : List Byte) : Addr := BitVec.ofNat 48 (field bs 6 6)
def frameLinkType (bs : List Byte) : Nat := field bs 12 2
def frameKind (bs : List Byte) : Nat := field bs 14 1
def frameVersion (bs : List Byte) : Nat := field bs 15 1

/-- R149, stage 1. -/
def stageOne (bytes : List Byte) (checkOk : Bool) : Bool :=
  64 ≤ bytes.length && bytes.length ≤ 1518 && checkOk

/-- 9.5: the length that holds the fixed part of a kind. -/
def fixedPart (kind : Nat) : Nat :=
  match kind with
  | 1 => 22
  | 2 => 20
  | 3 => 25
  | 4 => 22
  | 5 => 22
  | 6 => 23
  | _ => 16

/-- 9.5: the channel count of a sample frame. -/
def channelCountOf (bs : List Byte) : Nat := field bs 21 1

/-- R149, stage 3. -/
def stageThree (bs : List Byte) : Bool :=
  let kind := frameKind bs
  1 ≤ kind && kind ≤ 6 && frameVersion bs = 1 && fixedPart kind ≤ bs.length &&
    (kind ≠ 1 || (1 ≤ channelCountOf bs && channelCountOf bs ≤ 12 && 22 + 4 * channelCountOf bs ≤ bs.length))

/-- 9.5: channel j of a sample frame. -/
def channelAt (bs : List Byte) (j : Nat) : Channel where
  value := signedOf 3 (field bs (22 + 4 * j) 3)
  quality := BitVec.ofNat 2 (field bs (25 + 4 * j) 1)

/-- 9.5: a sample frame. -/
def sampleOf (p : Port) (bs : List Byte) : SampleFrame where
  port := p
  sender := frameSource bs
  streamNumber := field bs 16 2
  counter := field bs 18 2
  simulated := field bs 20 1 % 2 = 1
  channels := (List.range (channelCountOf bs)).map (channelAt bs)

/-- 9.5: a status frame. -/
def statusOf (p : Port) (bs : List Byte) : StatusFrame where
  port := p
  sender := frameSource bs
  position := BitVec.ofNat 8 (field bs 16 1)
  ready := field bs 17 1 ≠ 0
  echoSeq := BitVec.ofNat 8 (field bs 18 1)
  echoKind := BitVec.ofNat 8 (field bs 19 1)

/-- 9.5: a request's arguments, as many as its argument length says; none when the frame does not hold them. -/
def argumentsOf (bs : List Byte) : Option (List Byte) :=
  let n := field bs 20 2
  if 22 + n ≤ bs.length then some ((bs.drop 22).take n) else none

/-- R149, stage 4: a request addressed to the part is consumed. -/
def consumed (bs : List Byte) (link : LinkRow) : Bool :=
  frameKind bs = 4 && frameDestination bs = link.station

/-- R149: a consumed request is handed to the agent with the receiving port. -/
def consume (p : Port) (bs : List Byte) (s : State) : State :=
  let q : Requester := { port := p, address := frameSource bs, identifier := field bs 16 2 }
  match argumentsOf bs with
  | some args => handRequest q (field bs 18 2) args s
  | none => serve q (refused (if 1 ≤ field bs 18 2 ∧ field bs 18 2 ≤ 21 then .range else .unknownRequest)) s

/-- R149: a sample frame is handed to acceptance, a status frame to the command engine. -/
def handOn (p : Port) (bs : List Byte) (s : State) : State :=
  if frameKind bs = 1 then hand (.sampleFrame (sampleOf p bs)) s
  else if frameKind bs = 2 then hand (.statusFrame (statusOf p bs)) s
  else s

/-- R150: a frame is forwarded out of the port opposite `p`. -/
def forward (p : Port) (bytes : List Byte) (s : State) : State :=
  let o := otherPort p
  s.setPort o ((s.port o).joinForward bytes)

/-- R156: a frame from the report destination that passes stage 2 sets the report port. -/
def learnReportPort (p : Port) (source : Addr) (link : LinkRow) (s : State) : State :=
  if link.destination ≠ 0 ∧ !isGroup link.destination ∧ source = link.destination then
    { s with ports := { s.ports with reportPort := some p } }
  else s

def countUnknown (p : Port) (s : State) : State :=
  let x := s.port p
  s.setPort p { x with counts := { x.counts with unknown := (x.counts.unknown + 1) % mod32 } }

/-- R149, stages 2 to 4, with the Link Table values in force. -/
def judgeFrame (p : Port) (bytes : List Byte) (link : LinkRow) (s : State) : State :=
  let bs := content bytes
  if frameLinkType bs ≠ link.linkType then forward p bytes s
  else
    let s := learnReportPort p (frameSource bs) link s
    if !stageThree bs then forward p bytes (countUnknown p s)
    else if consumed bs link then consume p bs s
    else forward p bytes (handOn p bs s)

/-- R149, R154: a port takes a frame. Between a reset and the loading of the Link Table a frame that passes stage 1 is
forwarded only. -/
def receiveFrame (p : Port) (bytes : List Byte) (checkOk : Bool) (s : State) : State :=
  let x := s.port p
  if stageOne bytes checkOk then
    let s := s.setPort p { x with counts := { x.counts with received := (x.counts.received + 1) % mod32 } }
    match s.ports.link with
    | some link => judgeFrame p bytes link s
    | none => forward p bytes s
  else s.setPort p { x with counts := { x.counts with malformed := (x.counts.malformed + 1) % mod32 } }

end Sys2Proof.Machine
end

