-- ==== Sys2Proof/Machine/LinkCommands.lean ====
section
/-! DEFINITION. The meanings of the commands of the link ports (R149, R150, R153). -/

namespace Sys2Proof.Machine

/-- R150: the link of a port that is UP goes DOWN, with its event. -/
def portGoesDown (p : Port) (s : State) : State :=
  if (s.port p).linkUp then logEvent .portDown .none (some (portNumber p)) (s.setPort p (s.port p).goDown) else s

/-- R150: the link of a port that is DOWN comes UP, with its event. -/
def portComesUp (p : Port) (s : State) : State :=
  if (s.port p).linkUp then s else logEvent .portUp .none (some (portNumber p)) (s.setPort p (s.port p).goUp)

/-- PORT_DOWN (R150); between a reset and start-up the port follows its line without an event
(notes/assumptions/29.md). -/
def execPortDown (p : Port) (s : State) : Host.Outcome State Fault Refusal :=
  match s.phase with
  | .running => .next (taking (.portDown p) noRows (portGoesDown p) s)
  | .inReset _ => .next (s.setPort p (s.port p).goDown)

/-- PORT_UP (R150). -/
def execPortUp (p : Port) (s : State) : Host.Outcome State Fault Refusal :=
  match s.phase with
  | .running => .next (taking (.portUp p) noRows (portComesUp p) s)
  | .inReset _ => .next (s.setPort p (s.port p).goUp)

/-- R149: a frame that passes stage 1 is judged by the Link Table. -/
def frameUses (bytes : List Byte) (checkOk : Bool) (_ : State) : List RowRef :=
  if stageOne bytes checkOk then [.link] else []

/-- FRAME_RECEIVED (R149): between a reset and start-up a frame is forwarded only. -/
def execFrameReceived (p : Port) (bytes : List Byte) (checkOk : Bool) (s : State) : Host.Outcome State Fault Refusal :=
  match s.phase with
  | .running =>
    .next (taking (.frameReceived p bytes checkOk) (frameUses bytes checkOk) (receiveFrame p bytes checkOk) s)
  | .inReset _ => .next (receiveFrame p bytes checkOk s)

/-- R164: the reset of a RESTART is due when the transmission of its reply ends. -/
def replySent (tx : Option TxFrame) (s : State) : State :=
  match tx with
  | some (.origin f) => restartDue (some f) s
  | _ => s

/-- R153, R154: the transmission in progress on a port ends. -/
def transmissionEnds (p : Port) (s : State) : State :=
  match (s.port p).tx with
  | some _ => replySent (s.port p).tx (s.setPort p (s.port p).endTransmission)
  | none => s

/-- TRANSMISSION_END (R153). -/
def execTransmissionEnd (p : Port) (s : State) : Host.Outcome State Fault Refusal :=
  match s.phase with
  | .running => .next (taking (.transmissionEnd p) noRows (transmissionEnds p) s)
  | .inReset _ => .next (transmissionEnds p s)

end Sys2Proof.Machine
end

