-- ==== Sys2Proof/Machine/RequestCommands.lean ====
section
/-! DEFINITION. The meanings of the twenty-one requests (chapter 10); each takes the requester as its first operand. -/

namespace Sys2Proof.Machine

/-- READ_ROWS (R163). -/
def execReadRows (q : Requester) (table : Option TableId) (first : Nat) (count : Nat) (s : State) :
    Host.Outcome State Fault Refusal :=
  .next (requesting (.readRows q table first count) q (actReadRows table first count) s)

/-- WRITE_ROWS (R162). -/
def execWriteRows (q : Requester) (first : Nat) (rows : RawRows) (s : State) : Host.Outcome State Fault Refusal :=
  .next (requesting (.writeRows q first rows) q (actWriteRows first rows) s)

/-- READ_RESULTS (R37). -/
def execReadResults (q : Requester) (inputs : List Nat) (s : State) : Host.Outcome State Fault Refusal :=
  .next (requesting (.readResults q inputs) q (actReadResults inputs) s)

/-- READ_STATUS (R163). -/
def execReadStatus (q : Requester) (sec : Option Section) (s : State) : Host.Outcome State Fault Refusal :=
  .next (requesting (.readStatus q sec) q (actReadStatus sec) s)

/-- HOLD (R35). -/
def execHold (q : Requester) (s : State) : Host.Outcome State Fault Refusal :=
  .next (requesting (.hold q) q actHold s)

/-- RELEASE (R36). -/
def execRelease (q : Requester) (s : State) : Host.Outcome State Fault Refusal :=
  .next (requesting (.release q) q actRelease s)

/-- SELECT (R129). -/
def execSelect (q : Requester) (target : Nat) (action : Option CmdKind) (token : Nat) (s : State) :
    Host.Outcome State Fault Refusal :=
  .next (requesting (.select q target action token) q (actSelect q target action token) s)

/-- OPERATE (R130). -/
def execOperate (q : Requester) (token : Nat) (s : State) : Host.Outcome State Fault Refusal :=
  .next (requesting (.operate q token) q (actOperate q token) s)

/-- CANCEL (R130). -/
def execCancel (q : Requester) (s : State) : Host.Outcome State Fault Refusal :=
  .next (requesting (.cancel q) q actCancel s)

/-- WITHDRAW (R107). -/
def execWithdraw (q : Requester) (step : Nat) (s : State) : Host.Outcome State Fault Refusal :=
  .next (requesting (.withdraw q step) q (actWithdraw step) s)

/-- RESTORE (R108). -/
def execRestore (q : Requester) (step : Nat) (s : State) : Host.Outcome State Fault Refusal :=
  .next (requesting (.restore q step) q (actRestore step) s)

/-- RESET_LOCKOUT (R109). -/
def execResetLockout (q : Requester) (step : Nat) (s : State) : Host.Outcome State Fault Refusal :=
  .next (requesting (.resetLockout q step) q (actResetLockout step) s)

/-- NULL (R67). -/
def execNull (q : Requester) (step : Nat) (s : State) : Host.Outcome State Fault Refusal :=
  .next (requesting (.null q step) q (actNull step) s)

/-- SET_MODE (R132). -/
def execSetMode (q : Requester) (mode : Option Mode) (s : State) : Host.Outcome State Fault Refusal :=
  .next (requesting (.setMode q mode) q (actSetMode mode) s)

/-- READ_EVENTS (R170). -/
def execReadEvents (q : Requester) (first : Nat) (s : State) : Host.Outcome State Fault Refusal :=
  .next (requesting (.readEvents q first) q (actReadEvents first) s)

/-- ACK_EVENTS (R170). -/
def execAckEvents (q : Requester) (n : Nat) (s : State) : Host.Outcome State Fault Refusal :=
  .next (requesting (.ackEvents q n) q (actAckEvents n) s)

/-- READ_CAPTURE (R173). -/
def execReadCapture (q : Requester) (buffer : Option (Fin 2)) (offset : Nat) (s : State) :
    Host.Outcome State Fault Refusal :=
  .next (requesting (.readCapture q buffer offset) q (actReadCapture buffer offset) s)

/-- FREE_CAPTURE (R173). -/
def execFreeCapture (q : Requester) (buffer : Option (Fin 2)) (s : State) : Host.Outcome State Fault Refusal :=
  .next (requesting (.freeCapture q buffer) q (actFreeCapture buffer) s)

/-- STORE (R167). -/
def execStore (q : Requester) (s : State) : Host.Outcome State Fault Refusal :=
  .next (requesting (.store q) q actStore s)

/-- RESTART (R164). -/
def execRestart (q : Requester) (s : State) : Host.Outcome State Fault Refusal :=
  .next (requesting (.restart q) q actRestart s)

/-- CLEAR_TABLE_ERROR (R165). -/
def execClearTableError (q : Requester) (s : State) : Host.Outcome State Fault Refusal :=
  .next (requesting (.clearTableError q) q actClearTableError s)

end Sys2Proof.Machine
end

