-- ==== Sys2Proof/Machine/Store.lean ====
section
/-! DEFINITION. The store's completion, the scrubber, the two resets and start-up (chapter 11). -/

namespace Sys2Proof.Machine

/-! ## The work of the store (R167) -/

/-- R167: row `r` of `src` copied into `dst`, with its DAMAGED mark. -/
def Tables.copyRow (src dst : Tables) (r : RowRef) : Tables :=
  match r with
  | .stream i => { dst with stream := dst.stream.set i src.stream[i] }
  | .input i => { dst with input := dst.input.set i src.input[i] }
  | .step i => { dst with step := dst.step.set i src.step[i] }
  | .harmonic i => { dst with harmonic := dst.harmonic.set i src.harmonic[i] }
  | .resonance i => { dst with resonance := dst.resonance.set i src.resonance[i] }
  | .yard => { dst with yard := src.yard }
  | .unit i => { dst with unit := dst.unit.set i src.unit[i] }
  | .link => { dst with link := src.link }

/-- R167, step 2: row `r` is read as R165 gives, and copied as that read leaves it. Of an empty image, the rows not yet
copied stand at their Defaults, which nothing reads (notes/assumptions/42.md). -/
def copyToImage (s : State) (r : RowRef) : State :=
  (readRow s r).updMemory fun m =>
    { m with copied := m.copied + 1, image := some (m.tables.copyRow (m.image.getD Tables.defaults) r) }

/-- R167, step 2: the store copies its next `n` rows, or those that are left, in the order of R166. -/
def copyRows (n : Nat) (s : State) : State := ((allRows.drop s.memory.copied).take n).foldl copyToImage s

/-- R167, step 3: the store ends, its copy verified or not. That the event's subject is none and its value absent is the
model's choice (notes/assumptions/68.md). -/
def endStore (verified : Bool) (s : State) : State :=
  let s := s.updMemory fun m =>
    { m with storing := false, copied := 0, imageValid := verified, storeInvalid := !verified }
  logEvent (if verified then .storeDone else .storeFailed) .none none s

/-- R167: the work of a STORE in progress: the next `rows` rows are copied, and with the last row copied and the copy
verified the store ends. How far it comes between two other commands is the sender's (notes/assumptions/26.md). -/
def storeWorks (rows : Nat) (verified : Option Bool) (s : State) : State :=
  if s.memory.storing then
    let s := copyRows rows s
    match verified with
    | some v => if allRows.length ≤ s.memory.copied then endStore v s else s
    | none => s
  else s

/-! ## The scrubber (R166) -/

/-- R166: a pass reads every row; flips strike before it and after it (notes/assumptions/10.md). -/
def scrub (before after : List Strike) (s : State) : State :=
  let s := s.updMemory fun m => { m with scrubLeft := Config.scrubInterval }
  strikeRows after (readRows allRows (strikeRows before s))

/-! ## Resets (R168) -/

/-- R154: a port after a reset; the line stands as it did. -/
def PortState.atReset (p : PortState) : PortState := { PortState.reset with linkUp := p.linkUp }

/-- The event list and capture after a reset (chapter 12). -/
def EventState.atReset (k : ResetKind) (e : EventState) : EventState :=
  match k with
  | .cold => EventState.reset
  | .restart =>
    { EventState.reset with
      entries := e.entries, next := e.next, lost := e.lost, buffers := e.buffers.map CaptureBuffer.restart }

/-- The table memory and the store after a reset: a STORE in flight has left the image INVALID (R167). -/
def MemoryState.atReset (k : ResetKind) (m : MemoryState) : MemoryState where
  tables := m.tables
  corrected := 0
  damaged := 0
  firstError := match k with
    | .cold => none
    | .restart => m.firstError
  storing := false
  copied := 0
  imageValid := m.imageValid && !m.storing
  image := m.image
  storeInvalid := false
  scrubLeft := Config.scrubInterval

/-- R168: a reset clears every live field of every block, ends a STORE in flight, and sends no command. -/
def resetPart (k : ResetKind) (s : State) : State :=
  { State.reset with
    pending := s.pending
    phase := .inReset k
    timebase := s.timebase
    keylock := s.keylock
    ports :=
      { lineA := s.ports.lineA.atReset, lineB := s.ports.lineB.atReset, reportPort := none, link := none }
    memory := s.memory.atReset k
    events := s.events.atReset k }

/-! ## Start-up (R168) -/

/-- R168: a row loaded from the image is judged: one stored DAMAGED, or that fails its check bits, is DAMAGED with its
event (notes/assumptions/27.md). -/
def loadRow (s : State) (r : RowRef) : State :=
  if s.memory.tables.damagedAt r then markDamaged r s
  else
    match s.memory.tables.upsetAt r with
    | .clean => s
    | .single => correctRow r s
    | .double => markDamaged r s

/-- R168: the tables are loaded from a VALID image, or every row takes its Default with the STORE_INVALID alarm. The spec
does not say whether a flip that the load finds stays in the image: the model's choice is that `strikes` strike the loaded
rows alone, so the image stays as it was stored (notes/assumptions/69.md). The subject none and the absent value of
STORE_INVALID are the model's too (notes/assumptions/68.md). -/
def loadTables (strikes : List Strike) (s : State) : State :=
  match s.memory.imageValid, s.memory.image with
  | true, some t =>
    allRows.foldl loadRow (strikeRows strikes (s.updMemory fun m => { m with tables := t, storeInvalid := false }))
  | _, _ =>
    logEvent .storeInvalid .none none (s.updMemory fun m => { m with tables := Tables.defaults, storeInvalid := true })

/-- R168: the value of the START_UP event. -/
def resetNumber : ResetKind → Nat
  | .cold => 1
  | .restart => 2

/-- R111: a step in use and not DAMAGED is UNRESOLVED, any other WITHDRAWN. -/
def startStep (s : State) (i : Fin 8) : State :=
  if rowUsable i s then s.updStep i fun x => { x with state := .unresolved, resolutionDue := true } else s

/-- R42, R55: the elements of a supervised row that is not DAMAGED. -/
def startElements (s : State) (i : Fin 15) : State :=
  let h := s.memory.tables.harmonic[i]
  if h.row.supervise && !h.damaged then createElements i s else s

/-- R133, R168: switching control at start-up. -/
def startSwitching (s : State) : State :=
  if s.yardDamaged then s
  else
    s.updSwitching fun w =>
      { w with
        restore := some 0
        control := match s.yard.startMode with
          | .manual => .manual
          | .auto => .autoWatch }

/-- R33, R38: the age clock at start-up. -/
def startAgeClock (s : State) : State :=
  let f := if s.yardDamaged then 50 else s.yard.frequency
  { s with engine := { s.engine with
      ageFrequency := f, ageLeft := ageInterval f 0, agePhase := if f = 60 then nextPhase 0 else 0 } }

/-- R148: a supervision timer started from 0; a unit whose row is loaded DAMAGED is treated as R147 gives
(notes/assumptions/17.md). -/
def startUnit (s : State) (u : Fin 9) : State :=
  if s.unitDamaged u then unitFoundDamaged u s
  else s.updUnit u fun x => { x with timer := some { elapsed := 0, limit := (s.unitRow u).statusTimeout } }

/-- R155: the Link Table values in force after start-up. -/
def startLink (s : State) : State :=
  let h := s.memory.tables.link
  { s with ports := { s.ports with link := some (if h.damaged then defaultLink else h.row) } }

/-- R168: the blocks take their start-up states. -/
def startBlocks (s : State) : State :=
  let s := { startLink s with phase := .running }
  let s := fillStates s
  let s := allSteps.foldl startStep s
  let s := allLimits.foldl startElements s
  let s := setNextCount s
  let s := startAgeClock (startSwitching s)
  armAtStartUp (allUnits.foldl startUnit s)

/-- R168: start-up after a reset of kind `k`. The subject none of START_UP is the model's choice
(notes/assumptions/68.md). -/
def startUp (k : ResetKind) (strikes : List Strike) (s : State) : State :=
  startBlocks (logEvent .startUp .none (some (resetNumber k)) (loadTables strikes s))

end Sys2Proof.Machine
end

