-- ==== Sys2Proof/Machine/ResetCommands.lean ====
section
/-! DEFINITION. The meanings of the commands of resets, start-up and the settings-lock input (R161, R164, R168). -/

namespace Sys2Proof.Machine

/-- COLD_RESET (R168): a COLD reset supersedes a RESTART that waits. -/
def execColdReset (s : State) : Host.Outcome State Fault Refusal :=
  .next (resetPart .cold s)

/-- START_UP (R168): start-up follows a reset; a part that is running is not started again. -/
def execStartUp (strikes : List Strike) (s : State) : Host.Outcome State Fault Refusal :=
  match s.phase with
  | .inReset k => .next (startUp k strikes s)
  | .running => .next s

/-- RESTART_RESET (R164, R168): the reset that a RESTART waits for (notes/assumptions/32.md). -/
def execRestartReset (s : State) : Host.Outcome State Fault Refusal :=
  let s := s.dropMail .restartReset
  match s.phase, s.agent.restartWait with
  | .running, some _ => .next (resetPart .restart s)
  | _, _ => .next s

/-- KEYLOCK_CHANGE (R161): the level of the input; its change is a change of the yard summary. -/
def execKeylockChange (asserted : Bool) (s : State) : Host.Outcome State Fault Refusal :=
  match s.phase with
  | .running => .next (taking (.keylockChange asserted) noRows (fun s => { s with keylock := asserted }) s)
  | .inReset _ => .next { s with keylock := asserted }

end Sys2Proof.Machine
end

