-- ==== Sys2Proof/Machine/StepCommands.lean ====
section
/-! DEFINITION. The meanings of the commands of the step supervisor and of the blocks its reports go to (chapter 06, R50, R51,
R65, R122). -/

namespace Sys2Proof.Machine

/-- R65: unbalance protection takes a step state report: an entry into IN or a departure from it. -/
def takeUnbalanceReport (r : StepReport) (s : State) : State :=
  if r.old = .inService ∧ r.new ≠ .inService then unbalanceLeave r.step s
  else if r.old ≠ .inService ∧ r.new = .inService then unbalanceEnter r.step s
  else s

/-- POSITION_REPORT (R94 to R98). -/
def execPositionReport (step : Fin 8) (pos : Position) (s : State) : Host.Outcome State Fault Refusal :=
  .next (taking (.positionReport step pos) (positionUses step pos) (takePosition step pos) s)

/-- UNIT_SUPERVISION_NOTICE (R99). -/
def execUnitSupervisionNotice (step : Fin 8) (sup : Supervision) (s : State) : Host.Outcome State Fault Refusal :=
  .next (taking (.unitSupervisionNotice step sup) noRows (takeSupervision step sup) s)

/-- TRIP_START (R101). -/
def execTripStart (step : Fin 8) (cause : TripCause) (s : State) : Host.Outcome State Fault Refusal :=
  .next (taking (.tripStart step cause) noRows (takeTripStart step cause) s)

/-- UNIT_BUSY_REFUSAL (R100, R103). -/
def execUnitBusyRefusal (r : BusyRefusal) (s : State) : Host.Outcome State Fault Refusal :=
  .next (taking (.unitBusyRefusal r) noRows (takeBusy r) s)

/-- UNBALANCE_LOCKOUT_NOTICE (R102). -/
def execUnbalanceLockoutNotice (step : Fin 8) (s : State) : Host.Outcome State Fault Refusal :=
  .next (taking (.unbalanceLockoutNotice step) noRows (takeLockoutNotice step) s)

/-- CLOSE_OUTCOME (R103). -/
def execCloseOutcome (step : Fin 8) (o : CmdOutcome) (s : State) : Host.Outcome State Fault Refusal :=
  .next (taking (.closeOutcome step o) (closeOutcomeUses step o) (takeCloseOutcome step o) s)

/-- OPEN_OUTCOME (R104, R105). -/
def execOpenOutcome (step : Fin 8) (o : CmdOutcome) (s : State) : Host.Outcome State Fault Refusal :=
  .next (taking (.openOutcome step o) noRows (takeOpenOutcome step o) s)

/-- DISCHARGED_REPORT (R106). -/
def execDischargedReport (step : Fin 8) (s : State) : Host.Outcome State Fault Refusal :=
  .next (taking (.dischargedReport step) noRows (takeDischarged step) s)

/-- UNBALANCE_STEP_REPORT (R65). -/
def execUnbalanceStepReport (r : StepReport) (s : State) : Host.Outcome State Fault Refusal :=
  .next (taking (.unbalanceStepReport r) (unbalanceReportUses r) (takeUnbalanceReport r) s)

/-- HARMONIC_STEP_REPORT (R50, R51). -/
def execHarmonicStepReport (r : StepReport) (s : State) : Host.Outcome State Fault Refusal :=
  .next (taking (.harmonicStepReport r) (harmonicReportUses r) (harmonicReport r) s)

/-- CONTROL_STEP_REPORT (R93, R118, R122, R128, R131). -/
def execControlStepReport (r : StepReport) (s : State) : Host.Outcome State Fault Refusal :=
  .next (taking (.controlStepReport r) (controlReportUses r) (controlReport r) s)

end Sys2Proof.Machine
end

