-- ==== Sys2Proof/Machine/StoreCommands.lean ====
section
/-! DEFINITION. The meanings of the commands of the store, the scrubber, reports and capture (chapters 11 and 12). -/

namespace Sys2Proof.Machine

/-- STORE_COMPLETION (R167). -/
def execStoreCompletion (rows : Nat) (verified : Option Bool) (s : State) : Host.Outcome State Fault Refusal :=
  .next (taking (.storeCompletion rows verified) noRows (storeWorks rows verified) s)

/-- SCRUB_PASS (R165, R166). -/
def execScrubPass (before : List Strike) (after : List Strike) (s : State) : Host.Outcome State Fault Refusal :=
  .next (taking (.scrubPass before after) noRows (scrub before after) s)

/-- REPORT_TIMER_EXPIRY (R171). -/
def execReportTimerExpiry (s : State) : Host.Outcome State Fault Refusal :=
  .next (taking .reportTimerExpiry (fun _ => [.link]) periodicReport s)

/-- R171: a change report that is due uses the Link Table. -/
def changeReportUses (s : State) : List RowRef := if s.events.changePending then [.link] else []

/-- CHANGE_REPORT_DUE (R171). -/
def execChangeReportDue (s : State) : Host.Outcome State Fault Refusal :=
  .next (taking .changeReportDue changeReportUses changeReport s)

/-- CAPTURE_TRIGGER (R172). -/
def execCaptureTrigger (kind : TriggerKind) (step : Option (Fin 8)) (s : State) : Host.Outcome State Fault Refusal :=
  .next (taking (.captureTrigger kind step) noRows (takeTrigger kind step) s)

/-- CAPTURE_COMPLETE (R173). -/
def execCaptureComplete (buffer : Fin 2) (s : State) : Host.Outcome State Fault Refusal :=
  .next (taking (.captureComplete buffer) noRows (completeCapture buffer) s)

end Sys2Proof.Machine
end

