-- ==== Sys2Proof/Machine/StreamCommands.lean ====
section
/-! DEFINITION. The meanings of the commands of acceptance and the engine (chapters 01 and 02). -/

namespace Sys2Proof.Machine

/-- SAMPLE_FRAME (R6 to R17). -/
def execSampleFrame (f : SampleFrame) (s : State) : Host.Outcome State Fault Refusal :=
  .next (taking (.sampleFrame f) (sampleUses f) (acceptFrame f) s)

/-- LOSS_TIMER_EXPIRY (R13). -/
def execLossTimerExpiry (row : Fin 16) (s : State) : Host.Outcome State Fault Refusal :=
  .next (taking (.lossTimerExpiry row) (lossUses row) (streamLost row) s)

/-- COMPUTATION_END (R20, R31, R32). -/
def execComputationEnd (s : State) : Host.Outcome State Fault Refusal :=
  .next (taking .computationEnd computationUses computationEnds s)

/-- AGE_CLOCK_TICK (R33). -/
def execAgeClockTick (s : State) : Host.Outcome State Fault Refusal :=
  .next (taking .ageClockTick (fun _ => [.yard]) ageTick s)

/-- HOLD_TIMER_EXPIRY (R36). -/
def execHoldTimerExpiry (s : State) : Host.Outcome State Fault Refusal :=
  .next (taking .holdTimerExpiry noRows endHold s)

end Sys2Proof.Machine
end

