-- ==== Sys2Proof/Machine/SwitchingCommands.lean ====
section
/-! DEFINITION. The meanings of the commands of switching control (chapter 07). -/

namespace Sys2Proof.Machine

/-- R128: switching control takes an outcome or refusal passed on for a step, and grants what waits for a FREE slot. -/
def takeSwitchOutcome (i : Fin 8) (k : CmdKind) (r : SwitchResult) (s : State) : State :=
  grantWaiting (switchEvent i k r s)

/-- The rows of the grants that follow an outcome or refusal passed on (R124, R128). -/
def switchOutcomeUses (i : Fin 8) (k : CmdKind) (r : SwitchResult) (s : State) : List RowRef :=
  grantUses (switchEvent i k r s)

def incomerOutcomeUses (k : CmdKind) (r : IncomerResult) (s : State) : List RowRef := grantUses (endIncomer k r s)

/-- R123: the rows of the grants that follow a DETUNE request that is taken. -/
def detuneRequestUses (s : State) : List RowRef :=
  if detuneTaken s then arriveAutoUses .opn .detune s else []

/-- R122: an expiry of the settle timer uses the settle time. -/
def settleUses (s : State) : List RowRef :=
  if s.switching.control = .autoSettle ∧ s.switching.settle.isSome then [.yard] else []

/-- R119: an expiry of the restore hold timer uses the restore hold. -/
def restoreUses (s : State) : List RowRef :=
  if s.switching.line = .restore ∧ s.switching.restore.isSome then [.yard] else []

/-- R131: the expiry time of the selection is reached. -/
def selectionExpires (s : State) : State := removeSelection .selectExpired none s

/-- SWITCH_OUTCOME (R128). -/
def execSwitchOutcome (step : Fin 8) (kind : CmdKind) (result : SwitchResult) (s : State) :
    Host.Outcome State Fault Refusal :=
  .next (taking (.switchOutcome step kind result) (switchOutcomeUses step kind result) (takeSwitchOutcome step kind result) s)

/-- INCOMER_OUTCOME (R128). -/
def execIncomerOutcome (kind : CmdKind) (result : IncomerResult) (s : State) : Host.Outcome State Fault Refusal :=
  .next (taking (.incomerOutcome kind result) (incomerOutcomeUses kind result) (takeIncomerOutcome kind result) s)

/-- DETUNE_REQUEST (R53, R123). -/
def execDetuneRequest (s : State) : Host.Outcome State Fault Refusal :=
  .next (taking .detuneRequest detuneRequestUses takeDetune s)

/-- HIGH_TIMER_EXPIRY (R121). -/
def execHighTimerExpiry (s : State) : Host.Outcome State Fault Refusal :=
  .next (taking .highTimerExpiry highExpiryUses highExpiry s)

/-- LOW_TIMER_EXPIRY (R121). -/
def execLowTimerExpiry (s : State) : Host.Outcome State Fault Refusal :=
  .next (taking .lowTimerExpiry lowExpiryUses lowExpiry s)

/-- SETTLE_TIMER_EXPIRY (R122). -/
def execSettleTimerExpiry (s : State) : Host.Outcome State Fault Refusal :=
  .next (taking .settleTimerExpiry settleUses settleExpiry s)

/-- RESTORE_HOLD_EXPIRY (R119). -/
def execRestoreHoldExpiry (s : State) : Host.Outcome State Fault Refusal :=
  .next (taking .restoreHoldExpiry restoreUses restoreExpiry s)

/-- SELECT_EXPIRY (R131). -/
def execSelectExpiry (s : State) : Host.Outcome State Fault Refusal :=
  .next (taking .selectExpiry removalUses selectionExpires s)

end Sys2Proof.Machine
end

