-- ==== Sys2Proof/Machine/UnitCommands.lean ====
section
/-! DEFINITION. The meanings of the commands of the command engine (chapter 08). -/

namespace Sys2Proof.Machine

/-- R135: a status frame is compared with the rows of the Breaker Unit Table. -/
def statusUses (_ : State) : List RowRef := unitRows

/-- STATUS_FRAME (R135, R142, R143). -/
def execStatusFrame (f : StatusFrame) (s : State) : Host.Outcome State Fault Refusal :=
  .next (taking (.statusFrame f) statusUses (takeStatus f) s)

/-- R137: the trip start is handed before the rows are read, so before any outcome that a row found DAMAGED gives. -/
def announcedRequest (r : CmdRequest) (s : State) : State :=
  takeRequest r (readUsed (requestUses r) (announceTrip r s))

/-- COMMAND_REQUEST (R137 to R141). -/
def execCommandRequest (r : CmdRequest) (s : State) : Host.Outcome State Fault Refusal :=
  .next (taking (.commandRequest r) noRows (announcedRequest r) s)

/-- NEXT_SEND_TIME (R141). -/
def execNextSendTime (unit : Fin 9) (s : State) : Host.Outcome State Fault Refusal :=
  .next (taking (.nextSendTime unit) (nextSendUses unit) (nextSend unit) s)

/-- OPERATE_DEADLINE (R143). -/
def execOperateDeadline (unit : Fin 9) (s : State) : Host.Outcome State Fault Refusal :=
  .next (taking (.operateDeadline unit) (deadlineUses unit) (deadlineArrives unit) s)

/-- SUPERVISION_TIMER_EXPIRY (R136, R144). -/
def execSupervisionTimerExpiry (unit : Fin 9) (s : State) : Host.Outcome State Fault Refusal :=
  .next (taking (.supervisionTimerExpiry unit) (supervisionUses unit) (supervisionExpiry unit) s)

end Sys2Proof.Machine
end

