-- ==== Sys2Proof/Machine/Dispatch.lean ====
section
/-! DEFINITION. The meaning of every command, one arm per row of spec/opcode_table.json. -/

namespace Sys2Proof.Machine

def exec (i : Instr) (s : State) : Host.Outcome State Fault Refusal :=
  match i with
  | .coldReset => Sys2Proof.Machine.execColdReset s
  | .startUp strikes => Sys2Proof.Machine.execStartUp strikes s
  | .restartReset => Sys2Proof.Machine.execRestartReset s
  | .keylockChange asserted => Sys2Proof.Machine.execKeylockChange asserted s
  | .portDown p => Sys2Proof.Machine.execPortDown p s
  | .portUp p => Sys2Proof.Machine.execPortUp p s
  | .frameReceived p bytes checkOk => Sys2Proof.Machine.execFrameReceived p bytes checkOk s
  | .transmissionEnd p => Sys2Proof.Machine.execTransmissionEnd p s
  | .sampleFrame f => Sys2Proof.Machine.execSampleFrame f s
  | .lossTimerExpiry row => Sys2Proof.Machine.execLossTimerExpiry row s
  | .computationEnd => Sys2Proof.Machine.execComputationEnd s
  | .ageClockTick => Sys2Proof.Machine.execAgeClockTick s
  | .holdTimerExpiry => Sys2Proof.Machine.execHoldTimerExpiry s
  | .secondsClockTick => Sys2Proof.Machine.execSecondsClockTick s
  | .dischargeTimerExpiry step => Sys2Proof.Machine.execDischargeTimerExpiry step s
  | .decayTimerExpiry step => Sys2Proof.Machine.execDecayTimerExpiry step s
  | .heatModeChange r => Sys2Proof.Machine.execHeatModeChange r s
  | .positionReport step pos => Sys2Proof.Machine.execPositionReport step pos s
  | .unitSupervisionNotice step sup => Sys2Proof.Machine.execUnitSupervisionNotice step sup s
  | .tripStart step cause => Sys2Proof.Machine.execTripStart step cause s
  | .unitBusyRefusal r => Sys2Proof.Machine.execUnitBusyRefusal r s
  | .unbalanceLockoutNotice step => Sys2Proof.Machine.execUnbalanceLockoutNotice step s
  | .closeOutcome step o => Sys2Proof.Machine.execCloseOutcome step o s
  | .openOutcome step o => Sys2Proof.Machine.execOpenOutcome step o s
  | .dischargedReport step => Sys2Proof.Machine.execDischargedReport step s
  | .unbalanceStepReport r => Sys2Proof.Machine.execUnbalanceStepReport r s
  | .harmonicStepReport r => Sys2Proof.Machine.execHarmonicStepReport r s
  | .controlStepReport r => Sys2Proof.Machine.execControlStepReport r s
  | .statusFrame f => Sys2Proof.Machine.execStatusFrame f s
  | .commandRequest r => Sys2Proof.Machine.execCommandRequest r s
  | .nextSendTime unit => Sys2Proof.Machine.execNextSendTime unit s
  | .operateDeadline unit => Sys2Proof.Machine.execOperateDeadline unit s
  | .supervisionTimerExpiry unit => Sys2Proof.Machine.execSupervisionTimerExpiry unit s
  | .switchOutcome step kind result => Sys2Proof.Machine.execSwitchOutcome step kind result s
  | .incomerOutcome kind result => Sys2Proof.Machine.execIncomerOutcome kind result s
  | .detuneRequest => Sys2Proof.Machine.execDetuneRequest s
  | .highTimerExpiry => Sys2Proof.Machine.execHighTimerExpiry s
  | .lowTimerExpiry => Sys2Proof.Machine.execLowTimerExpiry s
  | .settleTimerExpiry => Sys2Proof.Machine.execSettleTimerExpiry s
  | .restoreHoldExpiry => Sys2Proof.Machine.execRestoreHoldExpiry s
  | .selectExpiry => Sys2Proof.Machine.execSelectExpiry s
  | .readRows q table first count => Sys2Proof.Machine.execReadRows q table first count s
  | .writeRows q first rows => Sys2Proof.Machine.execWriteRows q first rows s
  | .readResults q inputs => Sys2Proof.Machine.execReadResults q inputs s
  | .readStatus q sec => Sys2Proof.Machine.execReadStatus q sec s
  | .hold q => Sys2Proof.Machine.execHold q s
  | .release q => Sys2Proof.Machine.execRelease q s
  | .select q target action token => Sys2Proof.Machine.execSelect q target action token s
  | .operate q token => Sys2Proof.Machine.execOperate q token s
  | .cancel q => Sys2Proof.Machine.execCancel q s
  | .withdraw q step => Sys2Proof.Machine.execWithdraw q step s
  | .restore q step => Sys2Proof.Machine.execRestore q step s
  | .resetLockout q step => Sys2Proof.Machine.execResetLockout q step s
  | .null q step => Sys2Proof.Machine.execNull q step s
  | .setMode q mode => Sys2Proof.Machine.execSetMode q mode s
  | .readEvents q first => Sys2Proof.Machine.execReadEvents q first s
  | .ackEvents q n => Sys2Proof.Machine.execAckEvents q n s
  | .readCapture q buffer offset => Sys2Proof.Machine.execReadCapture q buffer offset s
  | .freeCapture q buffer => Sys2Proof.Machine.execFreeCapture q buffer s
  | .store q => Sys2Proof.Machine.execStore q s
  | .storeCompletion rows verified => Sys2Proof.Machine.execStoreCompletion rows verified s
  | .restart q => Sys2Proof.Machine.execRestart q s
  | .clearTableError q => Sys2Proof.Machine.execClearTableError q s
  | .scrubPass before after => Sys2Proof.Machine.execScrubPass before after s
  | .reportTimerExpiry => Sys2Proof.Machine.execReportTimerExpiry s
  | .changeReportDue => Sys2Proof.Machine.execChangeReportDue s
  | .captureTrigger kind step => Sys2Proof.Machine.execCaptureTrigger kind step s
  | .captureComplete buffer => Sys2Proof.Machine.execCaptureComplete buffer s

end Sys2Proof.Machine
end

