-- ==== Sys2Proof/Machine/Idle.lean ====
section
/-! DEFINITION. What the part does while no command waits in the queue (notes/assumptions/1.md): it takes a message that
its blocks have handed, or the expiry of a timer that is due, or lets one millisecond of the timebase pass. -/

namespace Sys2Proof.Machine

/-! ## Timers that are due -/

/-- A command that is due when `p` holds. -/
def dueWhen (p : Bool) (c : Instr) : List Instr := if p then [c] else []

/-- Whether a count of ms left has run out. -/
def ranOut (t : Option Nat) : Bool := t = some 0

/-- R12, R13: a RUNNING stream's loss timer. -/
def lossDue (s : State) (i : Fin 16) : List Instr :=
  match s.acceptance.streams[i].loss with
  | some t => dueWhen (s.acceptance.streams[i].status = .running && t.limit ≤ t.elapsed) (.lossTimerExpiry i)
  | none => []

/-- R33, R36: the engine's clock and hold timer. -/
def engineDue (s : State) : List Instr :=
  dueWhen (s.engine.ageLeft = 0) .ageClockTick ++ dueWhen (ranOut s.engine.hold) .holdTimerExpiry

/-- R83, R85: the timers of a step. -/
def dutyDue (s : State) (i : Fin 8) : List Instr :=
  dueWhen (ranOut s.duty.steps[i].discharge) (.dischargeTimerExpiry i) ++
    dueWhen (ranOut s.duty.steps[i].decay) (.decayTimerExpiry i)

/-- Whether a time on the timebase has come. -/
def timeCome (s : State) (t : Option Nat) : Bool :=
  match t with
  | some t => t ≤ s.timebase
  | none => false

/-- R136, R141, R143: the timers of a unit; further expiries of a SILENT unit change nothing. -/
def unitDue (s : State) (u : Fin 9) : List Instr :=
  let x := s.commands[u]
  let expired := match x.timer with
    | some t => t.limit ≤ t.elapsed
    | none => false
  dueWhen (x.context.state = .sending && timeCome s x.context.nextSend) (.nextSendTime u) ++
    dueWhen (x.context.state = .awaitingMove && timeCome s x.context.deadline) (.operateDeadline u) ++
    dueWhen (x.supervision = .alive && expired) (.supervisionTimerExpiry u)

/-- R119, R121, R122, R131: the timers of switching control. -/
def switchingDue (s : State) : List Instr :=
  let w := s.switching
  let y := s.yard
  dueWhen (w.control = .autoHigh && w.expiryHeld.isNone && w.high.reached (y.highDelay * 1000)) .highTimerExpiry ++
    dueWhen (w.control = .autoLow && w.expiryHeld.isNone && w.low.reached (y.lowDelay * 1000)) .lowTimerExpiry ++
    dueWhen (w.control = .autoSettle && countReached (y.settleTime * 1000) w.settle) .settleTimerExpiry ++
    dueWhen (w.line = .restore && countReached (y.restoreHold * 1000) w.restore) .restoreHoldExpiry ++
    dueWhen (timeCome s (w.selection.map Selection.expiry)) .selectExpiry

/-- R171: the reports. -/
def reportDue (s : State) : List Instr :=
  dueWhen (periodReached s) .reportTimerExpiry ++
    dueWhen (reporting s && s.events.changePending && s.events.changeHold = 0) .changeReportDue

/-- R173: a recording that has lasted 400 ms. -/
def captureDue (s : State) (i : Fin 2) : List Instr :=
  let b := s.events.buffers[i]
  dueWhen (b.status = .recording && Config.captureTime ≤ b.elapsed) (.captureComplete i)

/-- R164: the wait of a RESTART. -/
def restartWaited (s : State) : List Instr :=
  match s.agent.restartWait with
  | some t => dueWhen (Config.restartWait ≤ t) .restartReset
  | none => []

/-- Every timer that is due, in the order in which an idle part takes them. -/
def dueTimers (s : State) : List Instr :=
  restartWaited s ++ allStreams.flatMap (lossDue s) ++ engineDue s ++ dueWhen (s.duty.secondsLeft = 0) .secondsClockTick ++
    allSteps.flatMap (dutyDue s) ++ allUnits.flatMap (unitDue s) ++ switchingDue s ++
    dueWhen (s.memory.scrubLeft = 0) (.scrubPass [] []) ++ reportDue s ++ allBuffers.flatMap (captureDue s)

/-! ## One millisecond -/

def StreamLive.tick (x : StreamLive) : StreamLive :=
  { x with loss := x.loss.map fun t => { t with elapsed := t.elapsed + 1 } }

def EngineState.tick (e : EngineState) : EngineState :=
  { e with ageLeft := e.ageLeft - 1, hold := e.hold.map (· - 1) }

def DutyLive.tick (d : DutyLive) : DutyLive :=
  { d with discharge := d.discharge.map (· - 1), decay := d.decay.map (· - 1) }

def UnitLive.tick (x : UnitLive) : UnitLive :=
  { x with timer := x.timer.map fun t => { t with elapsed := t.elapsed + 1 } }

def BandTimer.tick : BandTimer → BandTimer
  | .running c => .running (c + 1)
  | t => t

/-- R121: a timer whose expiry is held stays at its delay. -/
def SwitchingState.tick (w : SwitchingState) : SwitchingState :=
  { w with
    high := if w.expiryHeld.isSome then w.high else w.high.tick
    low := if w.expiryHeld.isSome then w.low else w.low.tick
    settle := w.settle.map (· + 1)
    restore := w.restore.map (· + 1) }

def CaptureBuffer.tick (b : CaptureBuffer) : CaptureBuffer :=
  if b.status = .recording then { b with elapsed := b.elapsed + 1 } else b

def EventState.tick (e : EventState) : EventState :=
  { e with
    reportTimer := e.reportTimer + 1, changeHold := e.changeHold - 1, buffers := e.buffers.map CaptureBuffer.tick }

/-- One millisecond of the timebase, on which every timer of the part runs (00_scope.md, Timebase). -/
def tick (s : State) : State :=
  { s with
    timebase := s.timebase + 1
    acceptance := { s.acceptance with streams := s.acceptance.streams.map StreamLive.tick }
    engine := s.engine.tick
    duty := { steps := s.duty.steps.map DutyLive.tick, secondsLeft := s.duty.secondsLeft - 1 }
    switching := s.switching.tick
    commands := s.commands.map UnitLive.tick
    agent := { s.agent with restartWait := s.agent.restartWait.map (· + 1) }
    memory := { s.memory with scrubLeft := s.memory.scrubLeft - 1 }
    events := s.events.tick }

/-- What an idle part does. Between a reset and start-up only the timebase runs (R168). -/
def idle (s : State) : Host.Outcome State Fault Refusal :=
  match s.phase with
  | .inReset _ => .next { s with timebase := s.timebase + 1 }
  | .running =>
    match s.mail with
    | c :: _ => exec c s
    | [] =>
      match dueTimers s with
      | c :: _ => exec c s
      | [] => .next (tick s)

end Sys2Proof.Machine
end

