-- ==== Sys2Proof/Safety.lean ====
section
/-! DEFINITION. What counts as a safe run, in the terms the statements use: the part is running, no row holds an error that a
read would find, what a command leaves alone, and the invariants that every step keeps. -/

namespace Sys2Proof.Machine

/-! ## What a command leaves alone -/

/-- The parts of State, block by block; the event list, the reports and the capture buffers apart. -/
inductive Part where
  | pending | mail | phase | timebase | keylock | ports | acceptance | engine | harmonic | unbalance | duty | supervisor
  | switching | commands | agent | memory | eventList | reports | capture
deriving DecidableEq, Repr

/-- Whether `t` holds what `s` holds in one part. -/
def Part.same (s t : State) : Part → Prop
  | .pending => t.pending = s.pending
  | .mail => t.mail = s.mail
  | .phase => t.phase = s.phase
  | .timebase => t.timebase = s.timebase
  | .keylock => t.keylock = s.keylock
  | .ports => t.ports = s.ports
  | .acceptance => t.acceptance = s.acceptance
  | .engine => t.engine = s.engine
  | .harmonic => t.harmonic = s.harmonic
  | .unbalance => t.unbalance = s.unbalance
  | .duty => t.duty = s.duty
  | .supervisor => t.supervisor = s.supervisor
  | .switching => t.switching = s.switching
  | .commands => t.commands = s.commands
  | .agent => t.agent = s.agent
  | .memory => t.memory = s.memory
  | .eventList => t.events.entries = s.events.entries ∧ t.events.next = s.events.next ∧ t.events.lost = s.events.lost
  | .reports =>
    t.events.reportTimer = s.events.reportTimer ∧ t.events.changePending = s.events.changePending ∧
      t.events.changeHold = s.events.changeHold
  | .capture => t.events.buffers = s.events.buffers

/-- `t` differs from `s` in the listed parts at most. -/
structure SameBut (parts : List Part) (s t : State) : Prop where
  same : ∀ p, p ∉ parts → p.same s t

/-! ## A part that takes commands -/

/-- No row of the tables holds an error that its next read would find (R165): each is DAMAGED already, and not judged
again, or agrees with its check bits. -/
def Intact (s : State) : Prop :=
  ∀ r ∈ allRows, s.memory.tables.damagedAt r = true ∨ s.memory.tables.upsetAt r = .clean

/-- The part is running, and the rows a command reads are as their last writer left them. -/
def Ready (s : State) : Prop := s.phase = .running ∧ Intact s

/-- A requester that the agent answers: its address is permitted, and no RESTART waits (R159, R164). -/
def Heard (q : Requester) (s : State) : Prop :=
  permitted q.address s = true ∧ s.agent.restartWait = none

/-- The requester of a request (10.1); no other command has one. -/
def requesterOf : Instr → Option Requester
  | .readRows q _ _ _ => some q
  | .writeRows q _ _ => some q
  | .readResults q _ => some q
  | .readStatus q _ => some q
  | .hold q => some q
  | .release q => some q
  | .select q _ _ _ => some q
  | .operate q _ => some q
  | .cancel q => some q
  | .withdraw q _ => some q
  | .restore q _ => some q
  | .resetLockout q _ => some q
  | .null q _ => some q
  | .setMode q _ => some q
  | .readEvents q _ => some q
  | .ackEvents q _ => some q
  | .readCapture q _ _ => some q
  | .freeCapture q _ => some q
  | .store q => some q
  | .restart q => some q
  | .clearTableError q => some q
  | .coldReset => none
  | .startUp _ => none
  | .restartReset => none
  | .keylockChange _ => none
  | .portDown _ => none
  | .portUp _ => none
  | .frameReceived _ _ _ => none
  | .transmissionEnd _ => none
  | .sampleFrame _ => none
  | .lossTimerExpiry _ => none
  | .computationEnd => none
  | .ageClockTick => none
  | .holdTimerExpiry => none
  | .secondsClockTick => none
  | .dischargeTimerExpiry _ => none
  | .decayTimerExpiry _ => none
  | .heatModeChange _ => none
  | .positionReport _ _ => none
  | .unitSupervisionNotice _ _ => none
  | .tripStart _ _ => none
  | .unitBusyRefusal _ => none
  | .unbalanceLockoutNotice _ => none
  | .closeOutcome _ _ => none
  | .openOutcome _ _ => none
  | .dischargedReport _ => none
  | .unbalanceStepReport _ => none
  | .harmonicStepReport _ => none
  | .controlStepReport _ => none
  | .statusFrame _ => none
  | .commandRequest _ => none
  | .nextSendTime _ => none
  | .operateDeadline _ => none
  | .supervisionTimerExpiry _ => none
  | .switchOutcome _ _ _ => none
  | .incomerOutcome _ _ => none
  | .detuneRequest => none
  | .highTimerExpiry => none
  | .lowTimerExpiry => none
  | .settleTimerExpiry => none
  | .restoreHoldExpiry => none
  | .selectExpiry => none
  | .storeCompletion _ _ => none
  | .scrubPass _ _ => none
  | .reportTimerExpiry => none
  | .changeReportDue => none
  | .captureTrigger _ _ => none
  | .captureComplete _ => none

/-- R6: row `i` is a configured stream with the source tag of frame `f`, and no lower row is; by the table law of R2 no
other row is either. -/
def CarriesTag (f : SampleFrame) (s : State) (i : Fin 16) : Prop :=
  (streamHeld i s).row.inUse = true ∧ (streamHeld i s).damaged = false ∧ (streamHeld i s).row.address = f.sender ∧
    (streamHeld i s).row.streamNumber = f.streamNumber

def Matches (f : SampleFrame) (s : State) (i : Fin 16) : Prop :=
  CarriesTag f s i ∧ ∀ j, j < i → ¬ CarriesTag f s j

/-- R6: frame `f` passes the check for simulated frames of row `i`. -/
def PassesSimulated (f : SampleFrame) (s : State) (i : Fin 16) : Prop :=
  f.simulated = false ∨ (streamHeld i s).row.acceptSimulated = true

/-- R8: the distance of a counter ahead of the last one, modulo 65,536. -/
def counterDistance (c last : Nat) : Nat := (c + 65536 - last) % 65536

/-! ## Invariants that every step keeps -/

/-- R169: at most 256 entries, their sequence numbers consecutive modulo 2^32 up to the number written last. -/
def EventsOk (s : State) : Prop :=
  s.events.entries.length ≤ Config.eventCapacity ∧ s.events.next < mod32 ∧
    ∀ k (h : k < s.events.entries.length),
      (s.events.entries[k].sequence + (s.events.entries.length - k)) % mod32 = s.events.next ∧
        s.events.entries[k].sequence < mod32

/-- R92: the Open List holds exactly the steps in COOLING and READY, the Closed List exactly those in IN, each once;
between a reset and start-up every step is WITHDRAWN. -/
def ListsOk (s : State) : Prop :=
  (s.phase ≠ .running → ∀ i : Fin 8, s.stepState i = .withdrawn) ∧
    s.supervisor.openList.Nodup ∧ s.supervisor.closedList.Nodup ∧
    (∀ i, i ∈ s.supervisor.openList ↔ s.stepState i = .cooling ∨ s.stepState i = .ready) ∧
    ∀ i, i ∈ s.supervisor.closedList ↔ s.stepState i = .inService

/-- R150 to R153 for one port: the queues within their lengths, COMMAND frames ahead of all others and at most one of
each command context, nothing sent while the link is DOWN, and an origin run of at most 2. -/
def PortOk (p : PortState) : Prop :=
  p.forward.length ≤ Config.forwardCapacity ∧ p.origin.length ≤ Config.originCapacity ∧
    (∃ cs rest, p.origin = cs ++ rest ∧ cs.all OriginFrame.isCommand = true ∧
      rest.all (fun f => !f.isCommand) = true ∧ (cs.map OriginFrame.cls).Nodup) ∧
    (p.linkUp = false → p.forward = [] ∧ p.tx = none) ∧ p.originRun ≤ 2

def PortsOk (s : State) : Prop := PortOk s.ports.lineA ∧ PortOk s.ports.lineB

/-- R123: the switching queue holds at most 4 entries, MANUAL entries ahead of at most one AUTO entry, each in the rule's
order (OPEN before CLOSE, then arrival), and an AUTO entry waits only in AUTO_PENDING; between a reset and start-up the
queue is empty. -/
def QueueOk (s : State) : Prop :=
  (s.phase ≠ .running → s.switching.queue = []) ∧ s.switching.queue.length ≤ Config.queueCapacity ∧
    (∃ manual auto, s.switching.queue = manual ++ auto ∧ manual.all (fun e => !e.isAuto) = true ∧
      auto.all QueueEntry.isAuto = true ∧ auto.length ≤ 1) ∧
    s.switching.queue.Pairwise (fun a b => b.ahead a = false) ∧
    (s.switching.queue.any QueueEntry.isAuto = true → s.switching.control = .autoPending)

/-- A step report that releases the slot: its step held it and has left CLOSING or OPENING (R128). -/
def releasing : Instr → Bool
  | .controlStepReport r => r.slotHeld && (r.old = .closing || r.old = .opening)
  | _ => false

/-- R100, R124, R128: a step in CLOSING holds the slot; a step that holds it is in CLOSING or OPENING and is the one its
holder record names, as is the step of a releasing report that waits; and there is at most one of them all, so at most one
step is in CLOSING. Step reports come from the step supervisor alone (notes/assumptions/2.md). -/
def SlotOk (s : State) : Prop :=
  (∀ r, Instr.controlStepReport r ∉ s.pending) ∧
    (s.phase ≠ .running → ∀ i : Fin 8, s.supervisor.steps[i].slotHeld = false) ∧
    (∀ i : Fin 8, s.stepState i = .closing → s.supervisor.steps[i].slotHeld = true) ∧
    (∀ i : Fin 8, s.supervisor.steps[i].slotHeld = true →
      (s.stepState i = .closing ∨ s.stepState i = .opening) ∧
        ∃ h, s.switching.holder = some h ∧ h.target = stepUnit i) ∧
    (∀ r, Instr.controlStepReport r ∈ s.mail → releasing (.controlStepReport r) = true →
      ∃ h, s.switching.holder = some h ∧ h.target = stepUnit r.step) ∧
    s.mail.countP releasing + allSteps.countP (fun i => s.supervisor.steps[i].slotHeld) ≤ 1

/-- R15, R16, R19 to R22: the engine's queue holds each input with a QUEUED window once, and no input has two of them; the
computation in progress is that of the one COMPUTING window, and an engine without one has an empty queue; an input has
one FILLING window in COLLECTING and none otherwise; a pending notice waits for at least one window, and for such only as
stand QUEUED or COMPUTING and not withdrawn; between a reset and start-up every window is FREE. -/
def EngineOk (s : State) : Prop :=
  (s.phase ≠ .running → ∀ (m : Fin 38) (w : Fin 2), (s.window m w).state = .free) ∧
    s.engine.queue.Nodup ∧ (s.engine.computing = none → s.engine.queue = []) ∧
    (∀ m : Fin 38, m ∈ s.engine.queue ↔ ∃ w : Fin 2, (s.window m w).state = .queued) ∧
    (∀ (m : Fin 38) (w : Fin 2), s.engine.computing = some (m, w) ↔ ∃ b, (s.window m w).state = .computing b) ∧
    (∀ m : Fin 38, s.acceptance.inputs[m].fill = .collecting ↔ ∃ w : Fin 2, (s.window m w).state = .filling) ∧
    (∀ (m : Fin 38) (v w : Fin 2), (s.window m v).state = (s.window m w).state →
      (s.window m v).state = .queued ∨ (s.window m v).state = .filling → v = w) ∧
    ∀ (m : Fin 38) (waits : Vector Bool 2), s.engine.notices[m] = some waits →
      (∃ w : Fin 2, waits[w] = true) ∧ ∀ w : Fin 2, waits[w] = true → standsAhead (s.window m w) = true

/-- The rows of `a` that are whole in `b` are whole in `a` too, with the same content. -/
def RowsAgree {α : Type} {n : Nat} (a b : Vector (Held α) n) : Prop :=
  ∀ i : Fin n, b[i].damaged = true ∨ (a[i].damaged = false ∧ a[i].row = b[i].row)

/-- R2, R134: among the rows that are not DAMAGED no two in-use streams carry the same source tag, no input appears twice
in the channel maps, and no two units carry the same address, the all-zero one excepted; in the tables and in a VALID
image alike. While a STORE runs the image is INVALID, and no write changes a row of these tables (R160, R167): the image
with the rows that are left copied as they stand has them too. -/
def TablesOk (s : State) : Prop :=
  let m := s.memory
  let whole := (allRows.drop m.copied).foldl (fun d r => m.tables.copyRow d r) (m.image.getD Tables.defaults)
  (s.phase ≠ .running → m.storing = false) ∧
    streamLaw m.tables.stream = true ∧ unitLaw m.tables.unit = true ∧
    (m.imageValid = true → ∀ t, m.image = some t → streamLaw t.stream = true ∧ unitLaw t.unit = true) ∧
    (m.storing = true → m.imageValid = false ∧ streamLaw whole.stream = true ∧ unitLaw whole.unit = true ∧
      RowsAgree whole.stream m.tables.stream ∧ RowsAgree whole.unit m.tables.unit)

/-- R77, R79 and R84: a step's heat and last load figure stay within 4,095 squared, its operations count within 15. -/
def DutyOk (s : State) : Prop :=
  ∀ i : Fin 8, s.duty.steps[i].heat ≤ Config.heatMax ∧ s.duty.steps[i].lastP ≤ Config.heatMax ∧
    s.duty.steps[i].operations ≤ Config.operationsMax

/-- R106: a step in READY has discharged. -/
def ReadyDischarged (s : State) : Prop :=
  ∀ i : Fin 8, s.stepState i = .ready → dischargeRemaining i s = 0

end Sys2Proof.Machine
end

