-- ==== Sys2Proof/Certificates/Slice0/Obligations.lean ====
section
/-! DEFINITION. The statements about the model, chapter by chapter of the spec. In a statement about a command `c`, the state
`s.dropMail c` is `s` without the message that `c` takes, if one waits (notes/assumptions/2.md), and
`noteChange (s.dropMail c) u` is `u` with a change of the yard summary noted (R171, O54). A subject or value of an event
that no rule gives is `none` in every statement, by the model's choice (notes/assumptions/68.md). -/

open Sys2Proof Sys2Proof.Machine

/-! ## Steps -/

/-- A step takes the command at the front of the queue, with the queue's rest, whatever the command and the state.
What an idle part does is the model's choice (notes/assumptions/1.md): between a reset and start-up only the timebase
runs; a running part takes the first message its blocks have handed, then the first timer that is due, and lets one
millisecond pass when there is neither. A timer is due when its count or time has come, as R12 gives it for the loss timer,
R33 the age clock, R36 the hold, R78 the seconds clock, R83 and R85 the discharge and decay timers, R119, R121 and R122 the
restore hold, band and settle timers, R131 the selection, R136, R141 and R143 the supervision timer, the next send and the
operate deadline, R164 a RESTART, R166 the scrubber, R171 the reports and R173 a recording; a millisecond moves every count
by one and nothing else. That the report timer is due without a report destination too is the model's choice
(notes/assumptions/24.md). -/
def Obligations.StepTakesFront : Prop :=
  (∀ (c : Instr) (rest : List Instr) (s : State), s.pending = c :: rest → step s = exec c { s with pending := rest }) ∧
  (∀ s : State, s.pending = [] →
     (s.phase ≠ .running → step s = .next { s with timebase := s.timebase + 1 }) ∧
     (s.phase = .running →
       (∀ c ms, s.mail = c :: ms → step s = exec c s) ∧
       (s.mail = [] → (∀ c cs, dueTimers s = c :: cs → step s = exec c s) ∧ (dueTimers s = [] → step s = .next (tick s))))) ∧
  (∀ (s : State) (c : Instr),
     let w := s.switching
     c ∈ dueTimers s ↔
       (∃ t, s.agent.restartWait = some t ∧ 100 ≤ t ∧ c = .restartReset) ∨
       (∃ (i : Fin 16) (t : LossTimer), s.acceptance.streams[i].status = .running ∧
          s.acceptance.streams[i].loss = some t ∧ t.limit ≤ t.elapsed ∧ c = .lossTimerExpiry i) ∨
       (s.engine.ageLeft = 0 ∧ c = .ageClockTick) ∨ (s.engine.hold = some 0 ∧ c = .holdTimerExpiry) ∨
       (s.duty.secondsLeft = 0 ∧ c = .secondsClockTick) ∨
       (∃ i : Fin 8, s.duty.steps[i].discharge = some 0 ∧ c = .dischargeTimerExpiry i) ∨
       (∃ i : Fin 8, s.duty.steps[i].decay = some 0 ∧ c = .decayTimerExpiry i) ∨
       (∃ (u : Fin 9) (t : Nat), s.commands[u].context.state = .sending ∧ s.commands[u].context.nextSend = some t ∧
          t ≤ s.timebase ∧ c = .nextSendTime u) ∨
       (∃ (u : Fin 9) (t : Nat), s.commands[u].context.state = .awaitingMove ∧ s.commands[u].context.deadline = some t ∧
          t ≤ s.timebase ∧ c = .operateDeadline u) ∨
       (∃ (u : Fin 9) (t : SupervisionTimer), s.commands[u].supervision = .alive ∧ s.commands[u].timer = some t ∧
          t.limit ≤ t.elapsed ∧ c = .supervisionTimerExpiry u) ∨
       (∃ n, w.control = .autoHigh ∧ w.expiryHeld = none ∧ w.high = .running n ∧ s.yard.highDelay * 1000 ≤ n ∧
          c = .highTimerExpiry) ∨
       (∃ n, w.control = .autoLow ∧ w.expiryHeld = none ∧ w.low = .running n ∧ s.yard.lowDelay * 1000 ≤ n ∧
          c = .lowTimerExpiry) ∨
       (∃ n, w.control = .autoSettle ∧ w.settle = some n ∧ s.yard.settleTime * 1000 ≤ n ∧ c = .settleTimerExpiry) ∨
       (∃ n, w.line = .restore ∧ w.restore = some n ∧ s.yard.restoreHold * 1000 ≤ n ∧ c = .restoreHoldExpiry) ∨
       (∃ x, w.selection = some x ∧ x.expiry ≤ s.timebase ∧ c = .selectExpiry) ∨
       (s.memory.scrubLeft = 0 ∧ c = .scrubPass [] []) ∨
       (s.link.period * 1000 ≤ s.events.reportTimer ∧ c = .reportTimerExpiry) ∨
       (s.link.destination ≠ 0 ∧ s.events.changePending = true ∧ s.events.changeHold = 0 ∧ c = .changeReportDue) ∨
       (∃ b : Fin 2, s.events.buffers[b].status = .recording ∧ 400 ≤ s.events.buffers[b].elapsed ∧
          c = .captureComplete b)) ∧
  ∀ s : State,
    let run (held : Bool) (t : BandTimer) : BandTimer :=
      match held, t with
      | false, .running c => .running (c + 1)
      | _, t => t
    let w := s.switching
    tick s =
      { s with
        timebase := s.timebase + 1
        acceptance := { s.acceptance with streams := s.acceptance.streams.map fun x =>
          { x with loss := x.loss.map fun t => { t with elapsed := t.elapsed + 1 } } }
        engine := { s.engine with ageLeft := s.engine.ageLeft - 1, hold := s.engine.hold.map fun t => t - 1 }
        duty :=
          { steps := s.duty.steps.map fun d =>
              { d with discharge := d.discharge.map fun t => t - 1, decay := d.decay.map fun t => t - 1 }
            secondsLeft := s.duty.secondsLeft - 1 }
        switching := { w with
          high := run w.expiryHeld.isSome w.high, low := run w.expiryHeld.isSome w.low
          settle := w.settle.map fun t => t + 1, restore := w.restore.map fun t => t + 1 }
        commands := s.commands.map fun x => { x with timer := x.timer.map fun t => { t with elapsed := t.elapsed + 1 } }
        agent := { s.agent with restartWait := s.agent.restartWait.map fun t => t + 1 }
        memory := { s.memory with scrubLeft := s.memory.scrubLeft - 1 }
        events := { s.events with
          reportTimer := s.events.reportTimer + 1, changeHold := s.events.changeHold - 1
          buffers := s.events.buffers.map fun b =>
            if b.status = .recording then { b with elapsed := b.elapsed + 1 } else b } }

/-! ## Chapter 01 -/

/-- R6 to R8: a frame whose tag no configured stream carries, or that is simulated where the row does not accept it,
changes nothing; one with a wrong channel count, or a repeated counter, moves one count of its row. -/
def Obligations.SampleFrameNotTaken : Prop :=
  ∀ (f : SampleFrame) (s : State), Ready s →
    ((∀ i, ¬ CarriesTag f s i) → exec (.sampleFrame f) s = .next (s.dropMail (.sampleFrame f))) ∧
    ∀ i, Matches f s i →
      (¬ PassesSimulated f s i → exec (.sampleFrame f) s = .next (s.dropMail (.sampleFrame f))) ∧
      (PassesSimulated f s i →
        (f.channels.length ≠ (streamHeld i s).row.channelCount →
          exec (.sampleFrame f) s = .next (noteChange (s.dropMail (.sampleFrame f))
            ((s.dropMail (.sampleFrame f)).updStream i fun x => { x with wrongCount := (x.wrongCount + 1) % 4294967296 }))) ∧
        (f.channels.length = (streamHeld i s).row.channelCount → ∀ last,
          s.acceptance.streams[i].lastCounter = some last → counterDistance f.counter last = 0 →
          exec (.sampleFrame f) s = .next (noteChange (s.dropMail (.sampleFrame f))
            ((s.dropMail (.sampleFrame f)).updStream i fun x =>
              { x with counterGaps := (x.counterGaps + 1) % 4294967296 }))))

/-- R8, R11, R12: a frame that is taken, as a first frame or at a counter distance other than 0, leaves its row
RUNNING with its counter, a restarted loss timer and one more frame accepted; the counter gaps rise unless it is the
first or in sequence; a mapped channel of quality GOOD or DOUBTFUL gives the last value, one of another quality is
counted. No other row, no table, no unit, and neither the agent nor the timebase changes. R9, R10: what is done before the
frame is taken, by its distance: a short gap is filled, a jump abandons the row's windows; how a gap is filled, what an
abandonment does, and what each channel does, in terms of the inputs. The model's choices: the order of the inputs in an
abandonment, and that of the channels of one counter, received or filled, by which inputs completed together join the window
queue (notes/assumptions/14.md). -/
def Obligations.SampleFrameTaken : Prop :=
  (∀ (f : SampleFrame) (s : State) (i : Fin 16), Ready s → Matches f s i → PassesSimulated f s i →
    f.channels.length = (streamHeld i s).row.channelCount →
    (∀ last, s.acceptance.streams[i].lastCounter = some last → counterDistance f.counter last ≠ 0) →
    ∃ t, exec (.sampleFrame f) s = .next t ∧
      t.acceptance.streams[i].status = .running ∧ t.acceptance.streams[i].lastCounter = some f.counter ∧
      t.acceptance.streams[i].loss = some { elapsed := 0, limit := (streamHeld i s).row.lossTimeout } ∧
      t.acceptance.streams[i].framesAccepted = (s.acceptance.streams[i].framesAccepted + 1) % 4294967296 ∧
      t.acceptance.streams[i].wrongCount = s.acceptance.streams[i].wrongCount ∧
      t.acceptance.streams[i].counterGaps =
        (match s.acceptance.streams[i].lastCounter with
          | none => s.acceptance.streams[i].counterGaps
          | some last =>
            if counterDistance f.counter last = 1 then s.acceptance.streams[i].counterGaps
            else (s.acceptance.streams[i].counterGaps + 1) % 4294967296) ∧
      (∀ j : Fin 12, t.acceptance.streams[i].lastValues[j] =
        (match (streamHeld i s).row.map[j], f.channels[j.val]? with
          | some _, some ch => if ch.quality = 0 ∨ ch.quality = 1 then some ch.value
              else s.acceptance.streams[i].lastValues[j]
          | _, _ => s.acceptance.streams[i].lastValues[j])) ∧
      (let bad := (List.finRange 12).countP fun j => (streamHeld i s).row.map[j].isSome &&
         ((f.channels[j.val]?).map fun ch => decide (ch.quality ≠ 0 ∧ ch.quality ≠ 1)).getD false
       t.acceptance.streams[i].badQuality =
         if bad = 0 then s.acceptance.streams[i].badQuality
         else (s.acceptance.streams[i].badQuality + bad) % 4294967296) ∧
      (∀ k, k ≠ i → t.acceptance.streams[k] = s.acceptance.streams[k]) ∧
      SameBut [.mail, .ports, .acceptance, .engine, .harmonic, .unbalance, .duty, .supervisor, .switching, .eventList,
        .reports, .capture] s t ∧
      let s₀ := s.dropMail (.sampleFrame f)
      let gapped := s₀.updStream i fun x => { x with counterGaps := (x.counterGaps + 1) % 4294967296 }
      let told (u : State) : Prop := t = noteChange s₀ (takeFrame i f u)
      (s.acceptance.streams[i].lastCounter = none → told s₀) ∧
      ∀ last, s.acceptance.streams[i].lastCounter = some last →
        let d := counterDistance f.counter last
        (d = 1 → told s₀) ∧ (2 ≤ d → d ≤ 3 → told (fillGap i (d - 1) ((last + 1) % 65536) gapped)) ∧
        (3 < d → told (abandonRow i gapped))) ∧
  (∀ (i : Fin 16) (f : SampleFrame) (s : State),
     let x := s.acceptance.streams[i]
     let row := (streamHeld i s).row
     let taken := s.updStream i fun y =>
       { y with
         status := .running, lastCounter := some f.counter, loss := some { elapsed := 0, limit := row.lossTimeout }
         framesAccepted := (y.framesAccepted + 1) % 4294967296 }
     let told := if x.status = .lost then logEvent .streamRunning (.row (.stream i)) none taken else taken
     takeFrame i f s = (List.finRange 12).foldl
       (fun u j => match (streamHeld i u).row.map[j], f.channels[j.val]? with
         | some m, some ch => takeChannel i f.counter j m ch u
         | _, _ => u)
       (told.updStream i fun y => { y with gapCount := if f.counter % 64 = 0 then 0 else y.gapCount })) ∧
  (∀ (i : Fin 16) (c : Nat) (j : Fin 12) (m : Fin 38) (ch : Channel) (s : State),
     (ch.quality = 0 ∨ ch.quality = 1 →
       takeChannel i c j m ch s = placeReceived m c ch.value (ch.quality = 1)
         (s.updStream i fun x => { x with lastValues := x.lastValues.set j (some ch.value) })) ∧
     (ch.quality ≠ 0 → ch.quality ≠ 1 →
       let counted := s.updStream i fun x => { x with badQuality := (x.badQuality + 1) % 4294967296 }
       takeChannel i c j m ch s = if s.acceptance.inputs[m].fill = .collecting then breakInput m counted else counted)) ∧
  (∀ (i : Fin 16) (c n : Nat) (s : State),
     let gap := if c % 64 = 0 then 0 else s.acceptance.streams[i].gapCount
     let entered := s.updStream i fun x => { x with gapCount := gap }
     fillGap i 0 c s = s ∧
     (2 ≤ gap → fillGap i (n + 1) c s = abandonRow i entered) ∧
     (gap < 2 → fillGap i (n + 1) c s = fillGap i n ((c + 1) % 65536) ((List.finRange 12).foldl
       (fun u j => match (streamHeld i u).row.map[j], u.acceptance.streams[i].lastValues[j] with
         | some m, some v => placeFilled m c v u
         | _, _ => u)
       (s.updStream i fun x => { x with gapCount := gap + 1 })))) ∧
  (∀ (i : Fin 16) (s : State),
     abandonRow i s = ((streamHeld i s).row.map.toList.filterMap id).foldl
       (fun u m => if u.acceptance.inputs[m].fill = .collecting then breakInput m u else u)
       (s.updStream i fun x => { x with gapCount := 0 })) ∧
  ∀ (m : Fin 38) (s : State), breakInput m s = handNotice m (s.updInput m fun x =>
    { x with fill := .aligning, windows := x.windows.map fun w => if w.state = .filling then Window.empty else w })

/-- R13: the loss timer of a RUNNING stream expires: the row goes LOST with its counter, last values and gap count
gone and its four counts kept, STREAM_LOST is written, and every input it maps that is not UNMAPPED is broken off, in
the order of the channel map, which is the model's choice (notes/assumptions/14.md); for a stream that is not RUNNING
nothing happens. -/
def Obligations.LossTimerExpiry : Prop :=
  ∀ (i : Fin 16) (s : State), Ready s →
    (s.acceptance.streams[i].status = .running →
      exec (.lossTimerExpiry i) s = .next (noteChange (s.dropMail (.lossTimerExpiry i))
        (((streamHeld i s).row.map.toList.filterMap id).foldl
          (fun u m => if u.acceptance.inputs[m].fill = .unmapped then u else breakInput m u)
          (logEvent .streamLost (.row (.stream i)) none ((s.dropMail (.lossTimerExpiry i)).updStream i fun x =>
            { x with status := .lost, loss := none, lastCounter := none, lastValues := Vector.replicate 12 none,
                     gapCount := 0 }))))) ∧
    (s.acceptance.streams[i].status ≠ .running → exec (.lossTimerExpiry i) s = .next (s.dropMail (.lossTimerExpiry i)))

/-- R15: where a received value goes. In ALIGNING, at a multiple of 64, it opens the lowest-numbered FREE window
(which of two is the model's choice, notes/assumptions/12.md) or, with none FREE, is skipped with an overrun; at any
other counter it is not stored. A filled value does nothing in ALIGNING, and no value of an UNMAPPED input does
anything. In COLLECTING a received or filled value is handed to capture and written into the FILLING window at its
counter's distance from the window start; R17: a DOUBTFUL or a filled one makes the window DOUBTFUL. R16: position 63
completes the window; the window boundary, by the state of the input's other window; a QUEUED one that is discarded ends
its part in a pending notice (R22). -/
def Obligations.ValuesAndWindows : Prop :=
  (∀ (m : Fin 38) (c : Nat) (v : Int) (d : Bool) (s : State),
     (s.acceptance.inputs[m].fill = .unmapped → placeReceived m c v d s = s ∧ placeFilled m c v s = s) ∧
     (s.acceptance.inputs[m].fill = .aligning →
       placeFilled m c v s = s ∧
       (c % 64 ≠ 0 → placeReceived m c v d s = handSample m v c false s) ∧
       (c % 64 = 0 → ∀ w : Fin 2, (s.window m w).state = .free → (∀ w', w' < w → (s.window m w').state ≠ .free) →
         placeReceived m c v d s = (handSample m v c false s).updInput m fun x =>
           { x with
             fill := .collecting
             windows := x.windows.set w
               { state := .filling, start := c, mark := if d then .doubtful else .good, values := [v] } }) ∧
       (c % 64 = 0 → (∀ w : Fin 2, (s.window m w).state ≠ .free) →
         placeReceived m c v d s = (handSample m v c false s).updInput m fun x =>
           { x with overruns := (x.overruns + 1) % 65536 })) ∧
     (s.acceptance.inputs[m].fill = .collecting →
       ∀ w : Fin 2, (s.window m w).state = .filling → (∀ w', w' < w → (s.window m w').state ≠ .filling) →
         placeReceived m c v d s = storeValue m c v d w (handSample m v c false s) ∧
         placeFilled m c v s = storeValue m c v true w (handSample m v c true s))) ∧
  (∀ (m : Fin 38) (c : Nat) (v : Int) (d : Bool) (w : Fin 2) (s : State),
     let x := s.window m w
     let p := (c + 65536 - x.start) % 65536
     let put : Window := { x with values := x.values.take p ++ [v], mark := if d then .doubtful else x.mark }
     let written := s.updInput m fun y => { y with windows := y.windows.set w put }
     (p ≠ 63 → storeValue m c v d w s = written) ∧ (p = 63 → storeValue m c v d w s = windowBoundary m w written)) ∧
  (∀ (m : Fin 38) (w : Fin 2) (s : State),
     let o : Fin 2 := if w = 0 then 1 else 0
     let done : Window := { s.window m w with state := .queued }
     let opened : Window :=
       { state := .filling, start := ((s.window m w).start + 64) % 65536, mark := .good, values := [] }
     ((s.window m o).state = .free →
       windowBoundary m w s = enqueueWindow m (s.updInput m fun x =>
         { x with windows := (x.windows.set w done).set o opened })) ∧
     ((s.window m o).state = .queued → s.engine.notices[m] = none →
       windowBoundary m w s = s.updInput m fun x =>
         { x with windows := (x.windows.set w done).set o opened, overruns := (x.overruns + 1) % 65536 }) ∧
     ((s.window m o).state = .queued → s.engine.notices[m] ≠ none →
       windowBoundary m w s = endWait m o (s.updInput m fun x =>
         { x with windows := (x.windows.set w done).set o opened, overruns := (x.overruns + 1) % 65536 })) ∧
     (∀ b, (s.window m o).state = .computing b →
       windowBoundary m w s = enqueueWindow m (s.updInput m fun x =>
         { x with windows := x.windows.set w done, fill := .aligning })))

/-! ## Chapter 02 -/

/-- R19, R20: a complete window joins the tail of the queue; an engine at work leaves it there, and an idle engine
with an empty queue takes it at once. R20, R21, R31: the computation in progress ends. Its window's storage becomes
FREE; the result is published unless the window has been withdrawn; the window ends its part in a pending notice; the
engine takes the head of the queue, its window becoming COMPUTING and the others staying in their order; with an empty queue
it stays idle. With no computation in progress nothing happens. That the nominal is read when the
computation ends is the model's choice (notes/assumptions/4.md; R27 names the moment after the RMS values). R15, R16, R19
to R22: every step keeps the windows, the queue, the computation and the pending notices of all inputs in agreement. -/
def Obligations.EngineQueue : Prop :=
  (∀ (m : Fin 38) (s : State),
     (s.engine.computing ≠ none → enqueueWindow m s = { s with engine := { s.engine with queue := s.engine.queue ++ [m] } }) ∧
     (s.engine.computing = none → s.engine.queue = [] → ∀ w : Fin 2, (s.window m w).state = .queued →
       (∀ w', w' < w → (s.window m w').state ≠ .queued) →
       enqueueWindow m s =
         { s with
           engine := { s.engine with computing := some (m, w) }
           acceptance := { s.acceptance with inputs := upd s.acceptance.inputs m fun x =>
             { x with windows := x.windows.set w { s.window m w with state := .computing false } } } })) ∧
  (∀ s : State,
     (s.engine.computing ≠ none ∨ s.engine.queue = [] → engineTake s = s) ∧
     (s.engine.computing = none → ∀ m rest, s.engine.queue = m :: rest →
       (∀ w : Fin 2, (s.window m w).state = .queued → (∀ w', w' < w → (s.window m w').state ≠ .queued) →
         engineTake s =
           { s with
             engine := { s.engine with queue := rest, computing := some (m, w) }
             acceptance := { s.acceptance with inputs := upd s.acceptance.inputs m fun x =>
               { x with windows := x.windows.set w { s.window m w with state := .computing false } } } }) ∧
       ((∀ w : Fin 2, (s.window m w).state ≠ .queued) →
         engineTake s = { s with engine := { s.engine with queue := rest } }))) ∧
  (∀ s : State, Ready s →
     (∀ m w, s.engine.computing = some (m, w) →
       exec .computationEnd s = .next (noteChange (s.dropMail .computationEnd) (engineTake (endWait m w
         (let u := ({ s.dropMail .computationEnd with engine := { s.engine with computing := none } }).updInput m fun x =>
             { x with windows := x.windows.set w Window.empty }
          if (s.window m w).state = .computing true then u
          else publish m (computeRecord (s.window m w) s.memory.tables.input[m].row.nominal s.engine.results[m]) u))))) ∧
     (s.engine.computing = none → exec .computationEnd s = .next (s.dropMail .computationEnd))) ∧
  ∀ s t : State, EngineOk s → step s = .next t → EngineOk t

/-- R31: a publication replaces one record whole; no other record and nothing else of the engine changes, whatever the
consumers do. The consumers act on it by the input: the harmonic supervisor on MI 0 to 5, whose elements move on an
evaluable record (R43), with the held figures, the block conditions and the next-count status of a bus phase (R47, R50)
and the sustain counts and the detuning of MI 0 (R51, R52), switching control on MI 0 (R115), unbalance protection on a
step's neutral input (R58), the duty monitor on its phase-A input (R77); a change of the yard summary is marked (R171).
R22, R32: a notice handed for an input waits for its windows that stand QUEUED or COMPUTING, and for those that a pending
one waits for, as one notice; with none it is published at once, as a record that keeps the old values; so it is when the
last of them ends its part. The model's choices: the harmonic supervisor acts before switching control on MI 0, and so stand
their events and messages (notes/assumptions/13.md), a COMPUTING window already withdrawn is not waited for
(notes/assumptions/48.md), and a change is marked at each publication (notes/assumptions/55.md). -/
def Obligations.PublicationAndNotice : Prop :=
  (∀ (m : Fin 38) (r : ResultRecord) (s : State),
     (publish m r s).engine = { s.engine with results := s.engine.results.set m r }) ∧
  (∀ (m : Fin 38) (r : ResultRecord) (s : State),
     let u : State := { s with engine := { s.engine with results := s.engine.results.set m r } }
     let told (v : State) : State :=
       if v.link.destination ≠ 0 ∧ yardSummary s ≠ yardSummary v then
         { v with events := { v.events with changePending := true } } else v
     let good : Bool := decide (r.quality ≠ .invalid) && !r.lowFundamental
     let moved (k : Fin 6) : State := if good then (List.finRange 15).foldl (moveElement k r) u else u
     let formed (k : Fin 3) : State :=
       let v := moved ⟨k.val, by omega⟩
       if good then (List.finRange 15).foldl reformBlock { v with harmonic := { v.harmonic with
         held := v.harmonic.held.set k (some { ratios := r.ratios, thd := r.thd }) } }
       else v
     (m.val = 0 → publish m r s = told (controlEvaluation
       (let v := reformNextCount (if good then updateSustain (formed 0) else formed 0)
        if detuneDue v = true then hand .detuneRequest v else v))) ∧
     (∀ k : Fin 3, k.val = m.val → k.val ≠ 0 → publish m r s = told (reformNextCount (formed k))) ∧
     (∀ k : Fin 6, k.val = m.val → 3 ≤ k.val → publish m r s = told (moved k)) ∧
     ∀ i : Fin 8,
       (m = stepInput i 0 → publish m r s = told (heatUpdate i u)) ∧
       (m = stepInput i 1 ∨ m = stepInput i 2 → publish m r s = told u) ∧
       (m = stepInput i 3 → publish m r s = told (unbalanceEvaluate i u))) ∧
  (∀ s : State,
     let n := s.energisedCount + 1
     let u : State := { s with harmonic := { s.harmonic with nextCount := n, nextBlocked := countBlocked n s } }
     reformNextCount s =
       if s.harmonic.nextBlocked = false ∧ countBlocked n s = true then logEvent .resonanceBlockOn .none (some n) u
       else if s.harmonic.nextBlocked = true ∧ countBlocked n s = false then
         logEvent .resonanceBlockOff .none (some n) u
       else u) ∧
  (∀ (m : Fin 38) (s : State),
     let ahead (w : Fin 2) : Prop := (s.window m w).state = .queued ∨ (s.window m w).state = .computing false
     let waits (w : Fin 2) : Prop := (∃ held, s.engine.notices[m] = some held ∧ held[w] = true) ∨ ahead w
     ((∀ w, ¬ waits w) →
       handNotice m s = publish m
         { s.engine.results[m] with
           sequence := (s.engine.results[m].sequence + 1) % 65536, quality := .invalid, age := 0 }
         { s with engine := { s.engine with notices := s.engine.notices.set m none } }) ∧
     ∀ v : Vector Bool 2, (∃ w, waits w) → (∀ w : Fin 2, v[w] = true ↔ waits w) →
       handNotice m s = { s with engine := { s.engine with notices := s.engine.notices.set m (some v) } }) ∧
  (∀ (m : Fin 38) (w : Fin 2) (s : State),
     (s.engine.notices[m] = none → endWait m w s = s) ∧
     ∀ v : Vector Bool 2, s.engine.notices[m] = some v →
       ((∃ w', w' ≠ w ∧ v[w'] = true) → endWait m w s =
         { s with engine := { s.engine with notices := s.engine.notices.set m (some (v.set w false)) } }) ∧
       ((∀ w', w' ≠ w → v[w'] = false) → endWait m w s = publish m
         { s.engine.results[m] with
           sequence := (s.engine.results[m].sequence + 1) % 65536, quality := .invalid, age := 0 }
         { s with engine := { s.engine with notices := s.engine.notices.set m none } })) ∧
  (∀ (m : Fin 38) (s : State), s.engine.notices[m] = none →
     ((∀ w : Fin 2, (s.window m w).state ≠ .queued ∧ (s.window m w).state ≠ .computing false) →
       handNotice m s = publish m
         { s.engine.results[m] with
           sequence := (s.engine.results[m].sequence + 1) % 65536, quality := .invalid, age := 0 } s) ∧
     ((∃ w : Fin 2, (s.window m w).state = .queued ∨ (s.window m w).state = .computing false) →
       ∃ waits : Vector Bool 2,
         (∀ w : Fin 2, waits[w] = true ↔ ((s.window m w).state = .queued ∨ (s.window m w).state = .computing false)) ∧
         handNotice m s = { s with engine := { s.engine with notices := s.engine.notices.set m (some waits) } }))

/-- The integer square root is the greatest integer whose square does not exceed its argument. R23: a window of 64
equal samples gives Re_h = Im_h = 0 for every order 1 to 15. R24 to R26: over every window of 64 signed 24-bit samples
and every order 1 to 15 the sums lie within 2^23 × 667,004, the RMS value within 10,671,855, and a phasor component
within 7,546,134. -/
def Obligations.EngineArithmetic : Prop :=
  (∀ n : Nat, isqrt n * isqrt n ≤ n ∧ n < (isqrt n + 1) * (isqrt n + 1)) ∧
  (∀ (x : Int) (h : Nat), 1 ≤ h → h ≤ 15 →
     dftRe (List.replicate 64 x) h = 0 ∧ dftIm (List.replicate 64 x) h = 0) ∧
  (∀ (xs : List Int) (h : Nat), xs.length = 64 → (∀ x ∈ xs, x.natAbs ≤ 8388608) → 1 ≤ h → h ≤ 15 →
     (dftRe xs h).natAbs ≤ 8388608 * 667004 ∧ (dftIm xs h).natAbs ≤ 8388608 * 667004 ∧
     rmsOf (magnitude (dftRe xs h) (dftIm xs h)) ≤ 10671855 ∧
     (phasorOf (dftRe xs h)).natAbs ≤ 7546134 ∧ (phasorOf (dftIm xs h)).natAbs ≤ 7546134)

/-- R28: a ratio is floor(RMS_h × 10,000 / RMS_1), saturated at 65,535, and saturates only when its order's RMS value
is at least 6.5535 times the fundamental; a record holds one ratio for each of the orders 2 to 15 while its mark is
clear. -/
def Obligations.HarmonicRatios : Prop :=
  ∀ (w : Window) (nominal : Nat) (old : ResultRecord), (computeRecord w nominal old).lowFundamental = false →
    ∀ h : Fin 14,
      (computeRecord w nominal old).ratios[h] =
        min 65535 ((computeRecord w nominal old).rms[h.val + 1] * 10000 / (computeRecord w nominal old).rms[0]) ∧
      (65535 ≤ (computeRecord w nominal old).ratios[h] →
        65535 * (computeRecord w nominal old).rms[0] ≤ 10000 * (computeRecord w nominal old).rms[h.val + 1])

/-- R25 to R27, R29 to R31: the fields of a computed record. -/
def Obligations.ComputedRecord : Prop :=
  ∀ (w : Window) (nominal : Nat) (old : ResultRecord),
    let r := computeRecord w nominal old
    r.sequence = (old.sequence + 1) % 65536 ∧ r.start = w.start ∧ r.age = 0 ∧
    r.quality = (match w.mark with | .good => .good | .doubtful => .doubtful) ∧
    (r.lowFundamental = true ↔ r.rms[0] < nominal / 16 ∨ r.rms[0] = 0) ∧
    (∀ h : Fin 15, r.rms[h] =
      isqrt ((dftRe w.values (h.val + 1)).natAbs ^ 2 + (dftIm w.values (h.val + 1)).natAbs ^ 2) * 23170 / 17179869184) ∧
    r.r1 = (dftRe w.values 1 * 23170).tdiv 17179869184 ∧ r.i1 = (dftIm w.values 1 * 23170).tdiv 17179869184 ∧
    (r.lowFundamental = true → r.thd = 0 ∧ ∀ h : Fin 14, r.ratios[h] = 0) ∧
    (r.lowFundamental = false → r.thd =
      min 65535 (isqrt ((List.finRange 14).map fun h => r.rms[h.val + 1] ^ 2).sum * 10000 / r.rms[0]))

/-- R33: a tick of the age clock raises the age of all 38 live records by one, saturating at 65,535, leaves the hold
copy, and takes the Yard Table's frequency for the next interval: 20 ms at 50 Hz, 17, 17 and 16 ms in turn at 60 Hz;
the place in that turn at which a change of frequency starts is the model's choice (notes/assumptions/37.md). R36: the
hold timer runs out. -/
def Obligations.AgeTickAndHoldExpiry : Prop :=
  (∀ s : State, Ready s →
    exec .ageClockTick s = .next (noteChange (s.dropMail .ageClockTick)
      { s.dropMail .ageClockTick with
        engine := { s.engine with
          results := s.engine.results.map fun r => { r with age := min 65535 (r.age + 1) }
          ageFrequency := if s.yardDamaged then s.engine.ageFrequency else s.yard.frequency
          ageLeft :=
            if (if s.yardDamaged then s.engine.ageFrequency else s.yard.frequency) = 60 then
              (if s.engine.agePhase = 2 then 16 else 17) else 20
          agePhase :=
            if (if s.yardDamaged then s.engine.ageFrequency else s.yard.frequency) = 60 then s.engine.agePhase + 1
            else 0 } })) ∧
  ∀ s : State, Ready s →
    exec .holdTimerExpiry s = .next (noteChange (s.dropMail .holdTimerExpiry)
      { s.dropMail .holdTimerExpiry with engine := { s.engine with hold := none } })

/-! ## Chapter 03 -/

/-- R44: an existing element moves by its state and by whether its value is at or above its row's alarm level, with
the event of an ON or OFF reached; a pickup delay of p brings it from OFF to ON at the p-th consecutive result at or
above the level, and a dropout delay of q from ON to OFF at the q-th consecutive result below it. -/
def Obligations.AlarmElementMoves : Prop :=
  (∀ (k : Fin 6) (i : Fin 15) (record : ResultRecord) (s : State) (e : Element),
    s.harmonic.elements[k][i] = some e →
    let row := s.memory.tables.harmonic[i].row
    let above : Bool := row.alarmLevel ≤ limitValue record.ratios record.thd i
    let e' : Element :=
      match e, above with
      | .off, false => .off
      | .off, true => if row.pickup ≤ 1 then .on else .picking 1
      | .picking c, true => if row.pickup ≤ c + 1 then .on else .picking (c + 1)
      | .picking _, false => .off
      | .on, true => .on
      | .on, false => if row.dropout ≤ 1 then .off else .dropping 1
      | .dropping c, false => if row.dropout ≤ c + 1 then .off else .dropping (c + 1)
      | .dropping _, true => .on
    let subject : Subject := .input ⟨k.val, by omega⟩
    let order : Nat := if i.val = 14 then 0 else i.val + 2
    moveElement k record s i =
      if !e.standing && e'.standing then
        logEvent .harmonicAlarmOn subject (some order) (setElement k i (some e') s)
      else if e.standing && !e'.standing then
        logEvent .harmonicAlarmOff subject (some order) (setElement k i (some e') s)
      else setElement k i (some e') s) ∧
  (∀ p q n : Nat, 1 ≤ n → n ≤ p → (Element.move true p q)^[n] .off = if n = p then .on else .picking n) ∧
  ∀ p q n : Nat, 1 ≤ n → n ≤ q → (Element.move false p q)^[n] .on = if n = q then .off else .dropping n

/-- R48: a block condition re-formed is SET when the held figure of at least one bus phase reaches the row's block
level. R49: a count is blocked by damage of its row, by a listed order whose condition is SET or taken as SET, or by
the THD condition when it lists an order; the count 9 never is. R51, R52: the sustain counts at an evaluable record of
MI 0, and when a detuning open is asked for. -/
def Obligations.HarmonicAnswers : Prop :=
  ((∀ (i : Fin 15) (s : State), s.memory.tables.harmonic[i].damaged = false →
     ((reformBlock s i).harmonic.block[i] = true ↔
       ∃ (ph : Fin 3) (x : HeldRatios), s.harmonic.held[ph] = some x ∧
         s.memory.tables.harmonic[i].row.blockLevel ≤ limitValue x.ratios x.thd i) ∧
     ∀ j : Fin 15, j ≠ i → (reformBlock s i).harmonic.block[j] = s.harmonic.block[j]) ∧
   (∀ s : State, countBlocked 9 s = false) ∧
   ∀ (c : Fin 9) (s : State),
     countBlocked c.val s = true ↔
       s.memory.tables.resonance[c].damaged = true ∨
       (∃ (o : Fin 14), (o.val + 2) ∈ s.memory.tables.resonance[c].row.orders ∧
         (s.memory.tables.harmonic[o.val].damaged = true ∨ s.harmonic.block[o.val] = true)) ∨
       (s.memory.tables.resonance[c].row.orders ≠ [] ∧
         (s.memory.tables.harmonic[14].damaged = true ∨ s.harmonic.block[14] = true))) ∧
  ((∀ (o : Fin 14) (s : State),
     (updateSustain s).harmonic.sustain[o] =
       if s.harmonic.block[o.val] = true ∧ s.memory.tables.harmonic[o.val].damaged = false then
         min 600 (s.harmonic.sustain[o] + 1)
       else 0) ∧
   ∀ s : State, ∀ n : Fin 9, n.val = s.inCount →
     (detuneDue s = true ↔
       1 ≤ n.val ∧ s.memory.tables.resonance[n].damaged = false ∧
       (∃ o : Fin 14, (o.val + 2) ∈ s.memory.tables.resonance[n].row.orders ∧
         s.memory.tables.harmonic[o.val].damaged = false ∧
         s.memory.tables.harmonic[o.val].row.pickup ≤ s.harmonic.sustain[o]) ∧
       (s.switching.control = .autoWatch ∨ s.switching.control = .autoHigh ∨ s.switching.control = .autoLow)))

/-- R50, R51: the harmonic supervisor takes a step report. A step entering or leaving IN that brings the in-service
count to another value than the count seen restarts every sustain count. Where the step enters or leaves IN or CLOSING, the
next-count status is evaluated again, and a change of its answer writes its event with the count. A report of any other
transition leaves the rest of the state as it was. -/
def Obligations.HarmonicStepReport : Prop :=
  ∀ (r : StepReport) (s : State), Ready s →
    let s₀ := s.dropMail (.harmonicStepReport r)
    let u : State :=
      if (r.old = .inService ∨ r.new = .inService) ∧ s.inCount ≠ s.harmonic.countSeen then
        { s₀ with harmonic := { s.harmonic with sustain := Vector.replicate 14 0, countSeen := s.inCount } }
      else s₀
    let n := s.energisedCount + 1
    let v : State := { u with harmonic := { u.harmonic with nextCount := n, nextBlocked := countBlocked n u } }
    ((r.old = .inService ∨ r.old = .closing ∨ r.new = .inService ∨ r.new = .closing) →
      exec (.harmonicStepReport r) s = .next (noteChange s₀
        (if s.harmonic.nextBlocked = false ∧ countBlocked n u = true then logEvent .resonanceBlockOn .none (some n) v
         else if s.harmonic.nextBlocked = true ∧ countBlocked n u = false then
           logEvent .resonanceBlockOff .none (some n) v
         else v))) ∧
    (¬ (r.old = .inService ∨ r.old = .closing ∨ r.new = .inService ∨ r.new = .closing) →
      exec (.harmonicStepReport r) s = .next s₀)

/-! ## Chapter 04 -/

/-- R60: how a stage moves its counter, the reset thresholds of the default levels and of the levels 1 to 16, and that
the alarm stage uses the alarm level and the trip stage the trip level. -/
def Obligations.StageCounters : Prop :=
  (∀ u level count : Nat,
    (level ≤ u → stageCounter .good u level count = min 3000 (count + 1)) ∧
    (level * 15 / 16 ≤ u → u < level → stageCounter .good u level count = count) ∧
    (u < level * 15 / 16 → stageCounter .good u level count = 0) ∧
    stageCounter .doubtful u level count = count ∧ stageCounter .invalid u level count = 0) ∧
  resetThreshold 200 = 187 ∧ resetThreshold 500 = 468 ∧
  (∀ level, 1 ≤ level → level ≤ 16 → resetThreshold level = level - 1) ∧
  ∀ (i : Fin 8) (row : StepRow) (q : Quality) (u : Nat) (s : State),
    (alarmStage i row q u s).unbalance.steps[i].alarmCount =
      stageCounter q u row.alarmLevel s.unbalance.steps[i].alarmCount ∧
    (tripStage i row q u s).unbalance.steps[i].tripCount =
      stageCounter q u row.tripLevel s.unbalance.steps[i].tripCount

/-- R58, R59, R61 to R63: what an evaluation of a step leaves. The compensated unbalance is that of R59, a stage
operates at a GOOD record whose counter has advanced to its delay, and an operating trip stage hands the trip request,
the capture trigger and the lockout notice once; the events of the input-invalid status, the alarm and the trip are
written in this order. R68 to R70: a null capture of the step is abandoned by a trip or an INVALID record, keeps a
DOUBTFUL one out, and sums a GOOD one, the 32nd of which ends it. Without an evaluation nothing changes. -/
def Obligations.UnbalanceEvaluation : Prop :=
  ∀ (i : Fin 8) (s : State),
    let row := s.stepRow i
    let record := s.engine.results[stepInput i 3]
    let x := s.unbalance.steps[i]
    let kr : Int := if row.compMode = .none then 0 else row.kr
    let ki : Int := if row.compMode = .none then 0 else row.ki
    let u := isqrt ((record.r1 - kr).natAbs ^ 2 + (record.i1 - ki).natAbs ^ 2)
    let alarms : Bool := record.quality = .good && row.alarmLevel ≤ u &&
      row.alarmDelay ≤ stageCounter .good u row.alarmLevel x.alarmCount
    let trips : Bool := record.quality = .good && row.tripLevel ≤ u &&
      row.tripDelay ≤ stageCounter .good u row.tripLevel x.tripCount && !x.tripOperated
    let t := unbalanceEvaluate i s
    (¬ (s.stepState i = .inService ∧ row.neutralPresent = true ∧ s.stepDamaged i = false) → t = s) ∧
    ((s.stepState i = .inService ∧ row.neutralPresent = true ∧ s.stepDamaged i = false) →
      t.unbalance.steps[i] =
        { alarmCount := stageCounter record.quality u row.alarmLevel x.alarmCount
          tripCount := stageCounter record.quality u row.tripLevel x.tripCount
          alarm := alarms || (x.alarm && !(record.quality = .good && u < row.alarmLevel * 15 / 16))
          tripOperated := trips || x.tripOperated
          inputInvalid := record.quality = .invalid
          lastU := if record.quality = .invalid then x.lastU else some u } ∧
      (∀ j, j ≠ i → t.unbalance.steps[j] = s.unbalance.steps[j]) ∧
      t.mail = s.mail ++ (if trips then
        [.commandRequest { unit := stepUnit i, kind := .opn, cls := .trip, cause := .unbalance },
         .captureTrigger .unbalanceTrip (some i), .unbalanceLockoutNotice i] else []) ∧
      SameBut [.unbalance, .mail, .memory, .eventList] s t ∧
      let invalid : State := if record.quality = .invalid ∧ x.inputInvalid = false then
        logEvent .unbalanceInputInvalid (.step i) none s else s
      let alarmed : State :=
        if alarms = true ∧ x.alarm = false then logEvent .unbalanceAlarm (.step i) (some u) invalid
        else if record.quality = .good ∧ u < row.alarmLevel * 15 / 16 ∧ x.alarm = true then
          logEvent .unbalanceAlarmClear (.step i) (some u) invalid
        else invalid
      let e : State := if trips then logEvent .unbalanceTrip (.step i) (some u) alarmed else alarmed
      let left (context : Option NullContext) (memory : MemoryState) (told : State) : Prop :=
        t.unbalance.context = context ∧ t.memory = memory ∧ t.events = told.events
      ((∀ c, s.unbalance.context = some c → c.step ≠ i) → left s.unbalance.context s.memory e) ∧
      ∀ c, s.unbalance.context = some c → c.step = i →
        let sumR := c.sumR + record.r1
        let sumI := c.sumI + record.i1
        let mr := sumR.tdiv 32
        let mi := sumI.tdiv 32
        let ok : Prop := mr.natAbs ≤ 100000 ∧ mi.natAbs ≤ 100000
        (trips = true ∨ record.quality = .invalid →
          left none s.memory (logEvent .nullAborted (.step i) (some c.counted) e)) ∧
        (record.quality = .doubtful → left (some c) s.memory e) ∧
        (record.quality = .good → trips = false →
          (c.counted < 31 →
            left (some { step := i, counted := c.counted + 1, sumR := sumR, sumI := sumI }) s.memory e) ∧
          (31 ≤ c.counted → ok → left none
            { s.memory with tables := { s.memory.tables with
                step := s.memory.tables.step.set i (Held.fresh { row with kr := mr, ki := mi, compMode := .auto }) } }
            (logEvent .nullDone (.step i) (some (isqrt (mr.natAbs ^ 2 + mi.natAbs ^ 2))) e)) ∧
          (31 ≤ c.counted → ¬ ok → left none s.memory (logEvent .nullAborted (.step i) (some 32) e))))

/-- R68, R69: the 32nd GOOD record offered to a null capture ends it: the means are written into the row with mode
AUTO and fresh check bits when both lie within 100,000 mA, and the row is left otherwise. R65: a step leaving IN loses
its unbalance state, a standing alarm with its event, and a null capture that serves it; a step entering IN has its
input-invalid status SET, with the event if it was CLEAR (R63), when its neutral input's latest record is INVALID; any other
change of state does nothing here. The model's choices: a step entering IN starts with what its departure left, and what an
evaluation between the entry and its report has made of it stands (R61, R62; notes/assumptions/49.md), and the neutral input
present flag of the row is taken as the row holds it, also while the row is DAMAGED (notes/assumptions/62.md). -/
def Obligations.NullCaptureAndStepReport : Prop :=
  (∀ (i : Fin 8) (c : NullContext) (record : ResultRecord) (s : State),
     s.unbalance.context = some c → c.step = i → c.counted = 31 → record.quality = .good →
     let kr := (c.sumR + record.r1).tdiv 32
     let ki := (c.sumI + record.i1).tdiv 32
     let idle : State := { s with unbalance := { s.unbalance with context := none } }
     (kr.natAbs ≤ 100000 ∧ ki.natAbs ≤ 100000 →
       offerNull i record s = logEvent .nullDone (.step i) (some (isqrt (kr.natAbs ^ 2 + ki.natAbs ^ 2)))
         (idle.putTables { s.memory.tables with
           step := s.memory.tables.step.set i
             (Held.fresh { s.stepRow i with kr := kr, ki := ki, compMode := .auto }) })) ∧
     (¬ (kr.natAbs ≤ 100000 ∧ ki.natAbs ≤ 100000) →
       offerNull i record s = logEvent .nullAborted (.step i) (some 32) idle)) ∧
  (∀ (r : StepReport) (s : State), Ready s →
     let i := r.step
     let s₀ := s.dropMail (.unbalanceStepReport r)
     let fresh : UnbalanceLive :=
       { alarmCount := 0, tripCount := 0, alarm := false, tripOperated := false, inputInvalid := false, lastU := none }
     let u := s₀.updUnbalance i fun _ => fresh
     (r.old = .inService → r.new ≠ .inService →
       exec (.unbalanceStepReport r) s = .next (noteChange s₀ (abandonNull i
         (if s.unbalance.steps[i].alarm then logEvent .unbalanceAlarmClear (.step i) none u else u)))) ∧
     (r.old ≠ .inService → r.new = .inService →
       ((s.stepRow i).neutralPresent = true → s.engine.results[stepInput i 3].quality = .invalid →
         s.unbalance.steps[i].inputInvalid = false → exec (.unbalanceStepReport r) s = .next (noteChange s₀
           (logEvent .unbalanceInputInvalid (.step i) none (s₀.updUnbalance i fun x => { x with inputInvalid := true })))) ∧
       ((s.stepRow i).neutralPresent = false ∨ s.engine.results[stepInput i 3].quality ≠ .invalid ∨
         s.unbalance.steps[i].inputInvalid = true → exec (.unbalanceStepReport r) s = .next s₀)) ∧
     ((r.old = .inService ↔ r.new = .inService) → exec (.unbalanceStepReport r) s = .next s₀))

/-! ## Chapter 05 -/

/-- R79: an update leaves H between its old value and P; it stops exactly within 2^k − 1 of P, and under a steady P it
comes to rest there, below P when it rose and above P when it fell. -/
def Obligations.HeatApproach : Prop :=
  ∀ h p k : Nat,
    min h p ≤ heatToward h p k ∧ heatToward h p k ≤ max h p ∧
    (heatToward h p k = h ↔ ((p : Int) - h).natAbs < 2 ^ k) ∧
    ∃ n r, (fun x => heatToward x p k)^[n] h = r ∧ ((p : Int) - r).natAbs < 2 ^ k ∧ (h ≤ p → r ≤ p) ∧ (p ≤ h → p ≤ r)

/-- R77, R80, R81: the heat update of a step at a publication of its phase-A input: the figures, the events of the alarm
and the trip in this order, and the end of a null capture of the step that trips (R70). Without one (the step in COOLDOWN
mode, or its row DAMAGED) nothing changes. -/
def Obligations.HeatUpdate : Prop :=
  ∀ (i : Fin 8) (s : State),
    let row := s.stepRow i
    let d := s.duty.steps[i]
    let e (r : ResultRecord) : Nat := (r.rms.toList.map fun x => x * x).sum
    let rs := (phaseRecords i s).filter fun r => r.quality ≠ .invalid
    let l := min 4095 (isqrt ((rs.map e).foldl max 0) * 1024 / row.rated)
    let p := if rs = [] then d.lastP else l * l
    let h := heatToward d.heat p row.thermalCode
    let trips : Bool := row.heatTrip ≤ h && (phaseRecords i s).all (fun r => r.quality = .good) &&
      (s.stepState i = .inService || s.stepState i = .closing || s.stepState i = .opening) && !d.heatTripOperated
    let t := heatUpdate i s
    (¬ (d.mode = .service ∧ s.stepDamaged i = false) → t = s) ∧
    (d.mode = .service ∧ s.stepDamaged i = false →
      t.duty.steps[i] =
        { d with
          heat := h, lastP := p
          heatAlarm := if row.heatAlarm ≤ h ∧ d.heatAlarm = false then true
            else if h ≤ row.heatReclose then false else d.heatAlarm
          heatTripOperated := trips || d.heatTripOperated } ∧
      (∀ j, j ≠ i → t.duty.steps[j] = s.duty.steps[j]) ∧
      t.mail = s.mail ++ (if trips then
        [.commandRequest { unit := stepUnit i, kind := .opn, cls := .trip, cause := .overheat },
         .captureTrigger .heatTrip (some i)] else []) ∧
      SameBut [.duty, .mail, .unbalance, .eventList] s t ∧
      let alarmed : State :=
        if row.heatAlarm ≤ h ∧ d.heatAlarm = false then logEvent .heatAlarm (.step i) (some h) s
        else if h ≤ row.heatReclose ∧ d.heatAlarm = true then logEvent .heatAlarmClear (.step i) (some h) s
        else s
      let e : State := if trips then logEvent .heatTrip (.step i) (some h) alarmed else alarmed
      (trips = false ∨ (∀ c, s.unbalance.context = some c → c.step ≠ i) →
        t.unbalance = s.unbalance ∧ t.events = e.events) ∧
      ∀ c, trips = true → s.unbalance.context = some c → c.step = i →
        t.unbalance = { s.unbalance with context := none } ∧
          t.events = (logEvent .nullAborted (.step i) (some c.counted) e).events)

/-- R78, R80: a tick of the seconds clock updates every step in COOLDOWN mode whose row is not DAMAGED, and no other, and the
heat alarm of each is raised or cleared with its event, whose value is the heat. That the events stand in the order of the
steps is the model's choice (notes/assumptions/14.md). -/
def Obligations.SecondsTick : Prop :=
  ∀ s : State, Ready s →
    let s₀ := s.dropMail .secondsClockTick
    let heat (i : Fin 8) : Nat := s.duty.steps[i].heat - s.duty.steps[i].heat / 2 ^ ((s.stepRow i).thermalCode - 6)
    let cools (i : Fin 8) : Prop := s.duty.steps[i].mode = .cooldown ∧ s.stepDamaged i = false
    let raises (i : Fin 8) : Prop := (s.stepRow i).heatAlarm ≤ heat i ∧ s.duty.steps[i].heatAlarm = false
    let clears (i : Fin 8) : Prop := heat i ≤ (s.stepRow i).heatReclose ∧ s.duty.steps[i].heatAlarm = true
    ∃ t, exec .secondsClockTick s = .next (noteChange s₀ t) ∧ t.duty.secondsLeft = 1000 ∧
      (∀ i : Fin 8, t.duty.steps[i] =
        if cools i then
          { s.duty.steps[i] with
            heat := heat i
            heatAlarm := if raises i then true else if clears i then false else s.duty.steps[i].heatAlarm }
        else s.duty.steps[i]) ∧
      t.events = (allSteps.foldl (fun u i =>
        if cools i ∧ raises i then logEvent .heatAlarm (.step i) (some (heat i)) u
        else if cools i ∧ clears i then logEvent .heatAlarmClear (.step i) (some (heat i)) u
        else u) s₀).events ∧
      SameBut [.duty, .eventList] s₀ t

/-- R76, R83, R85: the timers of a step and its heat mode. A RUNNING discharge timer that runs out stops and reports
that the step has discharged; a RUNNING decay timer that runs out lowers a count above 0 by one, starts again while
the count is above 0, and the duty bar is re-formed; a report of a change of state sets the heat mode, and an entry to
COOLDOWN mode clears last P and the heat trip operated mark, while the step's row is DAMAGED too, which is the model's choice
(notes/assumptions/50.md). -/
def Obligations.StepTimersAndHeatMode : Prop :=
  (∀ (i : Fin 8) (s : State), Ready s →
    let s₀ := s.dropMail (.dischargeTimerExpiry i)
    (s.duty.steps[i].discharge ≠ none → exec (.dischargeTimerExpiry i) s = .next (noteChange s₀
      (hand (.dischargedReport i) (s₀.updDuty i fun d => { d with discharge := none })))) ∧
    (s.duty.steps[i].discharge = none → exec (.dischargeTimerExpiry i) s = .next s₀)) ∧
  (∀ (i : Fin 8) (s : State), Ready s →
    let s₀ := s.dropMail (.decayTimerExpiry i)
    let period := (if s.stepDamaged i then 120 else (s.stepRow i).decayPeriod) * 60000
    (s.duty.steps[i].decay ≠ none → exec (.decayTimerExpiry i) s = .next (noteChange s₀ (reformDutyBar i
      (s₀.updDuty i fun d =>
        { d with operations := d.operations - 1, decay := if 1 < d.operations then some period else none })))) ∧
    (s.duty.steps[i].decay = none → exec (.decayTimerExpiry i) s = .next s₀)) ∧
  ∀ (r : StepReport) (s : State), Ready s →
    exec (.heatModeChange r) s = .next (noteChange (s.dropMail (.heatModeChange r))
      ((s.dropMail (.heatModeChange r)).updDuty r.step fun d =>
        if r.new = .inService ∨ r.new = .closing ∨ r.new = .opening ∨ r.new = .failed then { d with mode := .service }
        else { d with mode := .cooldown, lastP := 0, heatTripOperated := false }))

/-- R84, R86: an operation report raises the operations count, saturating at 15, and starts a STOPPED decay timer when
the count rises; the duty bar is SET at the limit, CLEAR at the base, kept between them and while the row is DAMAGED,
with an event for each change. That a timer so started while the row is DAMAGED takes 120 min is the model's choice
(notes/assumptions/50.md). -/
def Obligations.OperationsAndDutyBar : Prop :=
  ∀ (i : Fin 8) (s : State),
    let row := s.stepRow i
    let d := s.duty.steps[i]
    (s.stepDamaged i = true → reformDutyBar i s = s) ∧
    (s.stepDamaged i = false →
      (row.opsLimit ≤ d.operations → d.dutyBar = false → reformDutyBar i s =
        logEvent .dutyBarSet (.step i) (some d.operations) (s.updDuty i fun x => { x with dutyBar := true })) ∧
      (row.opsLimit ≤ d.operations → d.dutyBar = true → reformDutyBar i s = s) ∧
      (d.operations < row.opsLimit → d.operations ≤ row.opsBase → d.dutyBar = true → reformDutyBar i s =
        logEvent .dutyBarClear (.step i) (some d.operations) (s.updDuty i fun x => { x with dutyBar := false })) ∧
      (d.operations < row.opsLimit → (row.opsBase < d.operations ∨ d.dutyBar = false) → reformDutyBar i s = s)) ∧
    operationReport i s = reformDutyBar i (s.updDuty i fun x =>
      { x with
        operations := min 15 (x.operations + 1)
        decay := if x.decay = none ∧ x.operations < 15 then
            some ((if s.stepDamaged i then 120 else row.decayPeriod) * 60000) else x.decay })

/-! ## Chapter 06 -/

/-- R92, R93: a change of a step's state, in one event: the state and the lists, the operation fields of the state
entered, the event with its cause as the first of the change, and the four reports, which go to four blocks. R102: the lockout
pending goes on an entry to LOCKOUT, WITHDRAWN, COOLING or READY and stays otherwise. R98, R99: both alarms are formed anew, with
their events. Nothing of any other step changes, and no other part. The model's choices: the unsupervised alarm's event stands
before the other's (notes/assumptions/14.md), and the reports, which need no order, wait in that of the mail
(notes/assumptions/40.md). -/
def Obligations.StepChange : Prop :=
  ∀ (i : Fin 8) (new : StepState) (cause : StateCause) (op : Option Operation) (lock : Option LockoutCause) (s : State),
    let x := s.supervisor.steps[i]
    let r : StepReport := { step := i, old := x.state, new := new, cause := cause, slotHeld := x.slotHeld }
    let rests (st : StepState) : Bool := st = .cooling || st = .ready
    let t := changeStep i new cause op lock s
    let y := t.supervisor.steps[i]
    y.state = new ∧ y.lockoutCause = lock ∧ (y.resolutionDue = true ↔ new = .unresolved) ∧
    (∀ o, op = some o → y.opClass = some o.cls ∧ y.opCause = some o.cause ∧ y.slotHeld = o.slotHeld) ∧
    (op = none → y.opClass = none ∧ y.opCause = none ∧ y.slotHeld = false) ∧
    y.lockoutPending =
      (if new = .lockout ∨ new = .withdrawn ∨ new = .cooling ∨ new = .ready then none else x.lockoutPending) ∧
    (y.unsupervised = true ↔ x.unitSupervision = .silent ∧ new ≠ .withdrawn) ∧
    (y.outOfServiceClose = true ↔ (new = .lockout ∨ new = .withdrawn) ∧ x.lastPosition = some .closed) ∧
    y.lastPosition = x.lastPosition ∧ y.settledPosition = x.settledPosition ∧ y.unitSupervision = x.unitSupervision ∧
    (∀ j, j ≠ i → t.supervisor.steps[j] = s.supervisor.steps[j]) ∧
    t.supervisor.openList =
      (if rests new then (if rests x.state then s.supervisor.openList else s.supervisor.openList.erase i ++ [i])
       else s.supervisor.openList.erase i) ∧
    t.supervisor.closedList =
      (if new = .inService then
         (if x.state = .inService then s.supervisor.closedList else s.supervisor.closedList.erase i ++ [i])
       else s.supervisor.closedList.erase i) ∧
    t.mail = s.mail ++ [.heatModeChange r, .unbalanceStepReport r, .harmonicStepReport r, .controlStepReport r] ∧
    (∃ e ∈ t.events.entries, e.kind = stateEvent new ∧ e.subject = .step i ∧ e.value = some (causeNumber cause) ∧
      e.sequence = s.events.next ∧ e.stamp = s.timebase) ∧
    (let entered := logEvent (stateEvent new) (.step i) (some (causeNumber cause)) s
     let told :=
       if y.unsupervised = true ∧ x.unsupervised = false then logEvent .positionUnsupervised (.step i) none entered
       else if y.unsupervised = false ∧ x.unsupervised = true then logEvent .positionSupervised (.step i) none entered
       else entered
     t.events = (if y.outOfServiceClose = true then logEvent .closedOutOfService (.step i) none told else told).events) ∧
    SameBut [.supervisor, .mail, .eventList] s t

/-- R82, R106: a loading restarts the discharge timer with the discharge time in force, 900 s while the row is
DAMAGED, and in the same event takes a step in READY back to COOLING. R106: a discharged report takes a step in
COOLING whose discharge remaining is 0 to READY, and a step in any other state nowhere. -/
def Obligations.Discharge : Prop :=
  (∀ (i : Fin 8) (s : State),
     let time := if s.stepDamaged i then 900 else (s.stepRow i).dischargeTime
     let u := s.updDuty i fun d => { d with discharge := some (time * 1000) }
     (s.stepState i = .ready → handLoading i s = moveStep i .cooling .recharge u) ∧
     (s.stepState i ≠ .ready → handLoading i s = u)) ∧
  (∀ (i : Fin 8) (s : State), Ready s →
     let s₀ := s.dropMail (.dischargedReport i)
     (s.stepState i = .cooling → dischargeRemaining i s = 0 →
       exec (.dischargedReport i) s = .next (noteChange s₀ (moveStep i .ready .discharged s₀))) ∧
     (s.stepState i ≠ .cooling ∨ 0 < dischargeRemaining i s → exec (.dischargedReport i) s = .next s₀))

/-- R94: a report of the last position again, for a step that is not to be resolved, changes nothing. R95: a report
taken for a step whose resolution due mark is set resolves it. That the alarm which an entry into WITHDRAWN re-forms reads
the reported position is the model's choice (notes/assumptions/15.md). -/
def Obligations.PositionResolves : Prop :=
  ∀ (i : Fin 8) (pos : Position) (s : State), Ready s →
    let s₀ := s.dropMail (.positionReport i pos)
    let x := s.supervisor.steps[i]
    (x.resolutionDue = false → x.lastPosition = some pos → exec (.positionReport i pos) s = .next s₀) ∧
    (x.resolutionDue = true →
      (pos = .opened → exec (.positionReport i pos) s = .next (noteChange s₀ (moveStep i .cooling .resolved
        (handLoading i (s₀.updStep i fun y =>
          { y with lastPosition := some .opened, settledPosition := some .opened, resolutionDue := false }))))) ∧
      (pos = .closed → exec (.positionReport i pos) s = .next (noteChange s₀ (moveStep i .inService .resolved
        (s₀.updStep i fun y =>
          { y with lastPosition := some .closed, settledPosition := some .closed, resolutionDue := false })))) ∧
      (pos = .intermediate → exec (.positionReport i pos) s = .next (noteChange s₀ (moveStep i .withdrawn .intermediate
        (logEvent .positionIntermediate (.step i) none (s₀.updStep i fun y =>
          { y with lastPosition := some .intermediate, resolutionDue := false }))))))

/-- R94, R96 to R98, R105: a report of another position than the last, for a step that is not to be resolved. `u` is
the state with the positions and the reports to the duty monitor in place; a first report after reset makes none. The
model's choices: the alarm an entry into LOCKOUT re-forms reads the reported position (notes/assumptions/15.md), the duty
monitor's event stands ahead of the supervisor's own of the same report (notes/assumptions/14.md), and an INTERMEDIATE report
leaves the out-of-service close alarm as it stands (notes/assumptions/58.md). -/
def Obligations.PositionMoves : Prop :=
  ∀ (i : Fin 8) (pos : Position) (s : State), Ready s →
    let c := Instr.positionReport i pos
    let s₀ := s.dropMail c
    let x := s.supervisor.steps[i]
    x.resolutionDue = false → x.lastPosition ≠ some pos →
    let seen := s₀.updStep i fun y =>
      { y with
        lastPosition := some pos
        settledPosition := if pos = .intermediate then y.settledPosition else some pos }
    let told := if pos = .intermediate then logEvent .positionIntermediate (.step i) none seen else seen
    let counted := if x.lastPosition = none ∨ pos = .intermediate then told else operationReport i told
    let u := if x.lastPosition ≠ none ∧ pos = .opened ∧ x.settledPosition = some .closed then handLoading i counted
      else counted
    let st := u.stepState i
    (st = .inService → pos = .opened → ∀ p, x.lockoutPending = some p →
      exec c s = .next (noteChange s₀ (changeStep i .lockout (lockoutStateCause p) none (some p) u))) ∧
    (st = .inService → pos = .opened → x.lockoutPending = none →
      exec c s = .next (noteChange s₀ (moveStep i (if 0 < dischargeRemaining i u then .cooling else .ready)
        .uncommandedOpen u))) ∧
    (st = .cooling ∨ st = .ready → pos = .closed →
      exec c s = .next (noteChange s₀
        (if 0 < dischargeRemaining i u then
          logEvent .closedUndischarged (.step i) (some (dischargeRemaining i u))
            (moveStep i .inService .uncommandedClose u)
         else moveStep i .inService .uncommandedClose u))) ∧
    (st = .failed → pos = .opened →
      exec c s = .next (noteChange s₀ (changeStep i .lockout .breakerFail none (some .breakerFail) u))) ∧
    (st = .lockout ∨ st = .withdrawn →
      (pos = .closed → exec c s = .next (noteChange s₀
        (if x.outOfServiceClose then u.updStep i fun y => { y with outOfServiceClose := true }
         else logEvent .closedOutOfService (.step i) none
          (u.updStep i fun y => { y with outOfServiceClose := true })))) ∧
      (pos = .opened → exec c s = .next (noteChange s₀
        (u.updStep i fun y => { y with outOfServiceClose := false })))) ∧
    (pos = .intermediate ∨ st = .closing ∨ st = .opening ∨ st = .unresolved ∨ (st = .inService ∧ pos = .closed) ∨
      ((st = .cooling ∨ st = .ready) ∧ pos = .opened) ∨ (st = .failed ∧ pos = .closed) →
      exec c s = .next (noteChange s₀ u))

/-- R99: a SILENT or ALIVE notice sets the copy of the unit's supervision, and the unsupervised alarm follows it with
its event, except in WITHDRAWN. R100: a UNIT_BUSY refusal returns a step in CLOSING to the Open List, and a step in
OPENING that holds the slot with class CONTROL to IN, and is passed on with the refused request's cause; it changes nothing
otherwise. The model's choices: a step in CLOSING returns to COOLING while its discharge timer runs, where R100 names READY
(notes/assumptions/16.md), and the refusal carries the cause of its request (notes/assumptions/38.md). -/
def Obligations.UnitNotices : Prop :=
  (∀ (i : Fin 8) (sup : Supervision) (s : State), Ready s →
     let s₀ := s.dropMail (.unitSupervisionNotice i sup)
     let x := s.supervisor.steps[i]
     let stands : Bool := sup = .silent && x.state ≠ .withdrawn
     let u := s₀.updStep i fun y => { y with unitSupervision := sup, unsupervised := stands }
     exec (.unitSupervisionNotice i sup) s = .next (noteChange s₀
       (if stands = true ∧ x.unsupervised = false then logEvent .positionUnsupervised (.step i) none u
        else if stands = false ∧ x.unsupervised = true then logEvent .positionSupervised (.step i) none u
        else u))) ∧
  (∀ (r : BusyRefusal) (s : State), Ready s →
     let c := Instr.unitBusyRefusal r
     let s₀ := s.dropMail c
     let x := s.supervisor.steps[r.step]
     let rest : StepState := if 0 < dischargeRemaining r.step s then .cooling else .ready
     (r.kind = .close → x.state = .closing → exec c s = .next (noteChange s₀
       (hand (.switchOutcome r.step .close (.unitBusy r.cause)) (moveStep r.step rest .unitBusy s₀)))) ∧
     (r.kind = .opn → x.state = .opening → x.opClass = some .control → x.slotHeld = true →
       exec c s = .next (noteChange s₀
         (hand (.switchOutcome r.step .opn (.unitBusy r.cause)) (moveStep r.step .inService .unitBusy s₀)))) ∧
     (¬ ((r.kind = .close ∧ x.state = .closing) ∨
         (r.kind = .opn ∧ x.state = .opening ∧ x.opClass = some .control ∧ x.slotHeld = true)) →
       exec c s = .next s₀))

/-- R101: a trip start moves a step in IN or CLOSING to OPENING with the trip's cause and without the slot, makes a
control-class OPENING a trip, and changes nothing in any other case. R102: an unbalance lockout notice sets the
lockout pending of a step in IN, CLOSING, OPENING or FAILED unless a cause of higher precedence holds it, locks a step
in COOLING or READY, and changes nothing in any other state. -/
def Obligations.TripStartAndLockoutNotice : Prop :=
  (∀ (i : Fin 8) (cause : TripCause) (s : State), Ready s →
    let s₀ := s.dropMail (.tripStart i cause)
    let st := s.stepState i
    let k : StateCause :=
      match cause with
      | .unbalance => .unbalance
      | .overheat => .overheat
      | .deadLine => .deadLine
      | .settingsFault => .settingsFault
    (st = .inService ∨ st = .closing → exec (.tripStart i cause) s = .next (noteChange s₀
      (changeStep i .opening k (some { cls := .trip, cause := k, slotHeld := false }) none s₀))) ∧
    (st = .opening → s.supervisor.steps[i].opClass ≠ some .trip → exec (.tripStart i cause) s = .next (noteChange s₀
      (s₀.updStep i fun y => { y with opClass := some .trip, opCause := some k }))) ∧
    (¬ (st = .inService ∨ st = .closing ∨ (st = .opening ∧ s.supervisor.steps[i].opClass ≠ some .trip)) →
      exec (.tripStart i cause) s = .next s₀)) ∧
  ∀ (i : Fin 8) (s : State), Ready s →
    let s₀ := s.dropMail (.unbalanceLockoutNotice i)
    let st := s.stepState i
    (st = .inService ∨ st = .closing ∨ st = .opening ∨ st = .failed →
      exec (.unbalanceLockoutNotice i) s = .next (noteChange s₀ (s₀.updStep i fun y =>
        { y with lockoutPending :=
            if y.lockoutPending = some .settingsFault then some .settingsFault else some .unbalance }))) ∧
    (st = .cooling ∨ st = .ready → exec (.unbalanceLockoutNotice i) s = .next (noteChange s₀
      (changeStep i .lockout .unbalance none (some .unbalance) s₀))) ∧
    (st = .lockout ∨ st = .unresolved ∨ st = .withdrawn → exec (.unbalanceLockoutNotice i) s = .next s₀)

/-- R103: the outcome of a close. DONE takes the step to IN; a failed close loads the discharge timer, sets the
lockout pending, takes the step to OPENING without the slot and asks for its open; each outcome that ends a CLOSING is
passed on, and in any other state nothing changes. -/
def Obligations.CloseOutcome : Prop :=
  ∀ (i : Fin 8) (o : CmdOutcome) (s : State), Ready s →
    let c := Instr.closeOutcome i o
    let s₀ := s.dropMail c
    (s.stepState i = .closing → o = .done → exec c s = .next (noteChange s₀
      (hand (.switchOutcome i .close .done) (moveStep i .inService .closeDone s₀)))) ∧
    (s.stepState i = .closing → o ≠ .done →
      let pending := (handLoading i s₀).updStep i fun y =>
        { y with lockoutPending := if y.lockoutPending = none ∨ y.lockoutPending = some .breakerFail
                                     then some .closeFail else y.lockoutPending }
      exec c s = .next (noteChange s₀ (hand (.switchOutcome i .close .failed)
        (hand (.commandRequest { unit := stepUnit i, kind := .opn, cls := .control, cause := .closeFail })
          (changeStep i .opening .closeFail (some { cls := .control, cause := .closeFail, slotHeld := false }) none
            pending))))) ∧
    (s.stepState i ≠ .closing → exec c s = .next s₀)

/-- R104, R105: the outcome of an open of a step in OPENING. DONE locks the step out with a pending cause, or lets it
rest with the cause of its operation; any other outcome takes it to FAILED with the breaker failure trigger. A step
that holds the slot passes the outcome on; in any other state nothing changes. -/
def Obligations.OpenOutcome : Prop :=
  ∀ (i : Fin 8) (o : CmdOutcome) (s : State), Ready s →
    let c := Instr.openOutcome i o
    let s₀ := s.dropMail c
    let x := s.supervisor.steps[i]
    let rest : StepState := if 0 < dischargeRemaining i s then .cooling else .ready
    let pass (r : SwitchResult) (u : State) : State := if x.slotHeld then hand (.switchOutcome i .opn r) u else u
    (x.state = .opening →
      (o = .done → ∀ p, x.lockoutPending = some p → exec c s = .next (noteChange s₀ (pass .done
        (changeStep i .lockout (lockoutStateCause p) none (some p) s₀)))) ∧
      (o = .done → x.lockoutPending = none → ∀ k, x.opClass = some .trip ∧ x.opCause = some k ∨
          x.opClass ≠ some .trip ∧ k = .control →
        exec c s = .next (noteChange s₀ (pass .done (moveStep i rest k s₀)))) ∧
      (o ≠ .done → exec c s = .next (noteChange s₀ (pass .failed
        (hand (.captureTrigger .breakerFailure (some i)) (moveStep i .failed .openFail s₀)))))) ∧
    (x.state ≠ .opening → exec c s = .next s₀)

/-! ## Chapter 07 -/

/-- R115 to R120: an evaluation forms V_ctrl and its validity, with an event for each change of it, and takes U_lo and
U_hi, which stay in force until the next one (R114); it acts on the dead count and the line state, unless the Yard Table
is DAMAGED (R133), then on the control state, in which a PAUSED timer runs on from its count and one that is not valid
pauses the timers. What a DAMAGED Yard Table's evaluation takes is the model's choice (notes/assumptions/46.md). -/
def Obligations.EvaluationRules : Prop :=
  (∀ s : State,
    let w := s.switching
    let r (k : Fin 3) : ResultRecord := s.engine.results[k.val]
    let valid : Bool := decide ((∀ k, (r k).quality ≠ .invalid) ∧ (r 1).age ≤ 2 ∧ (r 2).age ≤ 2)
    let v := ((r 0).rms[0] + (r 1).rms[0] + (r 2).rms[0]) / 3
    let formed : State := { s with switching := { w with valid := valid, vctrl := if valid then some v else w.vctrl } }
    let told : State :=
      if valid = true ∧ w.valid = false then logEvent .measValid .none none formed
      else if valid = false ∧ w.valid = true then logEvent .measInvalid .none none formed
      else formed
    (s.yardDamaged = false → controlEvaluation s = bandRules (lineRules
      { told with switching := { told.switching with uLo := s.yard.uLo, uHi := s.yard.uHi } })) ∧
    (s.yardDamaged = true → controlEvaluation s = bandRules told)) ∧
  (∀ s : State,
    let w := s.switching
    let below : Prop := ∀ v ∈ busFundamentals s, v < s.yard.deadLevel
    let above : Prop := ∀ v ∈ busFundamentals s, s.yard.deadLevel ≤ v
    (w.valid = true → below →
      let u : State := { s with switching := { w with deadCount := min 100 (w.deadCount + 1) } }
      (w.line = .live → lineRules s = if s.yard.deadDelay ≤ min 100 (w.deadCount + 1) then goDead u else u) ∧
      (w.line = .restore → lineRules s = goDead u) ∧
      (w.line = .dead → lineRules s = u)) ∧
    (¬ (w.valid = true ∧ below) →
      let u : State := { s with switching := { w with deadCount := 0 } }
      (w.line = .live → lineRules s = u) ∧
      (w.valid = true → above →
        (w.line = .dead → lineRules s =
          logEvent .lineRestore .none none
            { s with switching := { w with deadCount := 0, line := .restore, restore := some 0 } }) ∧
        (w.line = .restore → lineRules s =
          { s with switching := { w with deadCount := 0, restore := some (w.restore.getD 0) } })) ∧
      (¬ (w.valid = true ∧ above) →
        (w.line = .dead → lineRules s = u) ∧
        (w.line = .restore → lineRules s = { s with switching := { w with deadCount := 0, restore := none } })))) ∧
  ∀ s : State,
    let w := s.switching
    let resume (t : BandTimer) : BandTimer := match t with
      | .paused c => .running c
      | t => t
    let pause (t : BandTimer) : BandTimer := match t with
      | .running c => .paused c
      | t => t
    (w.line ≠ .live → bandRules s = s) ∧
    (w.line = .live → w.valid = false →
      bandRules s = { s with switching := { w with high := pause w.high, low := pause w.low } }) ∧
    (w.line = .live → w.valid = true → ∀ v, w.vctrl = some v → ∃ x, bandRules s = { s with switching := x } ∧
      (w.control = .manual ∨ w.control = .autoPending ∨ w.control = .autoSettle → x = w) ∧
      (w.uHi < v →
        (w.control = .autoWatch → x = { w with control := .autoHigh, high := .running 0 }) ∧
        (w.control = .autoHigh → x = { w with high := resume w.high }) ∧
        (w.control = .autoLow →
          x = { w with control := .autoHigh, low := .stopped, expiryHeld := none, high := .running 0 })) ∧
      (v ≤ w.uHi → v < w.uLo →
        (w.control = .autoWatch → x = { w with control := .autoLow, low := .running 0 }) ∧
        (w.control = .autoLow → x = { w with low := resume w.low }) ∧
        (w.control = .autoHigh →
          x = { w with control := .autoLow, high := .stopped, expiryHeld := none, low := .running 0 })) ∧
      (v ≤ w.uHi → w.uLo ≤ v →
        (w.control = .autoWatch → x = w) ∧
        (w.control = .autoHigh → x = { w with control := .autoWatch, high := .stopped, expiryHeld := none }) ∧
        (w.control = .autoLow → x = { w with control := .autoWatch, low := .stopped, expiryHeld := none })))

/-- R117, R131: what an entry to DEAD leaves: the trigger without a step, one TRIP OPEN with cause DEAD_LINE for every step in
IN or CLOSING, no selection, no CLOSE entry, the timers stopped, and AUTO_WATCH for AUTO_HIGH, for AUTO_LOW and for an
AUTO_PENDING whose entry has gone. Its events are LINE_DEAD, SELECTION_REMOVED where a record was, and for each CLOSE entry
MANUAL_REFUSED or the deferral, all with condition DEAD. Where the removal of the selection frees a held expiry, it is judged
before the CLOSE entries go (R121). The model's choices: the trips wait in the order of the steps, and the events of the CLOSE
entries stand in that of the queue (notes/assumptions/14.md); a deferral has no subject (notes/assumptions/19.md), and the held
expiry is judged with the maximum steps in service in force then (notes/assumptions/63.md). -/
def Obligations.LineGoesDead : Prop :=
  ∀ s : State,
    let w := s.switching
    let t := goDead s
    let trips : List Instr := .captureTrigger .lineDead none ::
      (allSteps.filter fun i => s.stepState i = .inService ∨ s.stepState i = .closing).map fun i =>
        .commandRequest { unit := stepUnit i, kind := .opn, cls := .trip, cause := .deadLine }
    let dead := logEvent .lineDead .none none s
    let turned (q : List QueueEntry) (u : State) : State := (q.filter fun e => e.kind = .close).foldl
      (fun u e => match e.origin with
        | .manual x => logEvent .manualRefused (targetSubject x) (some 16) u
        | .auto _ => logEvent .closeDeferred .none (some 16) u) u
    let left (x : SwitchingState) : SwitchingState :=
      { x with
        queue := x.queue.filter fun e => e.kind = .opn
        high := .stopped, low := .stopped, expiryHeld := none
        control := if x.control = .autoHigh ∨ x.control = .autoLow ∨
            (x.control = .autoPending ∧ ∃ e ∈ x.queue, e.isAuto = true ∧ e.kind = .close) then .autoWatch
          else x.control }
    (w.expiryHeld = none ∨ w.selection = none ∨ (w.control ≠ .autoHigh ∧ w.control ≠ .autoLow) →
      t.switching = left { w with line := .dead, restore := none, selection := none } ∧
      t.mail = s.mail ++ trips ∧
      SameBut [.switching, .mail, .eventList] s t ∧
      t.events = (turned w.queue (match w.selection with
        | some x => logEvent .selectionRemoved (targetSubject x.target) (some 16) dead
        | none => dead)).events) ∧
    ∀ rise x, w.expiryHeld = some rise → w.selection = some x → w.control = .autoHigh ∨ w.control = .autoLow →
      let u := logEvent .selectionRemoved (targetSubject x.target) (some 16)
        { dead with
          switching := { w with line := .dead, restore := none, selection := none }
          mail := s.mail ++ trips }
      let judged := if w.control = .autoHigh then judgeHigh rise u else judgeLow rise u
      t = turned judged.switching.queue { judged with switching := left judged.switching }

/-- R119, R121, R122, R131: how a band timer's expiry is judged, and the five timers of switching control. A high or low
timer that expires behind a selection is held at its delay; the expiry of the selection then judges it. U_lo and U_hi are
those in force since the latest evaluation, and the rise is that in force at the expiry, also where its judgement waits
(R114). R114: a delay that a write has lowered to the count of a RUNNING timer or below makes it expire in the event of the
write, as at its own expiry. The model's choices: the timers are held against their delays one after another, with their
events in that order (notes/assumptions/14.md); a deferral names the voltage before the count and the count before the queue
(notes/assumptions/53.md), and has no subject (notes/assumptions/19.md); and an expiry of the low timer that was held is
judged with the maximum steps in service in force at its judgement (notes/assumptions/63.md). -/
def Obligations.SwitchingTimers : Prop :=
  (∀ (rise : Nat) (s : State) (v : Nat), s.switching.vctrl = some v →
    let settled (k : EventKind) (n : Nat) : State :=
      let u := logEvent k .none (some n) s
      { u with switching := { u.switching with
          control := .autoSettle, settle := some 0, high := .stopped, low := .stopped, expiryHeld := none } }
    let queued (k : CmdKind) (r : Reason) : State :=
      grantWaiting { s with switching := { s.switching with
        control := .autoPending, high := .stopped, low := .stopped, expiryHeld := none
        queue := insertEntry { kind := k, origin := .auto r, arrival := s.timebase } s.switching.queue } }
    (v ≤ s.switching.uLo + rise → judgeHigh rise s = settled .openDeferred 10) ∧
    (s.switching.uLo + rise < v →
      (s.inCount = 0 → judgeHigh rise s = settled .openDeferred 11) ∧
      (0 < s.inCount → 4 ≤ s.switching.queue.length → judgeHigh rise s = settled .openDeferred 13) ∧
      (0 < s.inCount → s.switching.queue.length < 4 → judgeHigh rise s = queued .opn .high)) ∧
    (s.switching.uHi ≤ v + rise → judgeLow rise s = settled .closeDeferred 10) ∧
    (v + rise < s.switching.uHi →
      (s.yard.maxSteps ≤ s.energisedCount → judgeLow rise s = settled .closeDeferred 3) ∧
      (s.energisedCount < s.yard.maxSteps → 4 ≤ s.switching.queue.length → judgeLow rise s = settled .closeDeferred 13) ∧
      (s.energisedCount < s.yard.maxSteps → s.switching.queue.length < 4 → judgeLow rise s = queued .close .low))) ∧
  (∀ s : State,
    let reached (t : BandTimer) (delay : Nat) : Bool := match t with
      | .running n => delay * 1000 ≤ n
      | _ => false
    let past (t : Option Nat) (delay : Nat) : Bool := match t with
      | some n => delay * 1000 ≤ n
      | none => false
    let put (x : SwitchingState) (u : State) : State := { u with switching := x }
    let high (u : State) : State :=
      let w := u.switching
      if reached w.high u.yard.highDelay = true ∧ w.control = .autoHigh ∧ w.expiryHeld = none then
        if w.selection = none then judgeHigh u.yard.stepRise u
        else put { w with expiryHeld := some u.yard.stepRise, high := .running (u.yard.highDelay * 1000) } u
      else u
    let low (u : State) : State :=
      let w := u.switching
      if reached w.low u.yard.lowDelay = true ∧ w.control = .autoLow ∧ w.expiryHeld = none then
        if w.selection = none then judgeLow u.yard.stepRise u
        else put { w with expiryHeld := some u.yard.stepRise, low := .running (u.yard.lowDelay * 1000) } u
      else u
    let settle (u : State) : State :=
      let w := u.switching
      if past w.settle u.yard.settleTime = true ∧ w.control = .autoSettle then
        put { w with control := .autoWatch, settle := none } u
      else u
    let restore (u : State) : State :=
      let w := u.switching
      if past w.restore u.yard.restoreHold = true ∧ w.line = .restore then
        if w.valid = true then logEvent .lineLive .none none (put { w with line := .live, restore := none } u)
        else put { w with restore := none } u
      else u
    expireReached s = restore (settle (low (high s)))) ∧
  ∀ s : State, Ready s →
    let w := s.switching
    let put (c : Instr) (x : SwitchingState) : State := { s.dropMail c with switching := x }
    let highCounts := w.control = .autoHigh ∧ (∃ c, w.high = .running c) ∧ w.expiryHeld = none
    let lowCounts := w.control = .autoLow ∧ (∃ c, w.low = .running c) ∧ w.expiryHeld = none
    (highCounts → w.selection = none → exec .highTimerExpiry s =
      .next (noteChange (s.dropMail .highTimerExpiry) (judgeHigh s.yard.stepRise (s.dropMail .highTimerExpiry)))) ∧
    (highCounts → w.selection ≠ none → exec .highTimerExpiry s =
      .next (noteChange (s.dropMail .highTimerExpiry)
        (put .highTimerExpiry { w with expiryHeld := some s.yard.stepRise, high := .running (s.yard.highDelay * 1000) }))) ∧
    (¬ highCounts → exec .highTimerExpiry s = .next (s.dropMail .highTimerExpiry)) ∧
    (lowCounts → w.selection = none → exec .lowTimerExpiry s =
      .next (noteChange (s.dropMail .lowTimerExpiry) (judgeLow s.yard.stepRise (s.dropMail .lowTimerExpiry)))) ∧
    (lowCounts → w.selection ≠ none → exec .lowTimerExpiry s =
      .next (noteChange (s.dropMail .lowTimerExpiry)
        (put .lowTimerExpiry { w with expiryHeld := some s.yard.stepRise, low := .running (s.yard.lowDelay * 1000) }))) ∧
    (¬ lowCounts → exec .lowTimerExpiry s = .next (s.dropMail .lowTimerExpiry)) ∧
    (w.control = .autoSettle → w.settle ≠ none → exec .settleTimerExpiry s =
      .next (noteChange (s.dropMail .settleTimerExpiry)
        (put .settleTimerExpiry { w with control := .autoWatch, settle := none }))) ∧
    (w.control ≠ .autoSettle ∨ w.settle = none →
      exec .settleTimerExpiry s = .next (s.dropMail .settleTimerExpiry)) ∧
    (w.line = .restore → w.restore ≠ none → exec .restoreHoldExpiry s =
      .next (noteChange (s.dropMail .restoreHoldExpiry)
        (if w.valid = true then
          logEvent .lineLive .none none (put .restoreHoldExpiry { w with line := .live, restore := none })
         else put .restoreHoldExpiry { w with restore := none }))) ∧
    (w.line ≠ .restore ∨ w.restore = none → exec .restoreHoldExpiry s = .next (s.dropMail .restoreHoldExpiry)) ∧
    (∀ x, w.selection = some x →
      let u := logEvent .selectExpired (targetSubject x.target) none (put .selectExpiry { w with selection := none })
      exec .selectExpiry s = .next (noteChange (s.dropMail .selectExpiry)
        (match w.expiryHeld, w.control with
          | some rise, .autoHigh => judgeHigh rise u
          | some rise, .autoLow => judgeLow rise u
          | _, _ => u))) ∧
    (w.selection = none → exec .selectExpiry s = .next (s.dropMail .selectExpiry))

/-- R123, R124, R127: an arriving entry keeps the queue's order; a FREE slot takes the head, and the next when it is
turned away; and what a MANUAL entry is judged by, in which order and with which condition numbers, and does. That a close of
a step that is not READY names STATE also while the Yard Table is DAMAGED, where R133 names SETTINGS for such grants, is the
model's choice (notes/assumptions/43.md). -/
def Obligations.ManualGrants : Prop :=
  (∀ (e : QueueEntry) (q : List QueueEntry), q.Pairwise (fun a b => b.ahead a = false) →
    (insertEntry e q).Pairwise (fun a b => b.ahead a = false) ∧ (insertEntry e q).Perm (e :: q)) ∧
  (∀ s : State, s.switching.holder ≠ none ∨ s.switching.queue = [] → grantWaiting s = s) ∧
  (∀ (e : QueueEntry) (rest : List QueueEntry) (s : State), s.switching.holder = none → s.switching.queue = e :: rest →
    grantWaiting s = grantWaiting (grantEntry e { s with switching := { s.switching with queue := rest } })) ∧
  (∀ (t : Fin 9) (k : CmdKind) (a : Nat) (s : State),
    let e : QueueEntry := { kind := k, origin := .manual t, arrival := a }
    (∀ c, manualCheck t k s = some c →
      grantEntry e s = logEvent .manualRefused (targetSubject t) (some (conditionNumber c)) s) ∧
    (manualCheck t k s = none → grantEntry e s = startOperation t k .manual
      { s with switching := { s.switching with holder := some { target := t, kind := k, reason := none } } })) ∧
  (∀ (i : Fin 8) (s : State),
    let unit := s.commands[stepUnit i]
    manualCheck (stepUnit i) .close s =
      (if s.stepState i ≠ .ready then some .state
       else if s.yardDamaged = true ∨ s.stepDamaged i = true then some .settings
       else if s.switching.line ≠ .live then some .line
       else if s.yard.maxSteps ≤ s.energisedCount then some .maximum
       else if countBlocked (s.energisedCount + 1) s = true then some .resonance
       else if unit.supervision ≠ .alive ∨ unit.ready = false then some .unit
       else none) ∧
    manualCheck (stepUnit i) .opn s =
      (if s.stepState i ≠ .inService then some .state
       else if unit.supervision ≠ .alive then some .unit
       else none)) ∧
  (∀ s : State,
    let unit := s.commands[(8 : Fin 9)]
    manualCheck 8 .close s =
      (if ∃ i, s.stepState i = .failed then some .stepFailed
       else if unit.position = some .closed then some .position
       else if unit.supervision ≠ .alive ∨ unit.ready = false then some .unit
       else none) ∧
    manualCheck 8 .opn s =
      (if unit.position = some .opened then some .position
       else if unit.supervision ≠ .alive then some .unit
       else none)) ∧
  [Condition.state, .line, .maximum, .resonance, .unit, .settings, .stepFailed, .position, .unitBusy, .voltage, .noStep,
    .reasonGone, .queueFull, .settle, .mode, .dead, .lockout, .withdrawn].map conditionNumber = List.range' 1 18 ∧
  (∀ (i : Fin 8) (cause : Cause) (s : State),
    let ask (k : CmdKind) : Instr := .commandRequest { unit := stepUnit i, kind := k, cls := .control, cause := cause }
    let op : Operation := { cls := .control, cause := .grant, slotHeld := true }
    (s.stepState i = .ready → startOperation (stepUnit i) .close cause s =
      hand (ask .close) (changeStep i .closing .grant (some op) none s)) ∧
    (s.stepState i = .inService → startOperation (stepUnit i) .opn cause s =
      hand (ask .opn) (changeStep i .opening .grant (some op) none s))) ∧
  ∀ (k : CmdKind) (cause : Cause) (s : State), startOperation 8 k cause s =
    hand (.commandRequest { unit := 8, kind := k, cls := .control, cause := cause }) s

/-- R125, R126: an AUTO entry at grant: the checks of a close in order, the walk of the Open List for an eligible
step, the reason of an open, and the walk of the Closed List. A dropped entry gives AUTO_SETTLE; that its deferral has no
subject is the model's choice (notes/assumptions/19.md). U_lo and U_hi are those in force since the latest evaluation
(R114). -/
def Obligations.AutoGrants : Prop :=
  ∀ (a : Nat) (s : State),
    let w := s.switching
    let dropped (k : EventKind) (n : Nat) : State :=
      let u := logEvent k .none (some n) s
      { u with switching := { u.switching with
          control := .autoSettle, settle := some 0, high := .stopped, low := .stopped, expiryHeld := none } }
    let started (i : Fin 8) (k : CmdKind) (r : Reason) (cause : Cause) : State :=
      startOperation (stepUnit i) k cause
        { s with switching := { w with holder := some { target := stepUnit i, kind := k, reason := some r } } }
    let selected (i : Fin 8) : Prop := ∃ x, w.selection = some x ∧ x.target = stepUnit i
    (∀ r : Reason,
      let e : QueueEntry := { kind := .close, origin := .auto r, arrival := a }
      let stands : Prop := w.valid = true ∧ ∃ v, w.vctrl = some v ∧ v < w.uLo
      let ok (i : Fin 8) : Prop :=
        s.stepState i = .ready ∧ s.stepDamaged i = false ∧ s.duty.steps[i].dutyBar = false ∧
          s.duty.steps[i].heat ≤ (s.stepRow i).heatReclose ∧ s.commands[stepUnit i].supervision = .alive ∧
          s.commands[stepUnit i].ready = true ∧ ¬ selected i
      (¬ stands → grantEntry e s = dropped .closeDeferred 12) ∧
      (stands → w.line ≠ .live → grantEntry e s = dropped .closeDeferred 2) ∧
      (stands → w.line = .live → s.yard.maxSteps ≤ s.energisedCount → grantEntry e s = dropped .closeDeferred 3) ∧
      (stands → w.line = .live → s.energisedCount < s.yard.maxSteps →
        (countBlocked (s.energisedCount + 1) s = true → grantEntry e s = dropped .closeDeferred 4) ∧
        (countBlocked (s.energisedCount + 1) s = false →
          ((∀ i ∈ s.supervisor.openList, ¬ ok i) → grantEntry e s = dropped .closeDeferred 11) ∧
          (∀ before i after, s.supervisor.openList = before ++ i :: after → ok i → (∀ j ∈ before, ¬ ok j) →
            grantEntry e s = started i .close r (if r = .detune then .autoDetune else .autoVoltage))))) ∧
    ∀ r : Reason,
      let e : QueueEntry := { kind := .opn, origin := .auto r, arrival := a }
      let stands : Prop :=
        if r = .detune then 1 ≤ s.inCount ∧ countBlocked s.inCount s = true
        else w.valid = true ∧ ∃ v, w.vctrl = some v ∧ w.uHi < v
      let candidate (i : Fin 8) : Prop := s.supervisor.steps[i].unsupervised = false ∧ ¬ selected i
      let barred (i : Fin 8) : Prop := s.stepDamaged i = true ∨ s.duty.steps[i].dutyBar = true
      let cause : Cause := if r = .detune then .autoDetune else .autoVoltage
      (¬ stands → grantEntry e s = dropped .openDeferred 12) ∧
      (stands →
        ((∀ i ∈ s.supervisor.closedList, ¬ candidate i) → grantEntry e s = dropped .openDeferred 11) ∧
        (∀ before i after, s.supervisor.closedList = before ++ i :: after → candidate i →
          (¬ barred i → (∀ j ∈ before, candidate j → barred j) → grantEntry e s = started i .opn r cause) ∧
          ((∀ j ∈ s.supervisor.closedList, candidate j → barred j) → (∀ j ∈ before, ¬ candidate j) →
            grantEntry e s = started i .opn r cause)))

/-- R53, R123, R128: an outcome or refusal passed on for a step writes its event; the end of a unit 8 command writes
its event and releases the slot that unit 8 holds; a DETUNE request arrives as an AUTO OPEN entry or lapses. A FREE
slot is then granted. The model's choices: whose operation a refusal ended is told by the cause it carries
(notes/assumptions/38.md), and where the release of the slot starts settle, a withdrawn AUTO entry's deferral has no subject
(notes/assumptions/19.md), AUTO_PENDING without a waiting entry settles too (notes/assumptions/30.md), and the control state
at the release decides, whatever SET_MODE did since the grant (notes/assumptions/66.md). -/
def Obligations.OutcomesAndDetune : Prop :=
  (∀ (i : Fin 8) (k : CmdKind) (s : State), Ready s →
    let n : Nat := if k = .close then 1 else 2
    let told (r : SwitchResult) (e : EventKind) (n : Nat) : Prop :=
      exec (.switchOutcome i k r) s = .next (noteChange (s.dropMail (.switchOutcome i k r))
        (grantWaiting (logEvent e (.step i) (some n) (s.dropMail (.switchOutcome i k r)))))
    told .done .switchDone n ∧ told .failed .switchFailed n ∧ told (.unitBusy .manual) .manualRefused 9 ∧
    told (.unitBusy .autoVoltage) (if k = .close then .closeDeferred else .openDeferred) 9 ∧
    told (.unitBusy .autoDetune) (if k = .close then .closeDeferred else .openDeferred) 9) ∧
  (∀ (k : CmdKind) (s : State), Ready s →
    let n : Nat := if k = .close then 1 else 2
    let told (r : IncomerResult) (e : EventKind) (n : Nat) : Prop :=
      let s₀ := s.dropMail (.incomerOutcome k r)
      ((∀ h, s.switching.holder = some h → h.target ≠ 8) → exec (.incomerOutcome k r) s =
        .next (noteChange s₀ (grantWaiting (logEvent e (.unit 8) (some n) s₀)))) ∧
      (∀ h, s.switching.holder = some h → h.target = 8 → exec (.incomerOutcome k r) s =
        .next (noteChange s₀ (grantWaiting (settleAtRelease (logEvent e (.unit 8) (some n)
          { s₀ with switching := { s.switching with holder := none } })))))
    told (.outcome .done) .switchDone n ∧ told (.outcome .unanswered) .switchFailed n ∧
    told (.outcome .noMove) .switchFailed n ∧ told .unitBusy .manualRefused 9 ∧ told .overtaken .switchOvertaken n) ∧
  ∀ s : State, Ready s →
    let s₀ := s.dropMail .detuneRequest
    let w := s.switching
    let takes := (w.control = .autoWatch ∨ w.control = .autoHigh ∨ w.control = .autoLow) ∧ w.queue.length < 4
    (takes → exec .detuneRequest s = .next (noteChange s₀ (grantWaiting { s₀ with switching := { w with
      control := .autoPending, high := .stopped, low := .stopped, expiryHeld := none
      queue := insertEntry { kind := .opn, origin := .auto .detune, arrival := s.timebase } w.queue } }))) ∧
    (¬ takes → exec .detuneRequest s = .next s₀)

/-- R93, R118, R122, R128, R131: switching control takes a step report. The slot holder's step leaving CLOSING or
OPENING releases the slot, with SWITCH_OVERTAKEN where a trip start took it from CLOSING, and settle starts; a step
entering or leaving IN by a change that is not the slot holder's own starts settle; the selection of a step locked out
or withdrawn is removed; a step that enters IN while the line is DEAD is tripped; and a FREE slot is granted. The model's
choices: that a withdrawn AUTO entry's deferral has no subject (notes/assumptions/19.md), what settle does in AUTO_PENDING
without a waiting entry (notes/assumptions/30.md), that settle starts before the selection is removed
(notes/assumptions/52.md), and that the control state at the release decides on settle, whatever SET_MODE did since the
grant (notes/assumptions/66.md). -/
def Obligations.ControlStepReport : Prop :=
  (∀ (r : StepReport) (s : State), Ready s →
    let s₀ := s.dropMail (.controlStepReport r)
    let trip : Bool :=
      r.cause = .unbalance || r.cause = .overheat || r.cause = .deadLine || r.cause = .settingsFault
    let freed : State :=
      if ∃ h, s.switching.holder = some h ∧ h.target = stepUnit r.step then
        { s₀ with switching := { s.switching with holder := none } } else s₀
    let overtaken : State :=
      if r.old = .closing ∧ r.new = .opening ∧ trip = true then logEvent .switchOvertaken (.step r.step) (some 1) freed
      else freed
    let released : State :=
      if r.slotHeld = true ∧ (r.old = .closing ∨ r.old = .opening) then settleAtRelease overtaken else s₀
    let moved : State :=
      if ((r.old = .inService ∧ r.new ≠ .inService) ∨ (r.old ≠ .inService ∧ r.new = .inService)) ∧
          r.cause ≠ .grant ∧ r.cause ≠ .closeDone ∧ r.cause ≠ .unitBusy then settleAtMove released else released
    let unselected : State :=
      if (∃ x, s.switching.selection = some x ∧ x.target = stepUnit r.step) ∧ (r.new = .lockout ∨ r.new = .withdrawn) then
        removeSelection .selectionRemoved (some (if r.new = .lockout then 17 else 18)) moved
      else moved
    let tripped : State :=
      if s.switching.line = .dead ∧ r.new = .inService ∧ r.old ≠ .inService then
        hand (.commandRequest { unit := stepUnit r.step, kind := .opn, cls := .trip, cause := .deadLine }) unselected
      else unselected
    exec (.controlStepReport r) s = .next (noteChange s₀ (grantWaiting tripped))) ∧
  ∀ s : State,
    let settled (u : State) : State := { u with switching := { u.switching with
      control := .autoSettle, settle := some 0, high := .stopped, low := .stopped, expiryHeld := none } }
    let w := s.switching
    (w.control = .manual → settleAtRelease s = s ∧ settleAtMove s = s) ∧
    (w.control ≠ .manual → w.control ≠ .autoPending → settleAtRelease s = settled s ∧ settleAtMove s = settled s) ∧
    (w.control = .autoPending →
      ((∀ e ∈ w.queue, e.isAuto = false) → settleAtRelease s = settled s ∧ settleAtMove s = s) ∧
      (∀ before e after, w.queue = before ++ e :: after → e.isAuto = true → (∀ x ∈ before, x.isAuto = false) →
        let u := settled (logEvent (if e.kind = .close then .closeDeferred else .openDeferred) .none (some 14)
          { s with switching := { w with queue := before ++ after } })
        settleAtRelease s = u ∧ settleAtMove s = u))

/-! ## Chapter 08 -/

/-- R135, R142, R143: a status frame. One whose sender is no unit's address changes nothing. For the unit matched the
position, the mechanism, the port and an absent sequence base are taken, the supervision timer restarts, a SILENT unit
becomes ALIVE, and the position is reported, or for the incomer a change that no command explains is written, its first
report too by the model's choice (notes/assumptions/18.md); then the command in flight is done, waits for the move, or
stays as it is. -/
def Obligations.StatusFrameTaken : Prop :=
  ∀ (f : StatusFrame) (s : State), Ready s →
    let c := Instr.statusFrame f
    let s₀ := s.dropMail c
    let carries (u : Fin 9) : Prop := s.unitDamaged u = false ∧ (s.unitRow u).address = f.sender ∧ f.sender ≠ 0
    ((∀ u, ¬ carries u) → exec c s = .next s₀) ∧
    ∀ u, carries u → (∀ v, v < u → ¬ carries v) →
      let x := s.commands[u]
      let cx := x.context
      let flight : Prop := cx.state = .sending ∨ cx.state = .awaitingMove
      let pos : Position := if f.position = 1 then .opened else if f.position = 2 then .closed else .intermediate
      let seen := s₀.updUnit u fun y =>
        { y with
          position := some pos, ready := f.ready, learned := some f.port, supervision := .alive
          timer := some { elapsed := 0, limit := (s.unitRow u).statusTimeout }
          seqBase := some (y.seqBase.getD f.echoSeq.toNat) }
      let alive := if x.supervision = .silent then logEvent .unitAlive (.unit u) none seen else seen
      let told : State :=
        match unitStep u with
        | some i => hand (.positionReport i pos)
            (if x.supervision = .silent then hand (.unitSupervisionNotice i .alive) alive else alive)
        | none =>
          if x.position ≠ some pos ∧ pos ≠ .intermediate ∧ ¬ flight then
            logEvent .uncommandedPosition (.unit 8) (some (if pos = .opened then 1 else 2)) alive
          else alive
      let reached : Prop := (cx.kind = some .opn ∧ pos = .opened) ∨ (cx.kind = some .close ∧ pos = .closed)
      let echoed : Prop := cx.sequence = some f.echoSeq.toNat ∧
        ((cx.kind = some .opn ∧ f.echoKind = 1) ∨ (cx.kind = some .close ∧ f.echoKind = 2))
      (flight → reached → exec c s = .next (noteChange s₀ (endCommand u .done told))) ∧
      (cx.state = .sending → ¬ reached → echoed → exec c s = .next (noteChange s₀
        ((withdrawFrames u .b (withdrawFrames u .a told)).updUnit u fun y =>
          { y with context := { y.context with
              state := .awaitingMove, nextSend := none, deadline := some (s.timebase + (s.unitRow u).operateTime) } }))) ∧
      (¬ (flight ∧ reached) → ¬ (cx.state = .sending ∧ echoed) → exec c s = .next (noteChange s₀ told))

/-- R137 to R140, R144: a request. A trip is announced before anything else of its event, the reading of the rows it
uses among it. A CONTROL request for a unit with a command in flight is refused; a TRIP over a TRIP is announced and
merged; any other starts a command with the next sequence number, at the cost of a CONTROL command in flight, and is
sent, or ends at once while its unit's row is DAMAGED. One that starts no command uses no row; one that starts uses its
unit's row, and the Link Table for the frame it sends. The model's choices: the rows are read before the request acts
(notes/assumptions/11.md), and a refusal carries the cause of its request (notes/assumptions/38.md). -/
def Obligations.CommandRequest : Prop :=
  (∀ (r : CmdRequest) (s : State), s.phase = .running →
    let s₀ := s.dropMail (.commandRequest r)
    exec (.commandRequest r) s = .next (noteChange s₀
      (takeRequest r (readUsed (requestUses r) (announceTrip r s₀))))) ∧
  (∀ (r : CmdRequest) (s : State),
    let x := s.commands[r.unit]
    let flight : Prop := x.context.state = .sending ∨ x.context.state = .awaitingMove
    (flight → r.cls = .control ∨ x.context.cls = some .trip → requestUses r s = []) ∧
    (¬ flight ∨ (r.cls = .trip ∧ x.context.cls ≠ some .trip) →
      (s.unitDamaged r.unit = false → requestUses r s = [.unit r.unit, .link]) ∧
      (s.unitDamaged r.unit = true → r.unit = 8 ∨ r.kind = .close ∨ x.position = some .opened →
        requestUses r s = [.unit r.unit]))) ∧
  (∀ (r : CmdRequest) (s : State), Ready s →
    let c := Instr.commandRequest r
    let s₀ := s.dropMail c
    let u := r.unit
    let x := s.commands[u]
    let flight : Prop := x.context.state = .sending ∨ x.context.state = .awaitingMove
    (flight → r.cls = .control →
      (∀ i, u = stepUnit i → exec c s = .next (noteChange s₀
        (hand (.unitBusyRefusal { step := i, kind := r.kind, cause := r.cause }) s₀))) ∧
      (u = 8 → exec c s = .next (noteChange s₀ (hand (.incomerOutcome r.kind .unitBusy) s₀)))) ∧
    (flight → r.cls = .trip → x.context.cls = some .trip →
      exec c s = .next (noteChange s₀ (announceTrip r s₀))) ∧
    (¬ flight ∨ (r.cls = .trip ∧ x.context.cls ≠ some .trip) → ∀ overtaken : State,
      (flight → u = 8 → ∀ k, x.context.kind = some k →
        overtaken = hand (.incomerOutcome k .overtaken) (announceTrip r s₀)) →
      (¬ flight ∨ u ≠ 8 ∨ x.context.kind = none → overtaken = announceTrip r s₀) →
      let n : Nat := match x.seqBase with
        | some b => (b + 1) % 256
        | none => 1
      let started := overtaken.updUnit u fun y =>
        { y with
          seqBase := some n
          context :=
            { state := .sending, kind := some r.kind, cls := some r.cls, sequence := some n, attempts := 0,
              nextSend := none, deadline := none, cause := some r.cause, outcome := none } }
      let cleaned : State := match x.learned with
        | some p => withdrawFrames u (otherPort p) started
        | none => started
      (s.unitDamaged u = false → exec c s = .next (noteChange s₀ (sendCommand u cleaned))) ∧
      (s.unitDamaged u = true → exec c s = .next (noteChange s₀
        (endCommand u (if r.kind = .opn ∧ x.position = some .opened then .done else .unanswered) cleaned))))) ∧
  ∀ (r : CmdRequest) (s : State),
    (r.cls = .control ∨ r.unit = 8 → announceTrip r s = s) ∧
    ∀ i k, r.cls = .trip → r.unit = stepUnit i →
      (r.cause = .unbalance ∧ k = .unbalance) ∨ (r.cause = .overheat ∧ k = .overheat) ∨
        (r.cause = .deadLine ∧ k = .deadLine) ∨ (r.cause = .settingsFault ∧ k = TripCause.settingsFault) →
      announceTrip r s = abandonNull i (hand (.tripStart i k) s)

/-- R145, R146: a command ends: its frames leave both queues, its context is IDLE after DONE and FAILED otherwise,
with COMMAND_FAILED; the outcome goes to the block that acts on it; and the failed open of a step starts the backup
trip of the incomer in the same event. -/
def Obligations.CommandEnds : Prop :=
  ∀ (u : Fin 9) (o : CmdOutcome) (s : State),
    let c := s.commands[u].context
    let quiet := (withdrawFrames u .b (withdrawFrames u .a s)).updUnit u fun x =>
      { x with context :=
          if o = .done then { CommandContext.idle with attempts := c.attempts }
          else { c with state := .failed, nextSend := none, deadline := none, outcome := some o } }
    let ended := if o = .done then quiet
      else logEvent .commandFailed (.unit u) (some (if o = .unanswered then 1 else 2)) quiet
    (∀ i, u = stepUnit i →
      (c.kind = some .close → endCommand u o s = hand (.closeOutcome i o) ended) ∧
      (c.kind = some .opn → o = .done → endCommand u o s = hand (.openOutcome i o) ended) ∧
      (c.kind = some .opn → o ≠ .done → endCommand u o s =
        takeRequest { unit := 8, kind := .opn, cls := .trip, cause := .backup }
          (logEvent .backupTrip (.unit 8) (some i.val) (hand (.openOutcome i o) ended)))) ∧
    (u = 8 → ∀ k, c.kind = some k →
      (c.cls = some .control → endCommand u o s = hand (.incomerOutcome k (.outcome o)) ended) ∧
      (c.cls ≠ some .control → endCommand u o s = ended))

/-- R136, R141, R143, R144: a send of a command's frame, and the timers of a unit. At its next-send time a command in
SENDING is sent again, or ends when its attempts are exhausted; a command that has not moved by its deadline ends
NO_MOVE; an ALIVE unit whose supervision timer runs out is SILENT, and its command in flight ends. -/
def Obligations.UnitTimers : Prop :=
  (∀ (u : Fin 9) (k : CmdKind) (cls : CmdClass) (n : Nat) (s : State),
    s.commands[u].context.kind = some k → s.commands[u].context.cls = some cls →
    s.commands[u].context.sequence = some n →
    let address := (s.unitRow u).address
    let frame : OriginFrame :=
      { cls := .command u
        frame := { destination := address, source := s.link.station, linkType := s.link.linkType
                   body := .command address k cls n } }
    sendCommand u s = (enterOrigins frame s.commands[u].learned s).updUnit u fun x =>
      { x with context := { x.context with
          attempts := x.context.attempts + 1, nextSend := some (s.timebase + (s.unitRow u).retry) } }) ∧
  ∀ (u : Fin 9) (s : State), Ready s →
    let x := s.commands[u]
    let forced : CmdOutcome := if x.context.kind = some .opn ∧ x.position = some .opened then .done else .unanswered
    (x.context.state = .sending → exec (.nextSendTime u) s = .next (noteChange (s.dropMail (.nextSendTime u))
      (if (s.unitRow u).attempts ≤ x.context.attempts then endCommand u forced (s.dropMail (.nextSendTime u))
       else sendCommand u (s.dropMail (.nextSendTime u))))) ∧
    (x.context.state ≠ .sending → exec (.nextSendTime u) s = .next (s.dropMail (.nextSendTime u))) ∧
    (x.context.state = .awaitingMove → exec (.operateDeadline u) s =
      .next (noteChange (s.dropMail (.operateDeadline u)) (endCommand u .noMove (s.dropMail (.operateDeadline u))))) ∧
    (x.context.state ≠ .awaitingMove → exec (.operateDeadline u) s = .next (s.dropMail (.operateDeadline u))) ∧
    (x.timer ≠ none → x.supervision = .alive →
      let silent := logEvent .unitSilent (.unit u) none
        ((s.dropMail (.supervisionTimerExpiry u)).updUnit u fun y => { y with supervision := .silent, learned := none })
      let told : State := match unitStep u with
        | some i => hand (.unitSupervisionNotice i .silent) silent
        | none => silent
      exec (.supervisionTimerExpiry u) s = .next (noteChange (s.dropMail (.supervisionTimerExpiry u))
        (if x.context.state = .sending ∨ x.context.state = .awaitingMove then endCommand u forced told else told))) ∧
    (x.timer = none ∨ x.supervision = .silent →
      exec (.supervisionTimerExpiry u) s = .next (s.dropMail (.supervisionTimerExpiry u)))

/-! ## Chapter 09 -/

/-- R151 to R153: what the arbiter sends at a frame boundary, and how a frame enters an origin queue: a COMMAND frame
in the place of one of its own context, or behind the COMMAND frames and ahead of all others, or at a full queue in
exchange for the earliest report or, without one, the earliest reply; any other frame at the tail, or not at all when
full. R164: a RESTART's reply that is discarded, or cannot be entered, hands over the reset that waits for it. -/
def Obligations.OriginQueue : Prop :=
  (∀ p : PortState,
    (p.linkUp = false ∨ p.tx ≠ none → p.choose = p) ∧
    (p.linkUp = true → p.tx = none →
      let command : Prop := ∃ f ∈ p.origin, f.isCommand = true
      (∀ f rest, p.origin = f :: rest → command ∨ p.originRun < 2 ∨ p.forward = [] →
        p.choose = { p with origin := rest, tx := some (.origin f), originRun := min 2 (p.originRun + 1) }) ∧
      (∀ b rest, p.forward = b :: rest → ¬ command → 2 ≤ p.originRun ∨ p.origin = [] →
        p.choose = { p with forward := rest, tx := some (.forward b), originRun := 0 }) ∧
      (p.origin = [] → p.forward = [] → p.choose = p))) ∧
  (∀ (f : OriginFrame) (p : PortState),
    let counted : PortState := { p with counts := { p.counts with displaced := (p.counts.displaced + 1) % 4294967296 } }
    (∀ u, f.cls = .command u →
      ((∃ g ∈ p.origin, g.cls = .command u) →
        p.enter f = ({ p with origin := p.origin.map fun g => if g.cls = .command u then f else g }, none)) ∧
      ((∀ g ∈ p.origin, g.cls ≠ .command u) →
        (p.origin.length < 16 → ∀ cs rest, p.origin = cs ++ rest → (∀ g ∈ cs, g.isCommand = true) →
          (∀ g ∈ rest, g.isCommand = false) → p.enter f = ({ p with origin := cs ++ f :: rest }, none)) ∧
        (16 ≤ p.origin.length →
          (∀ before g after, p.origin = before ++ g :: after → g.cls = .report → (∀ x ∈ before, x.cls ≠ .report) →
            p.enter f = ({ counted with origin := insertCommand f (before ++ after) }, some g)) ∧
          ((∀ x ∈ p.origin, x.cls ≠ .report) →
            (∀ before g after, p.origin = before ++ g :: after → g.isReply = true →
              (∀ x ∈ before, x.isReply = false) →
              p.enter f = ({ counted with origin := insertCommand f (before ++ after) }, some g)) ∧
            ((∀ x ∈ p.origin, x.isReply = false) → p.enter f = (p, none)))))) ∧
    (f.isCommand = false →
      (p.origin.length < 16 → p.enter f = ({ p with origin := p.origin ++ [f] }, none)) ∧
      (16 ≤ p.origin.length →
        p.enter f =
          ({ p with counts := { p.counts with originDrops := (p.counts.originDrops + 1) % 4294967296 } }, some f)))) ∧
  ∀ (f : OriginFrame) (s : State),
    (∀ p, enterOrigin f p s =
      if ∃ g, ((s.port p).enter f).2 = some g ∧ g.cls = .reply true then
        hand .restartReset (s.setPort p ((s.port p).enter f).1.choose)
      else s.setPort p ((s.port p).enter f).1.choose) ∧
    (∀ p, enterOrigins f (some p) s = enterOrigin f p s) ∧ enterOrigins f none s = enterOrigin f .b (enterOrigin f .a s)

/-- R149, R150, R154, R156: the stages a received frame is judged in. A malformed one goes nowhere; one of another
link type, an unknown one and one that nothing consumes are forwarded whole out of the other port; a sample frame and
a status frame are handed on as well; a request addressed to the part is consumed. A frame that is forwarded joins the tail of
the other port's forward queue, or is dropped and counted while that is full or its link DOWN. A frame of the report
destination sets the report port. Before the Link Table is loaded a frame that passes stage 1 is forwarded only. R159, R160,
R164: a consumed request whose name code is none of 1 to 21, or whose arguments cannot be read, is answered UNKNOWN_REQUEST or
RANGE. No request is read from an unknown code, nor from more or fewer bytes than its arguments need (R158). The model's
choices: how many bytes the arguments of each request take (notes/assumptions/22.md), and that a request that cannot be read is
answered in the event of its frame (notes/assumptions/31.md). -/
def Obligations.FrameStages : Prop :=
  (∀ (q : Requester) (code : Nat) (args : List Byte), readRequest q code args ≠ none →
    1 ≤ code ∧ code ≤ 21 ∧
    (code = 5 ∨ code = 6 ∨ code = 9 ∨ code = 19 ∨ code = 20 ∨ code = 21 → args = []) ∧
    (code = 4 ∨ code = 14 → args.length = 1) ∧
    (code = 8 ∨ (10 ≤ code ∧ code ≤ 13) ∨ code = 15 ∨ code = 16 ∨ code = 18 → args.length = 4) ∧
    (code = 17 → args.length = 8) ∧ (code = 1 ∨ code = 7 → args.length = 9) ∧ (code = 2 → 9 ≤ args.length) ∧
    (code = 3 → ∃ n rest, args = n :: rest ∧ rest.length = 4 * n.toNat)) ∧
  ∀ (p : Port) (bytes : List Byte) (ok : Bool) (s : State), Ready s ∨ (∃ k, s.phase = .inReset k) ∧ s.ports.link = none →
    let c := Instr.frameReceived p bytes ok
    let s₀ : State := if s.phase = .running then s.dropMail c else s
    let bs := content bytes
    let count (f : PortCounts → PortCounts) (u : State) : State :=
      u.setPort p { u.port p with counts := f (u.port p).counts }
    let sent (u : State) : State :=
      let o := u.port (otherPort p)
      u.setPort (otherPort p)
        (if o.linkUp = true ∧ o.forward.length < 8 then { o with forward := o.forward ++ [bytes] }.choose
         else { o with counts := { o.counts with forwardDrops := (o.counts.forwardDrops + 1) % 4294967296 } })
    let good : Prop := 64 ≤ bytes.length ∧ bytes.length ≤ 1518 ∧ ok = true
    let got := count (fun x => { x with received := (x.received + 1) % 4294967296 }) s₀
    (¬ good → exec c s = .next (noteChange s₀
      (count (fun x => { x with malformed := (x.malformed + 1) % 4294967296 }) s₀))) ∧
    (good → s.ports.link = none → s.phase ≠ .running → exec c s = .next (sent got)) ∧
    ∀ link, good → Ready s → s.ports.link = some link →
      let seen : State :=
        if link.destination ≠ 0 ∧ isGroup link.destination = false ∧ frameSource bs = link.destination then
          { got with ports := { got.ports with reportPort := some p } }
        else got
      let kind := frameKind bs
      (frameLinkType bs ≠ link.linkType → exec c s = .next (noteChange s₀ (sent got))) ∧
      (frameLinkType bs = link.linkType →
        (stageThree bs = false → exec c s = .next (noteChange s₀
          (sent (count (fun x => { x with unknown := (x.unknown + 1) % 4294967296 }) seen)))) ∧
        (stageThree bs = true →
          (kind = 4 → frameDestination bs = link.station → ∀ args i,
            let q : Requester := { port := p, address := frameSource bs, identifier := field bs 16 2 }
            argumentsOf bs = some args → readRequest q (field bs 18 2) args = some i →
            exec c s = .next (noteChange s₀ (hand i seen))) ∧
          (kind = 4 → frameDestination bs = link.station →
            let code := field bs 18 2
            let q : Requester := { port := p, address := frameSource bs, identifier := field bs 16 2 }
            (∀ args, argumentsOf bs = some args → readRequest q code args = none) →
            (s.agent.restartWait ≠ none → exec c s = .next (noteChange s₀ seen)) ∧
            (s.agent.restartWait = none → permitted q.address s = false → exec c s = .next (noteChange s₀
              { seen with agent := { s.agent with refusedUnheard := (s.agent.refusedUnheard + 1) % 4294967296 } })) ∧
            (Heard q s → exec c s = .next (noteChange s₀ (reply q link
              (Answer.plain (if 1 ≤ code ∧ code ≤ 21 then .range else .unknownRequest)) seen)))) ∧
          (kind ≠ 4 ∨ frameDestination bs ≠ link.station →
            (kind = 1 → exec c s = .next (noteChange s₀ (sent (hand (.sampleFrame (sampleOf p bs)) seen)))) ∧
            (kind = 2 → exec c s = .next (noteChange s₀ (sent (hand (.statusFrame (statusOf p bs)) seen)))) ∧
            (kind ≠ 1 → kind ≠ 2 → exec c s = .next (noteChange s₀ (sent seen))))))

/-- R150, R153, R154, R161, R164: the end of a transmission counts the frame, lets the arbiter choose, and after the
reply of a RESTART makes its reset due, whether the part runs or is in reset; a link that goes DOWN drops the frame being sent and the forward queue, which
it counts; a link that comes UP is a frame boundary; KEYLOCK follows its input. The model's choices: a link that goes DOWN
while the reply of a RESTART is being sent makes no reset due (notes/assumptions/25.md), and between a reset and start-up
a link and KEYLOCK follow their lines without an event (notes/assumptions/29.md). -/
def Obligations.PortEvents : Prop :=
  (∀ (p : Port) (s : State), Ready s →
    let x := s.port p
    let n : Nat := match p with
      | .a => 1
      | .b => 2
    (x.tx = none → exec (.transmissionEnd p) s = .next (s.dropMail (.transmissionEnd p))) ∧
    (∀ t, x.tx = some t →
      let ended := (s.dropMail (.transmissionEnd p)).setPort p
        { x with tx := none, counts := { x.counts with sent := (x.counts.sent + 1) % 4294967296 } }.choose
      ((∀ f, t = .origin f → f.cls ≠ .reply true) →
        exec (.transmissionEnd p) s = .next (noteChange (s.dropMail (.transmissionEnd p)) ended)) ∧
      (∀ f, t = .origin f → f.cls = .reply true →
        exec (.transmissionEnd p) s = .next (noteChange (s.dropMail (.transmissionEnd p)) (hand .restartReset ended)))) ∧
    (x.linkUp = true → exec (.portDown p) s = .next (noteChange (s.dropMail (.portDown p))
      (logEvent .portDown .none (some n) ((s.dropMail (.portDown p)).setPort p
        { x with
          linkUp := false, forward := [], tx := none
          counts := { x.counts with forwardDrops := (x.counts.forwardDrops + x.forward.length) % 4294967296 } })))) ∧
    (x.linkUp = false → exec (.portDown p) s = .next (s.dropMail (.portDown p))) ∧
    (x.linkUp = false → exec (.portUp p) s = .next (noteChange (s.dropMail (.portUp p))
      (logEvent .portUp .none (some n) ((s.dropMail (.portUp p)).setPort p { x with linkUp := true }.choose)))) ∧
    (x.linkUp = true → exec (.portUp p) s = .next (s.dropMail (.portUp p)))) ∧
  (∀ (p : Port) (k : ResetKind) (s : State), s.phase = .inReset k →
    let x := s.port p
    exec (.portUp p) s = .next (s.setPort p { x with linkUp := true }.choose) ∧
    exec (.portDown p) s = .next (s.setPort p
      { x with
        linkUp := false, forward := [], tx := none
        counts := { x.counts with forwardDrops := (x.counts.forwardDrops + x.forward.length) % 4294967296 } }) ∧
    (x.tx = none → exec (.transmissionEnd p) s = .next s) ∧
    ∀ t, x.tx = some t →
      let ended := s.setPort p
        { x with tx := none, counts := { x.counts with sent := (x.counts.sent + 1) % 4294967296 } }.choose
      ((∀ f, t = .origin f → f.cls ≠ .reply true) → exec (.transmissionEnd p) s = .next ended) ∧
      (∀ f, t = .origin f → f.cls = .reply true →
        exec (.transmissionEnd p) s = .next (hand .restartReset ended))) ∧
  ∀ (b : Bool) (s : State),
    (Ready s → exec (.keylockChange b) s = .next (noteChange (s.dropMail (.keylockChange b))
      { s.dropMail (.keylockChange b) with keylock := b })) ∧
    (s.phase ≠ .running → exec (.keylockChange b) s = .next { s with keylock := b })

/-! ## Chapter 10 -/

/-- R159, R164: while a RESTART waits no request has any effect; a requester that is not permitted is counted and gets no
reply. A reply is one frame to the requester out of the port its request came in at, and counts as answered. R37, R160, R163,
R170, R173: the requests that read answer what they name, and change nothing else; READ_EVENTS answers at most 64 entries,
from the named number on, or from the oldest for a number before it, or none for one after the newest. R163: what a row, a
result record (R37) and each section holds, in the order of R158: YARD with R50 and R165, STEPS with R73, R90 and R112, UNITS
with R148, CONTROL with R133 and R73, PORTS with R154; a Stream row with R14. R169, R172: what an event entry, a trigger
record and a capture position hold. The model's choices: the numbers of named values that no list gives, the no 1 and
yes 2 of KEYLOCK and of a row's DAMAGED mark among them, and a record that is absent, field by field (notes/assumptions/21.md);
a channel map without a count, a null capture count of 0 in IDLE, seconds remaining rounded up, a STOPPED timer's count of 0
(notes/assumptions/54.md, 56.md, 57.md, 59.md); the newest number of an empty list, and how far ahead of the newest a number
lies after it (notes/assumptions/23.md), that a request passed over for a RESTART is not counted (notes/assumptions/60.md),
that the figures of a READ_STATUS reply stand from before the reply is counted and entered (notes/assumptions/65.md), and that
READ_CAPTURE of an offset above 1,023 is refused RANGE also where the buffer is not READY (notes/assumptions/67.md). -/
def Obligations.RequestsAndReads : Prop :=
  (∀ (c : Instr) (q : Requester) (s : State), requesterOf c = some q → Ready s →
    (s.agent.restartWait ≠ none → exec c s = .next (s.dropMail c)) ∧
    (s.agent.restartWait = none → permitted q.address s = false → exec c s = .next (noteChange (s.dropMail c)
      { s.dropMail c with agent := { s.agent with refusedUnheard := (s.agent.refusedUnheard + 1) % 4294967296 } }))) ∧
  (∀ (q : Requester) (link : LinkRow) (a : Answer) (s : State),
    reply q link a s = enterOrigin
      { cls := .reply a.restart
        frame := { destination := q.address, source := link.station, linkType := link.linkType
                   body := .reply q.identifier (codeNumber a.code) a.clamped a.fromHold a.data } }
      q.port { s with agent := { s.agent with answered := (s.agent.answered + 1) % 4294967296 } }) ∧
  (∀ (n : Nat) (s : State),
    let es := s.events.entries
    let newest := (s.events.next + 4294967295) % 4294967296
    let ahead := (n + 4294967296 - newest) % 4294967296
    newestSequence s = newest ∧
    (∀ before e after, es = before ++ e :: after → e.sequence = n → (∀ x ∈ before, x.sequence ≠ n) →
      eventsRead n s = (e :: after).take 64) ∧
    ((∀ x ∈ es, x.sequence ≠ n) →
      (0 < ahead → ahead < 2147483648 → eventsRead n s = []) ∧
      (ahead = 0 ∨ 2147483648 ≤ ahead → eventsRead n s = es.take 64))) ∧
  (∀ s : State,
    let num (n : Nat) : Item := .num n
    let opt (n : Option Nat) : Item := .optNum (n.map Int.ofNat)
    let flag (b : Bool) : Item := .name (if b = true then 1 else 2)
    let yes (b : Bool) : Item := .name (if b = true then 2 else 1)
    let list (xs : List Nat) : List Item := .count xs.length :: xs.map num
    let up (ms : Nat) : Nat := (ms + 999) / 1000
    let t := s.memory.tables
    let m := s.memory
    let mark (b : Bool) (xs : List Item) : List Item := xs ++ [yes b]
    (∀ i, rowItems s (.stream i) =
      let r := t.stream[i].row
      let x := s.acceptance.streams[i]
      mark t.stream[i].damaged
        ([yes r.inUse, .addr r.address, num r.streamNumber, num r.channelCount] ++
          r.map.toList.map (fun k => opt (k.map Fin.val)) ++ [num r.lossTimeout, yes r.acceptSimulated] ++
          [.name (match x.status with
            | .idle => 1
            | .running => 2
            | .lost => 3),
          opt x.lastCounter, num x.framesAccepted, num x.counterGaps, num x.badQuality, num x.wrongCount])) ∧
    (∀ k, rowItems s (.input k) =
      mark t.input[k].damaged
        [num t.input[k].row.nominal, .name (if k.val < 3 then 1 else 2),
          .name (match s.acceptance.inputs[k].fill with
            | .unmapped => 1
            | .aligning => 2
            | .collecting => 3),
          num s.acceptance.inputs[k].overruns]) ∧
    (∀ i, rowItems s (.step i) =
      let r := t.step[i].row
      mark t.step[i].damaged
        [yes r.inUse, yes r.neutralPresent, num r.alarmLevel, num r.tripLevel, num r.alarmDelay, num r.tripDelay,
          .name (match r.compMode with
            | .none => 1
            | .auto => 2
            | .manual => 3),
          .num r.kr, .num r.ki, num r.rated, num r.thermalCode, num r.heatAlarm, num r.heatTrip, num r.heatReclose,
          num r.dischargeTime, num r.opsLimit, num r.opsBase, num r.decayPeriod]) ∧
    (∀ i, rowItems s (.harmonic i) =
      let r := t.harmonic[i].row
      mark t.harmonic[i].damaged [yes r.supervise, num r.alarmLevel, num r.blockLevel, num r.pickup, num r.dropout]) ∧
    (∀ c, rowItems s (.resonance c) = mark t.resonance[c].damaged (list t.resonance[c].row.orders)) ∧
    (rowItems s .yard =
      let r := t.yard.row
      mark t.yard.damaged
        [num r.frequency, num r.uLo, num r.uHi, num r.stepRise, num r.highDelay, num r.lowDelay, num r.settleTime,
          num r.deadLevel, num r.deadDelay, num r.restoreHold, num r.maxSteps,
          .name (match r.startMode with
            | .auto => 1
            | .manual => 2),
          num r.selectTimeout]) ∧
    (∀ u, rowItems s (.unit u) =
      let r := t.unit[u].row
      mark t.unit[u].damaged [.addr r.address, num r.retry, num r.attempts, num r.operateTime, num r.statusTimeout]) ∧
    (rowItems s .link =
      let r := t.link.row
      mark t.link.damaged ([.addr r.station, num r.linkType, .addr r.destination, num r.period,
        .count r.requesters.length] ++ r.requesters.map .addr)) ∧
    (sectionItems .yard s = yardSummary s ++
      [yes s.keylock, num s.agent.refusedUnheard, num s.agent.answered, flag (harmonicAlarm s), num s.harmonic.nextCount,
        flag s.harmonic.nextBlocked, num m.corrected, num m.damaged] ++
      match m.firstError with
      | some (r, .corrected) => [.name (tableNumber r), opt (some (rowNumber r)), .name 1]
      | some (r, .damaged) => [.name (tableNumber r), opt (some (rowNumber r)), .name 2]
      | none => [.name 255, opt none, .name 255]) ∧
    (sectionItems .steps s = (List.finRange 8).flatMap (fun i =>
        let u := s.unbalance.steps[i]
        let d := s.duty.steps[i]
        let x := s.supervisor.steps[i]
        [opt u.lastU, num u.alarmCount, num u.tripCount, flag u.alarm, flag u.inputInvalid, flag u.tripOperated] ++
        [num d.heat, num d.lastP, flag d.heatAlarm, flag d.heatTripOperated,
          num ((d.discharge.map fun ms => max 1 (up ms)).getD 0), num d.operations, flag d.dutyBar,
          num ((d.decay.map up).getD 0)] ++
        [.name (stepStateNumber x.state), .name ((x.opClass.map cmdClassNumber).getD 255),
          .name ((x.opCause.map causeNumber).getD 255), yes x.slotHeld,
          .name ((x.lockoutPending.map lockoutNumber).getD 255), .name ((x.lockoutCause.map lockoutNumber).getD 255),
          .name (positionNumber x.lastPosition),
          .name ((x.settledPosition.map fun p => positionNumber (some p)).getD 255),
          .name (supervisionNumber x.unitSupervision), flag x.unsupervised, flag x.outOfServiceClose]) ++
      list (s.supervisor.openList.map Fin.val) ++ list (s.supervisor.closedList.map Fin.val)) ∧
    (sectionItems .units s = (List.finRange 9).flatMap fun u =>
      let x := s.commands[u]
      let c := x.context
      [.name (positionNumber x.position), .name (if x.ready = true then 1 else 0), .name (supervisionNumber x.supervision),
        .name (learnedNumber x.learned)] ++
      [.name (contextNumber c.state), .name ((c.kind.map cmdKindNumber).getD 255), .name ((c.cls.map cmdClassNumber).getD 255),
        opt c.sequence, num c.attempts, .name ((c.cause.map cmdCauseNumber).getD 255),
        .name ((c.outcome.map outcomeNumber).getD 255)] ++
      [opt (c.deadline.map fun d => d - s.timebase)]) ∧
    (sectionItems .control s =
      let w := s.switching
      let counted (b : BandTimer) : Item := num (match b with
        | .stopped => 0
        | .running n => n
        | .paused n => n)
      let entry (e : QueueEntry) : List Item := match e.origin with
        | .manual x => [.name (cmdKindNumber e.kind), .name 1, opt (some x.val), .name 255, num e.arrival]
        | .auto r => [.name (cmdKindNumber e.kind), .name 2, opt none, .name (reasonNumber r), num e.arrival]
      [opt w.vctrl, flag w.valid, num w.deadCount, .name (lineNumber w.line), num (w.restore.getD 0),
        .name (controlNumber w.control), counted w.high, counted w.low, num (w.settle.getD 0), flag w.expiryHeld.isSome,
        .count w.queue.length] ++ w.queue.flatMap entry ++
      (match w.holder with
        | some h => [.name (if h.reason.isSome = true then 2 else 1), .name (cmdKindNumber h.kind), opt (some h.target.val),
            .name ((h.reason.map reasonNumber).getD 255)]
        | none => [.name 255, .name 255, opt none, .name 255]) ++
      (match w.selection with
        | some x => [opt (some x.target.val), .name (cmdKindNumber x.action), .optAddr (some x.requester),
            opt (some (x.expiry - s.timebase))]
        | none => [opt none, .name 255, .optAddr none, opt none]) ++
      match s.unbalance.context with
      | some c => [.name 2, opt (some c.step.val), num c.counted]
      | none => [.name 1, opt none, num 0]) ∧
    (sectionItems .ports s =
      let port (p : PortState) : List Item :=
        [num p.counts.received, num p.counts.malformed, num p.counts.unknown, num p.counts.forwardDrops,
          num p.counts.originDrops, num p.counts.displaced, num p.counts.sent, flag p.linkUp, num p.forward.length,
          num p.origin.length]
      port s.ports.lineA ++ port s.ports.lineB ++ [.name (learnedNumber s.ports.reportPort)]) ∧
    ∀ r : ResultRecord, recordItems r =
      [num r.sequence,
        .name (match r.quality with
          | .good => 0
          | .doubtful => 1
          | .invalid => 3),
        yes r.lowFundamental, num r.start, .num r.r1, .num r.i1] ++ r.rms.toList.map num ++ r.ratios.toList.map num ++
        [num r.thd, num r.age]) ∧
  (∀ e : EventEntry, entryItems e =
    [.num e.sequence, .num e.stamp, .name (eventNumber e.kind), .subject e.subject, .optNum (e.value.map Int.ofNat)]) ∧
  (∀ (kind : TriggerKind) (step : Option (Fin 8)) (stamp : Nat),
    triggerItems (some { kind := kind, step := step, stamp := stamp }) =
      [.name (triggerNumber kind), .name ((step.map Fin.val).getD 255), .num stamp]) ∧
  (∀ (b : CaptureBuffer) (offset : Nat),
    let position (k : Fin 7) (p : Nat) : Option CapSample :=
      let c := b.channels[k]
      if p < 256 then (if 256 ≤ p + c.before.length then c.before[p + c.before.length - 256]? else none)
      else c.after[p - 256]?
    positionItems b offset = (List.range (min 32 (1024 - offset))).flatMap fun j =>
      (List.finRange 7).map fun k => .sample (position k (offset + j))) ∧
  [.unbalanceTrip, .heatTrip, .breakerFailure, .lineDead].map triggerNumber = List.range' 1 4 ∧
  [.stepWithdrawn, .stepUnresolved, .stepCooling, .stepReady, .stepClosing, .stepIn, .stepOpening, .stepLockout, .stepFailed,
    .positionIntermediate, .closedUndischarged, .closedOutOfService, .positionUnsupervised, .positionSupervised,
    .unbalanceAlarm, .unbalanceAlarmClear, .unbalanceTrip, .unbalanceInputInvalid, .nullDone, .nullAborted, .heatAlarm,
    .heatAlarmClear, .heatTrip, .dutyBarSet, .dutyBarClear, .harmonicAlarmOn, .harmonicAlarmOff, .resonanceBlockOn,
    .resonanceBlockOff, .measInvalid, .measValid, .lineDead, .lineRestore, .lineLive, .closeDeferred, .openDeferred,
    .manualRefused, .switchDone, .switchFailed, .switchOvertaken, .selectExpired, .selectionRemoved, .commandFailed,
    .backupTrip, .unitSilent, .unitAlive, .uncommandedPosition, .streamLost, .streamRunning, .portDown, .portUp,
    .tableDamaged, .storeDone, .storeFailed, .storeInvalid, .startUp, .captureReady, .captureMissed].map eventNumber =
    List.range' 1 58 ∧
  [.opn, .close].map cmdKindNumber = [1, 2] ∧ [.trip, .control].map cmdClassNumber = [1, 2] ∧
  [.idle, .sending, .awaitingMove, .failed].map contextNumber = List.range' 1 4 ∧
  [.unanswered, .noMove].map outcomeNumber = [1, 2] ∧ [none, some .a, some .b].map learnedNumber = List.range' 1 3 ∧
  [.high, .low, .detune].map reasonNumber = List.range' 1 3 ∧
  [.autoVoltage, .autoDetune, .manual, .closeFail, .unbalance, .overheat, .deadLine, .settingsFault, .backup].map
    cmdCauseNumber = List.range' 1 9 ∧
  [.restore, .resolved, .intermediate, .withdraw, .settingsFault, .grant, .closeDone, .control, .deadLine, .overheat,
    .unbalance, .closeFail, .openFail, .breakerFail, .uncommandedOpen, .uncommandedClose, .discharged, .recharge,
    .lockoutReset, .unitBusy].map causeNumber = List.range' 1 20 ∧
  [.settingsFault, .unbalance, .closeFail, .breakerFail].map lockoutNumber = [5, 11, 12, 14] ∧
  ∀ (q : Requester) (s : State), Ready s → Heard q s →
    let answers (c : Instr) (a : Answer) : Prop :=
      exec c s = .next (noteChange (s.dropMail c) (reply q s.link a (s.dropMail c)))
    (∀ t first n rows, addressed t first n = some rows →
      answers (.readRows q (some t) first n) (Answer.okData (rows.flatMap (rowItems s)))) ∧
    (∀ t first n, addressed t first n = none → answers (.readRows q (some t) first n) (Answer.plain .range)) ∧
    (∀ first n, answers (.readRows q none first n) (Answer.plain .range)) ∧
    (∀ ms : List (Fin 38), 1 ≤ ms.length → ms.length ≤ 8 →
      answers (.readResults q (ms.map Fin.val))
        { Answer.okData (ms.flatMap fun m =>
            recordItems (if s.engine.hold = none then s.engine.results[m] else s.engine.holdCopy[m])) with
          fromHold := s.engine.hold.isSome }) ∧
    (∀ xs, xs = [] ∨ 8 < xs.length ∨ (∃ x ∈ xs, 38 ≤ x) → answers (.readResults q xs) (Answer.plain .range)) ∧
    (∀ x, answers (.readStatus q (some x)) (Answer.okData (sectionItems x (s.dropMail (.readStatus q (some x)))))) ∧
    answers (.readStatus q none) (Answer.plain .range) ∧
    (∀ n, answers (.readEvents q n) (Answer.okData
      ([.name (if s.events.lost = true then 1 else 2), .num (newestSequence s), .count (eventsRead n s).length] ++
        (eventsRead n s).flatMap entryItems))) ∧
    (∀ b offset,
      (1023 < offset → answers (.readCapture q (some b) offset) (Answer.plain .range)) ∧
      (offset ≤ 1023 → s.events.buffers[b].status = .ready → answers (.readCapture q (some b) offset)
        (Answer.okData (triggerItems s.events.buffers[b].trigger ++ positionItems s.events.buffers[b] offset))) ∧
      (offset ≤ 1023 → s.events.buffers[b].status ≠ .ready →
        answers (.readCapture q (some b) offset) (Answer.plain .notPosition))) ∧
    ∀ offset, answers (.readCapture q none offset) (Answer.plain .range)

/-- R129, R130: SELECT, OPERATE and CANCEL. SELECT judges the operation as a grant would, but while the Yard Table is
DAMAGED it refuses any close of a step with SETTINGS, and it keeps token, expiry and requester; OPERATE with both right makes
the MANUAL entry, at a full queue in place of the AUTO entry, and removes the record; CANCEL removes it whoever sends it.
The model's choices: only the low 16 bits of a token count (notes/assumptions/20.md), SETTINGS is named whatever the
state of the step (read from R129; notes/assumptions/43.md), a SELECT of the incomer's close too expires
after 30 s while the Yard Table is DAMAGED (notes/assumptions/51.md), and a held expiry of the low timer that
CANCEL or OPERATE frees is judged with the maximum steps in service in force then (notes/assumptions/63.md). -/
def Obligations.SelectBeforeOperate : Prop :=
  ∀ (q : Requester) (s : State), Ready s → Heard q s →
    let w := s.switching
    let ends (c : Instr) (a : Answer) (u : State) : Prop :=
      exec c s = .next (noteChange (s.dropMail c) (reply q s.link a u))
    let turned (c : Instr) (a : Answer) : Prop := ends c a (s.dropMail c)
    (∀ target action token, 9 ≤ target ∨ action = none →
      turned (.select q target action token) (Answer.plain .range)) ∧
    (∀ (t : Fin 9) (k : CmdKind) (token : Nat),
      let c := Instr.select q t.val (some k) token
      let time : Nat := if s.yardDamaged = true then 30 else s.yard.selectTimeout
      let made : Selection :=
        { target := t, action := k, token := token % 65536, expiry := s.timebase + time * 1000, requester := q.address }
      (w.selection ≠ none → turned c (Answer.plain .selectBusy)) ∧
      (w.selection = none →
        let settings : Prop := s.yardDamaged = true ∧ t ≠ 8 ∧ k = .close
        (settings → turned c { Answer.plain .notPosition with data := [.name 6] }) ∧
        (∀ x, ¬ settings → manualCheck t k s = some x →
          turned c { Answer.plain .notPosition with data := [.name (conditionNumber x)] }) ∧
        (¬ settings → manualCheck t k s = none → ends c (Answer.plain .ok)
          { s.dropMail c with switching := { w with selection := some made } }))) ∧
    (∀ token, w.selection = none → turned (.operate q token) (Answer.plain .noSelection)) ∧
    (w.selection = none → turned (.cancel q) (Answer.plain .noSelection)) ∧
    ∀ x, w.selection = some x →
      ends (.cancel q) (Answer.plain .ok) (dropSelection (s.dropMail (.cancel q))) ∧
      ∀ token,
        let c := Instr.operate q token
        let auto : Prop := ∃ e ∈ w.queue, e.isAuto = true
        let entry : QueueEntry := { kind := x.action, origin := .manual x.target, arrival := s.timebase }
        (x.requester ≠ q.address ∨ x.token ≠ token % 65536 → turned c (Answer.plain .token)) ∧
        (x.requester = q.address → x.token = token % 65536 →
          (4 ≤ w.queue.length → ¬ auto → turned c (Answer.plain .queueFull)) ∧
          (w.queue.length < 4 → ends c (Answer.plain .queued)
            (dropSelection (grantWaiting
              { s.dropMail c with switching := { w with queue := insertEntry entry w.queue } }))) ∧
          (4 ≤ w.queue.length → auto → ends c (Answer.plain .queued)
            (dropSelection (arrive x.action (.manual x.target)
              (startSettle (withdrawAuto .queueFull (s.dropMail c)))))))

/-- R107 to R109, R67: the requests about a step, each with its refusals in order. -/
def Obligations.StepRequests : Prop :=
  ∀ (q : Requester) (s : State), Ready s → Heard q s →
    let ends (c : Instr) (a : Code) (u : State) : Prop :=
      exec c s = .next (noteChange (s.dropMail c) (reply q s.link (Answer.plain a) u))
    let turned (c : Instr) (a : Code) : Prop := ends c a (s.dropMail c)
    (∀ n, 8 ≤ n → turned (.withdraw q n) .range ∧ turned (.restore q n) .range ∧ turned (.resetLockout q n) .range ∧
      (s.keylock = false → turned (.null q n) .range)) ∧
    (∀ n, s.keylock = true → turned (.null q n) .locked) ∧
    ∀ i : Fin 8,
      let x := s.supervisor.steps[i]
      let usable : Prop := (s.stepRow i).inUse = true ∧ s.stepDamaged i = false
      let rests : Prop := x.state = .unresolved ∨ x.state = .cooling ∨ x.state = .ready ∨ x.state = .lockout
      let record := s.engine.results[stepInput i 3]
      (rests → ends (.withdraw q i.val) .ok (moveStep i .withdrawn .withdraw (s.dropMail (.withdraw q i.val)))) ∧
      (¬ rests → turned (.withdraw q i.val) .stepBusy) ∧
      (¬ usable → turned (.restore q i.val) .range ∧ turned (.resetLockout q i.val) .range) ∧
      (usable →
        (x.state = .withdrawn →
          ends (.restore q i.val) .ok (moveStep i .unresolved .restore (s.dropMail (.restore q i.val)))) ∧
        (x.state ≠ .withdrawn → turned (.restore q i.val) .stepBusy) ∧
        (x.state ≠ .lockout → turned (.resetLockout q i.val) .stepBusy) ∧
        (x.state = .lockout → x.unitSupervision = .alive → x.lastPosition = some .opened →
          ends (.resetLockout q i.val) .ok (moveStep i (if 0 < dischargeRemaining i s then .cooling else .ready)
            .lockoutReset (s.dropMail (.resetLockout q i.val)))) ∧
        (x.state = .lockout → x.unitSupervision = .silent ∨ x.lastPosition ≠ some .opened →
          turned (.resetLockout q i.val) .notPosition)) ∧
      (s.keylock = false →
        (¬ usable ∨ (s.stepRow i).neutralPresent = false → turned (.null q i.val) .range) ∧
        (usable → (s.stepRow i).neutralPresent = true →
          (s.unbalance.context ≠ none → turned (.null q i.val) .busy) ∧
          (s.unbalance.context = none →
            (x.state ≠ .inService ∨ record.quality ≠ .good → turned (.null q i.val) .notPosition) ∧
            (x.state = .inService → record.quality = .good → ends (.null q i.val) .ok
              { s.dropMail (.null q i.val) with unbalance := { s.unbalance with
                  context := some { step := i, counted := 0, sumR := 0, sumI := 0 } } }))))

/-- R35, R36, R132, R160, R164, R165, R167, R170, R173: the other requests that change the part: HOLD, RELEASE,
SET_MODE, ACK_EVENTS, FREE_CAPTURE, STORE, CLEAR_TABLE_ERROR and RESTART. The model's choices: a STORE copies no row in
the event that takes it (notes/assumptions/26.md), and whether a number lies after the newest entry of an empty list is
told from the entry written last (notes/assumptions/23.md). -/
def Obligations.OtherRequests : Prop :=
  ∀ (q : Requester) (s : State), Ready s → Heard q s →
    let w := s.switching
    let ends (c : Instr) (a : Answer) (u : State) : Prop :=
      exec c s = .next (noteChange (s.dropMail c) (reply q s.link a u))
    let turned (c : Instr) (a : Answer) : Prop := ends c a (s.dropMail c)
    let ok := Answer.plain .ok
    ends (.hold q) ok
      { s.dropMail (.hold q) with engine := { s.engine with holdCopy := s.engine.results, hold := some 2000 } } ∧
    ends (.release q) ok { s.dropMail (.release q) with engine := { s.engine with hold := none } } ∧
    turned (.setMode q none) (Answer.plain .range) ∧
    (w.control = .manual → turned (.setMode q (some .manual)) ok) ∧
    (w.control ≠ .manual → ends (.setMode q (some .manual)) ok (withdrawAuto .mode
      { s.dropMail (.setMode q (some .manual)) with switching := { w with
          control := .manual, high := .stopped, low := .stopped, expiryHeld := none, settle := none } })) ∧
    (s.yardDamaged = true →
      turned (.setMode q (some .auto)) { Answer.plain .notPosition with data := [.name 6] }) ∧
    (s.yardDamaged = false →
      (w.control = .manual → ends (.setMode q (some .auto)) ok
        { s.dropMail (.setMode q (some .auto)) with switching := { w with control := .autoWatch } }) ∧
      (w.control ≠ .manual → turned (.setMode q (some .auto)) ok)) ∧
    (∀ before e after, s.events.entries = before ++ e :: after → (∀ x ∈ before, x.sequence ≠ e.sequence) →
      ends (.ackEvents q e.sequence) ok { s.dropMail (.ackEvents q e.sequence) with
        events := { s.events with entries := after, lost := false } }) ∧
    (∀ n, (∀ x ∈ s.events.entries, x.sequence ≠ n) →
      (afterNewest n s = true → turned (.ackEvents q n) (Answer.plain .range)) ∧
      (afterNewest n s = false → ends (.ackEvents q n) ok
        { s.dropMail (.ackEvents q n) with events := { s.events with lost := false } })) ∧
    turned (.freeCapture q none) (Answer.plain .range) ∧
    (∀ b : Fin 2,
      let c := Instr.freeCapture q (some b)
      let o := s.events.buffers[otherBuffer b].status
      (s.events.buffers[b].status ≠ .ready → turned c (Answer.plain .notPosition)) ∧
      (s.events.buffers[b].status = .ready → ends c ok ((s.dropMail c).updBuffer b fun _ =>
        if o = .armed ∨ o = .recording then CaptureBuffer.free else CaptureBuffer.armed))) ∧
    (s.keylock = true → turned (.store q) (Answer.plain .locked)) ∧
    (s.keylock = false →
      (s.memory.storing = true → turned (.store q) (Answer.plain .busy)) ∧
      (s.memory.storing = false → ends (.store q) ok { s.dropMail (.store q) with memory :=
        { s.memory with storing := true, copied := 0, imageValid := false } })) ∧
    ends (.clearTableError q) ok
      { s.dropMail (.clearTableError q) with memory := { s.memory with firstError := none } } ∧
    ends (.restart q) { ok with restart := true }
      { s.dropMail (.restart q) with agent := { s.agent with restartWait := some 0 } }

/-- R160 to R162: WRITE_ROWS. The agent's own checks come first, in order; a write its owner refuses is answered with the
owner's code and changes nothing; one it takes is answered OK, with the CLAMPED mark where a field was clamped. Then each
table's checks in order, its clamps, and what a write does at once: R113, R114 the Yard Table; R1 to R4 the Stream Table;
R5 the Input Table; R56, R57, R74, R91 the Step Table; R39 to R42 the Harmonic Limit and Resonance Tables; R134, R147 the
Breaker Unit Table; R155, R156 the Link Table. `placed` are the rows of a request with the numbers they are written to, `v`
the table as it stands after the write. The timers that R114 has expire are those of O33. A row whose supervise flag is yes
has its six alarm elements, those that were missing in OFF; any other row loses them, with a HARMONIC_ALARM_OFF for each that
stood (R42, R45). R2, R134: every step keeps the table laws of the Stream and Breaker Unit Tables,
in a VALID image too. The model's choices: the order of a row's inputs (notes/assumptions/14.md), which row of several is
judged first (notes/assumptions/33.md), that a start mode is numbered by its own list, AUTO 1 and MANUAL 2
(notes/assumptions/21.md), a flag or a mode of no value (notes/assumptions/35.md), K and a change judged against a
DAMAGED row (notes/assumptions/36.md and 44.md), and the gap count of a stream that ends (notes/assumptions/47.md). -/
def Obligations.TableWrites : Prop :=
  (∀ (q : Requester) (first : Nat) (rows : RawRows) (s : State), Ready s → Heard q s →
    let c := Instr.writeRows q first rows
    let s₀ := s.dropMail c
    let ends (a : Answer) (u : State) : Prop := exec c s = .next (noteChange s₀ (reply q s.link a u))
    (addressed (rawTable rows) first (rawCount rows) = none → ends (Answer.plain .range) s₀) ∧
    (addressed (rawTable rows) first (rawCount rows) ≠ none →
      (s.keylock = true → ends (Answer.plain .locked) s₀) ∧
      (s.keylock = false → s.memory.storing = true → ends (Answer.plain .busy) s₀) ∧
      (s.keylock = false → s.memory.storing = false →
        (∀ x, writeTable first rows s₀ = .error x → ends (Answer.plain x) s₀) ∧
        (∀ clamped u, writeTable first rows s₀ = .ok (clamped, u) →
          ends { Answer.plain .ok with clamped := clamped } u)))) ∧
  (∀ (r : RawYard) (s : State),
    let fields : Prop := (r.frequency = 50 ∨ r.frequency = 60) ∧ 1 ≤ r.maxSteps ∧ r.maxSteps ≤ 8 ∧
      (r.startMode = 1 ∨ r.startMode = 2)
    let level (x : Int) : Nat := (max 1 (min 8388607 x)).toNat
    let delay (lo hi : Int) (x : Int) : Nat := (max lo (min hi x)).toNat
    let dead : Nat := (max 0 (min 8388607 r.deadLevel)).toNat
    let inRange (lo hi x : Int) : Prop := lo ≤ x ∧ x ≤ hi
    let exact : Prop := inRange 1 8388607 r.uLo ∧ inRange 1 8388607 r.uHi ∧ inRange 1 8388607 r.stepRise ∧
      inRange 0 8388607 r.deadLevel ∧ inRange 1 600 r.highDelay ∧ inRange 1 600 r.lowDelay ∧
      inRange 5 600 r.settleTime ∧ inRange 1 100 r.deadDelay ∧ inRange 5 600 r.restoreHold ∧
      inRange 5 120 r.selectTimeout
    let row : YardRow :=
      { frequency := r.frequency.toNat, uLo := level r.uLo, uHi := level r.uHi, stepRise := level r.stepRise
        highDelay := delay 1 600 r.highDelay, lowDelay := delay 1 600 r.lowDelay
        settleTime := delay 5 600 r.settleTime, deadLevel := dead, deadDelay := delay 1 100 r.deadDelay
        restoreHold := delay 5 600 r.restoreHold, maxSteps := r.maxSteps.toNat
        startMode := if r.startMode = 1 then .auto else .manual, selectTimeout := delay 5 120 r.selectTimeout }
    (¬ fields → writeTable 0 (.yard [r]) s = .error .range) ∧
    (fields → row.uHi ≤ row.uLo + row.stepRise → writeTable 0 (.yard [r]) s = .error .bandNarrow) ∧
    (fields → row.uLo + row.stepRise < row.uHi → row.uLo ≤ row.deadLevel →
      writeTable 0 (.yard [r]) s = .error .order) ∧
    (fields → row.uLo + row.stepRise < row.uHi → row.deadLevel < row.uLo → ∃ clamped,
      (clamped = true ↔ ¬ exact) ∧ writeTable 0 (.yard [r]) s =
        .ok (clamped, expireReached (s.putTables { s.memory.tables with
          yard := { row := row, damaged := false, upset := .clean, latent := none } })))) ∧
  (∀ (first : Nat) (raws : List RawStream) (placed : List (Fin 16 × RawStream)) (v : Vector (Held StreamRow) 16)
      (s : State),
    let t := s.memory.tables
    let inRange (lo hi x : Int) : Prop := lo ≤ x ∧ x ≤ hi
    let entry (e : Option Int) : Option (Fin 38) :=
      e.bind fun m => if h : m.toNat < 38 then some ⟨m.toNat, h⟩ else none
    let row (r : RawStream) : StreamRow :=
      { inUse := r.inUse = 2, address := r.address, streamNumber := r.streamNumber.toNat
        channelCount := r.channelCount.toNat, map := r.map.map entry
        lossTimeout := (max 2 (min 50 r.lossTimeout)).toNat, acceptSimulated := r.acceptSimulated = 2 }
    let fields (r : RawStream) : Prop := (r.inUse = 1 ∨ r.inUse = 2) ∧ inRange 0 65535 r.streamNumber ∧
      inRange 1 12 r.channelCount ∧ (r.acceptSimulated = 1 ∨ r.acceptSimulated = 2) ∧
      ∀ (j : Fin 12) (m : Int), r.map[j] = some m → (j.val : Int) < r.channelCount ∧ inRange 0 37 m
    let held (i : Fin 16) : Prop := s.acceptance.streams[i].status = .running ∧
      ∃ (j : Fin 12) (k : Fin 8) (n : Fin 4), t.stream[i].row.map[j] = some (stepInput k n) ∧ s.stepState k ≠ .withdrawn
    let law : Prop :=
      (∀ i j : Fin 16, i ≠ j → v[i].damaged = false → v[j].damaged = false → v[i].row.inUse = true →
        v[j].row.inUse = true → v[i].row.address = v[j].row.address → v[i].row.streamNumber ≠ v[j].row.streamNumber) ∧
      ∀ (i j : Fin 16) (p q : Fin 12) (m : Fin 38), v[i].damaged = false → v[j].damaged = false →
        v[i].row.map[p] = some m → v[j].row.map[q] = some m → i = j ∧ p = q
    placed.map (fun x => x.1.val) = List.range' first raws.length → placed.map Prod.snd = raws →
    (∀ x ∈ placed, v[x.1] = Held.fresh (row x.2)) → (∀ i, (∀ x ∈ placed, x.1 ≠ i) → v[i] = t.stream[i]) →
    ((∃ r ∈ raws, ¬ fields r) → writeTable first (.stream raws) s = .error .range) ∧
    ((∀ r ∈ raws, fields r) →
      ((∃ x ∈ placed, held x.1) → writeTable first (.stream raws) s = .error .stepInService) ∧
      ((∀ x ∈ placed, ¬ held x.1) →
        (¬ law → writeTable first (.stream raws) s = .error .duplicate) ∧
        (law → ∃ clamped, (clamped = true ↔ ∃ r ∈ raws, ¬ inRange 2 50 r.lossTimeout) ∧
          writeTable first (.stream raws) s = .ok (clamped, placed.foldl
            (fun u x => streamRewritten x.1 t.stream[x.1] u) (s.putTables { t with stream := v })))))) ∧
  (∀ (i : Fin 16) (old : Held StreamRow) (s : State),
    let new := s.memory.tables.stream[i]
    let kept : Prop := old.damaged = false ∧ old.row.inUse = new.row.inUse ∧ old.row.address = new.row.address ∧
      old.row.streamNumber = new.row.streamNumber ∧ old.row.channelCount = new.row.channelCount ∧
      old.row.map = new.row.map
    let goes (fill : FillState) (m : Fin 38) (u : State) : State := u.updInput m fun x =>
      { x with fill := fill, windows := x.windows.map fun w => if w.state = .filling then Window.empty else w }
    let ended := (old.row.map.toList.filterMap id).foldl
      (fun u m => if fed u.memory.tables m then u else withdrawInput m (goes .unmapped m u))
      (s.updStream i fun _ =>
        { status := .idle, lastCounter := none, lastValues := Vector.replicate 12 none, gapCount := 0, loss := none
          framesAccepted := 0, counterGaps := 0, badQuality := 0, wrongCount := 0 })
    (kept → streamRewritten i old s = s) ∧
    (¬ kept → new.row.inUse = true → new.damaged = false → streamRewritten i old s =
      (new.row.map.toList.filterMap id).foldl
        (fun u m => if u.memory.tables.input[m].damaged then u else goes .aligning m u) ended) ∧
    (¬ kept → (new.row.inUse = false ∨ new.damaged = true) → streamRewritten i old s = ended)) ∧
  (∀ (t : Tables) (m : Fin 38), fed t m = true ↔ ∃ (i : Fin 16) (j : Fin 12),
    t.stream[i].row.inUse = true ∧ t.stream[i].damaged = false ∧ t.stream[i].row.map[j] = some m) ∧
  (∀ (first : Nat) (raws : List RawInput) (placed : List (Fin 38 × RawInput)) (v : Vector (Held InputRow) 38)
      (s : State),
    let t := s.memory.tables
    let fields (x : Fin 38 × RawInput) : Prop := 1 ≤ x.2.nominal ∧ x.2.nominal ≤ 8388607 ∧
      x.2.kind = if x.1.val < 3 then 1 else 2
    placed.map (fun x => x.1.val) = List.range' first raws.length → placed.map Prod.snd = raws →
    (∀ x ∈ placed, v[x.1] = Held.fresh { nominal := x.2.nominal.toNat }) →
    (∀ i, (∀ x ∈ placed, x.1 ≠ i) → v[i] = t.input[i]) →
    ((∃ x ∈ placed, ¬ fields x) → writeTable first (.input raws) s = .error .range) ∧
    ((∀ x ∈ placed, fields x) → writeTable first (.input raws) s = .ok (false, placed.foldl
      (fun u x => if t.input[x.1].damaged = true ∧ fed u.memory.tables x.1 = true then u.updInput x.1 fun y =>
        { y with fill := .aligning, windows := y.windows.map fun w => if w.state = .filling then Window.empty else w }
       else u) (s.putTables { t with input := v })))) ∧
  (∀ (first : Nat) (raws : List RawStep) (placed : List (Fin 8 × RawStep)) (v : Vector (Held StepRow) 8) (s : State),
    let t := s.memory.tables
    let inRange (lo hi x : Int) : Prop := lo ≤ x ∧ x ≤ hi
    let clamp (lo hi : Int) (x : Int) : Nat := (max lo (min hi x)).toNat
    let structural (i : Fin 8) (r : RawStep) : Prop :=
      r.inUse ≠ (if t.step[i].row.inUse then 2 else 1) ∨
      r.neutralPresent ≠ (if t.step[i].row.neutralPresent then 2 else 1) ∨ r.rated ≠ t.step[i].row.rated
    let allowed (i : Fin 8) (r : RawStep) : Prop := s.stepState i = .withdrawn ∨
      (if t.step[i].damaged = true then s.stepState i = .lockout else ¬ structural i r)
    let fields (r : RawStep) : Prop := inRange (-100000) 100000 r.kr ∧ inRange (-100000) 100000 r.ki ∧
      inRange 1 3 r.compMode ∧ (r.inUse = 1 ∨ r.inUse = 2) ∧ (r.neutralPresent = 1 ∨ r.neutralPresent = 2)
    let exact (r : RawStep) : Prop := inRange 1 100000 r.alarmLevel ∧ inRange 1 100000 r.tripLevel ∧
      inRange 1 3000 r.alarmDelay ∧ inRange 1 3000 r.tripDelay ∧ inRange 6 16 r.thermalCode ∧
      inRange 0 16769025 r.heatAlarm ∧ inRange 0 16769025 r.heatTrip ∧ inRange 0 16769025 r.heatReclose ∧
      inRange 60 900 r.dischargeTime ∧ inRange 1 15 r.opsLimit ∧ inRange 0 14 r.opsBase ∧ inRange 1 120 r.decayPeriod
    let row (x : Fin 8 × RawStep) : StepRow :=
      let old := t.step[x.1].row
      let r := x.2
      { inUse := r.inUse = 2, neutralPresent := r.neutralPresent = 2
        alarmLevel := clamp 1 100000 r.alarmLevel, tripLevel := clamp 1 100000 r.tripLevel
        alarmDelay := clamp 1 3000 r.alarmDelay, tripDelay := clamp 1 3000 r.tripDelay
        compMode :=
          if r.kr ≠ old.kr ∨ r.ki ≠ old.ki then .manual
          else if r.compMode = 2 then .auto else if r.compMode = 3 then .manual else .none
        kr := r.kr, ki := r.ki, rated := r.rated.toNat, thermalCode := clamp 6 16 r.thermalCode
        heatAlarm := clamp 0 16769025 r.heatAlarm, heatTrip := clamp 0 16769025 r.heatTrip
        heatReclose := clamp 0 16769025 r.heatReclose, dischargeTime := clamp 60 900 r.dischargeTime
        opsLimit := clamp 1 15 r.opsLimit, opsBase := clamp 0 14 r.opsBase, decayPeriod := clamp 1 120 r.decayPeriod }
    let ordered (x : Fin 8 × RawStep) : Prop := (row x).alarmLevel < (row x).tripLevel
    let rated (x : Fin 8 × RawStep) : Prop := inRange 1 8388607 x.2.rated
    let heatOrdered (x : Fin 8 × RawStep) : Prop := (row x).heatAlarm < (row x).heatTrip ∧
      (row x).heatReclose < (row x).heatAlarm ∧ (row x).opsBase < (row x).opsLimit
    let answers (a : Except Code (Bool × State)) : Prop := writeTable first (.step raws) s = a
    let all (p : Fin 8 × RawStep → Prop) : Prop := ∀ x ∈ placed, p x
    placed.map (fun x => x.1.val) = List.range' first raws.length → placed.map Prod.snd = raws →
    (∀ x ∈ placed, v[x.1] = Held.fresh (row x)) → (∀ i, (∀ x ∈ placed, x.1 ≠ i) → v[i] = t.step[i]) →
    let allowedAll : Prop := all fun x => allowed x.1 x.2
    let fieldsAll : Prop := all fun x => fields x.2
    (¬ allowedAll → answers (.error .stepInService)) ∧
    (allowedAll → ¬ fieldsAll → answers (.error .range)) ∧
    (allowedAll → fieldsAll → ¬ all ordered → answers (.error .order)) ∧
    (allowedAll → fieldsAll → all ordered → ¬ all rated → answers (.error .range)) ∧
    (allowedAll → fieldsAll → all ordered → all rated → ¬ all heatOrdered → answers (.error .order)) ∧
    (allowedAll → fieldsAll → all ordered → all rated → all heatOrdered →
      ∃ clamped, (clamped = true ↔ ∃ r ∈ raws, ¬ exact r) ∧ answers (.ok (clamped, placed.foldl
        (fun u x => reformDutyBar x.1
          (if (u.stepRow x.1).kr ≠ t.step[x.1].row.kr ∨ (u.stepRow x.1).ki ≠ t.step[x.1].row.ki
           then abandonNull x.1 u else u))
        (s.putTables { t with step := v }))))) ∧
  (∀ (k : Nat) (raws : List RawHarm) (placed : List (Fin 15 × RawHarm)) (v : Vector (Held HarmRow) 15) (s : State),
    let t := s.memory.tables
    let inRange (lo hi x : Int) : Prop := lo ≤ x ∧ x ≤ hi
    let clamp (lo hi : Int) (x : Int) : Nat := (max lo (min hi x)).toNat
    let row (r : RawHarm) : HarmRow :=
      { supervise := r.supervise = 2, alarmLevel := clamp 1 10000 r.alarmLevel, blockLevel := clamp 1 10000 r.blockLevel
        pickup := clamp 1 600 r.pickup, dropout := clamp 1 600 r.dropout }
    let exact (r : RawHarm) : Prop := inRange 1 10000 r.alarmLevel ∧ inRange 1 10000 r.blockLevel ∧
      inRange 1 600 r.pickup ∧ inRange 1 600 r.dropout
    placed.map (fun x => x.1.val) = List.range' k raws.length → placed.map Prod.snd = raws →
    (∀ x ∈ placed, v[x.1] = Held.fresh (row x.2)) → (∀ i, (∀ x ∈ placed, x.1 ≠ i) → v[i] = t.harmonic[i]) →
    ((∃ r ∈ raws, r.supervise ≠ 1 ∧ r.supervise ≠ 2) → writeTable (k + 2) (.harmonic raws) s = .error .range) ∧
    ((∀ r ∈ raws, r.supervise = 1 ∨ r.supervise = 2) → ∃ clamped, (clamped = true ↔ ∃ r ∈ raws, ¬ exact r) ∧
      writeTable (k + 2) (.harmonic raws) s = .ok (clamped, reformNextCount (placed.foldl
        (fun u x =>
          let formed := reformBlock (if u.memory.tables.harmonic[x.1].row.supervise then createElements x.1 u
            else removeElements x.1 u) x.1
          if u.harmonic.block[x.1] = true ∧ formed.harmonic.block[x.1] = false then zeroSustain x.1 formed else formed)
        (s.putTables { t with harmonic := v }))))) ∧
  (∀ (i : Fin 15) (s : State),
    let elements (f : Option Element → Option Element) (u : State) : State :=
      { u with harmonic := { u.harmonic with elements := u.harmonic.elements.map fun v => v.set i (f v[i]) } }
    let order : Nat := if i.val = 14 then 0 else i.val + 2
    let ended (u : State) (k : Fin 6) : State := match s.harmonic.elements[k][i] with
      | some .on => logEvent .harmonicAlarmOff (.input ⟨k.val, by omega⟩) (some order) u
      | some (.dropping _) => logEvent .harmonicAlarmOff (.input ⟨k.val, by omega⟩) (some order) u
      | _ => u
    createElements i s = elements (fun e => some (e.getD .off)) s ∧
    removeElements i s = elements (fun _ => none) ((List.finRange 6).foldl ended s)) ∧
  (∀ (first : Nat) (raws : List RawRes) (placed : List (Fin 9 × RawRes)) (v : Vector (Held ResRow) 9) (s : State),
    let t := s.memory.tables
    let listed (r : RawRes) : Prop := r.orders.length ≤ 4 ∧ ∀ x ∈ r.orders, 2 ≤ x ∧ x ≤ 15
    let good (r : RawRes) : Prop := listed r ∧ r.orders.Pairwise (· < ·)
    let answers (a : Except Code (Bool × State)) : Prop := writeTable first (.resonance raws) s = a
    placed.map (fun x => x.1.val) = List.range' first raws.length → placed.map Prod.snd = raws →
    (∀ x ∈ placed, v[x.1] = Held.fresh { orders := x.2.orders.map Int.toNat }) →
    (∀ i, (∀ x ∈ placed, x.1 ≠ i) → v[i] = t.resonance[i]) →
    (∀ before r after, raws = before ++ r :: after → (∀ x ∈ before, good x) →
      (¬ listed r → answers (.error .range)) ∧
      (listed r → ¬ r.orders.Nodup → answers (.error .duplicate)) ∧
      (listed r → r.orders.Nodup → ¬ r.orders.Pairwise (· < ·) → answers (.error .order))) ∧
    ((∀ r ∈ raws, good r) →
      answers (.ok (false, reformNextCount (s.putTables { t with resonance := v }))))) ∧
  (∀ (first : Nat) (raws : List RawUnit) (placed : List (Fin 9 × RawUnit)) (v : Vector (Held UnitRow) 9) (s : State),
    let t := s.memory.tables
    let inRange (lo hi x : Int) : Prop := lo ≤ x ∧ x ≤ hi
    let clamp (lo hi : Int) (x : Int) : Nat := (max lo (min hi x)).toNat
    let row (r : RawUnit) : UnitRow :=
      { address := r.address, retry := clamp 1 20 r.retry, attempts := clamp 1 16 r.attempts
        operateTime := clamp 20 500 r.operateTime, statusTimeout := clamp 100 5000 r.statusTimeout }
    let exact (r : RawUnit) : Prop := inRange 1 20 r.retry ∧ inRange 1 16 r.attempts ∧ inRange 20 500 r.operateTime ∧
      inRange 100 5000 r.statusTimeout
    let busy (x : Fin 9 × RawUnit) : Prop := t.unit[x.1].row.address ≠ x.2.address ∧
      (s.commands[x.1].context.state = .sending ∨ s.commands[x.1].context.state = .awaitingMove)
    let law : Prop := ∀ i j : Fin 9, i ≠ j → v[i].damaged = false → v[j].damaged = false → v[i].row.address ≠ 0 →
      v[i].row.address ≠ v[j].row.address
    placed.map (fun x => x.1.val) = List.range' first raws.length → placed.map Prod.snd = raws →
    (∀ x ∈ placed, v[x.1] = Held.fresh (row x.2)) → (∀ i, (∀ x ∈ placed, x.1 ≠ i) → v[i] = t.unit[i]) →
    ((∃ x ∈ placed, busy x) → writeTable first (.unit raws) s = .error .unitBusy) ∧
    ((∀ x ∈ placed, ¬ busy x) →
      (¬ law → writeTable first (.unit raws) s = .error .duplicate) ∧
      (law → ∃ clamped, (clamped = true ↔ ∃ r ∈ raws, ¬ exact r) ∧
        writeTable first (.unit raws) s = .ok (clamped, placed.foldl
          (fun u x =>
            if t.unit[x.1].damaged = true ∨ t.unit[x.1].row.address ≠ (u.unitRow x.1).address then
              u.updUnit x.1 fun y =>
                { y with
                  learned := none, seqBase := none
                  timer := some { elapsed := 0, limit := (u.unitRow x.1).statusTimeout } }
            else u)
          (s.putTables { t with unit := v }))))) ∧
  (∀ (r : RawLink) (s : State),
    let fields : Prop := r.station ≠ 0 ∧ isGroup r.station = false ∧ 0x0600 ≤ r.linkType ∧ r.linkType ≤ 0xFFFF ∧
      r.requesters.length ≤ 4
    let row : LinkRow :=
      { station := r.station, linkType := r.linkType.toNat, destination := r.destination
        period := (max 1 (min 60 r.period)).toNat, requesters := r.requesters }
    (¬ fields → writeTable 0 (.link [r]) s = .error .range) ∧
    (fields → ¬ r.requesters.Nodup → writeTable 0 (.link [r]) s = .error .duplicate) ∧
    (fields → r.requesters.Nodup → ∃ clamped, (clamped = true ↔ ¬ (1 ≤ r.period ∧ r.period ≤ 60)) ∧
      writeTable 0 (.link [r]) s = .ok (clamped,
        { s with
          memory := { s.memory with tables := { s.memory.tables with link := Held.fresh row } }
          ports := { s.ports with
            link := some row
            reportPort := if s.link.destination = r.destination then s.ports.reportPort else none } }))) ∧
  ∀ s t : State, TablesOk s → step s = .next t → TablesOk t

/-! ## Chapter 11 -/

/-- R168, R164, R167: what a reset leaves. A COLD reset puts every live field of every block at its after-COLD value;
the queue of commands, the timebase, the inputs and the table memory stand, and a STORE in flight leaves the image
INVALID. The reset that a RESTART waits for keeps the event list, the finished captures and the first-error record as
well. That the commands which wait stay, and what the time between a reset and start-up holds, is the model's choice
(notes/assumptions/5.md, 6.md and 32.md). -/
def Obligations.Resets : Prop :=
  (∀ s : State,
    let ports : PortsState :=
      { lineA := { PortState.reset with linkUp := s.ports.lineA.linkUp }
        lineB := { PortState.reset with linkUp := s.ports.lineB.linkUp }, reportPort := none, link := none }
    let memory : MemoryState :=
      { s.memory with
        corrected := 0, damaged := 0, firstError := none, storing := false, copied := 0
        imageValid := s.memory.imageValid && !s.memory.storing, storeInvalid := false, scrubLeft := 10000 }
    let cold : State :=
      { State.reset with
        pending := s.pending, phase := .inReset .cold, timebase := s.timebase, keylock := s.keylock, ports := ports
        memory := memory }
    exec .coldReset s = .next cold ∧
    (s.phase = .running → s.agent.restartWait ≠ none → exec .restartReset s = .next
      { cold with
        phase := .inReset .restart
        memory := { memory with firstError := s.memory.firstError }
        events := { EventState.reset with
          entries := s.events.entries, next := s.events.next, lost := s.events.lost
          buffers := s.events.buffers.map fun b =>
            if b.status = .ready then b else if b.status = .armed then CaptureBuffer.armed else CaptureBuffer.free } }) ∧
    (s.phase ≠ .running ∨ s.agent.restartWait = none →
      exec .restartReset s = .next (s.dropMail .restartReset))) ∧
  let r := State.reset
  (∀ i : Fin 16, r.acceptance.streams[i].status = .idle ∧ r.acceptance.streams[i].lastCounter = none) ∧
  (∀ m : Fin 38, r.acceptance.inputs[m].fill = .unmapped ∧ r.engine.results[m].sequence = 0 ∧
    r.engine.results[m].quality = .invalid ∧ r.engine.results[m].age = 65535) ∧
  r.engine.hold = none ∧ r.engine.queue = [] ∧ r.engine.computing = none ∧
  (∀ i : Fin 8, r.duty.steps[i].heat = 0 ∧ r.duty.steps[i].mode = .cooldown ∧ r.duty.steps[i].discharge = none ∧
    r.duty.steps[i].operations = 0 ∧ r.duty.steps[i].dutyBar = false ∧ r.unbalance.steps[i].lastU = none ∧
    r.supervisor.steps[i].lastPosition = none ∧ r.supervisor.steps[i].unitSupervision = .alive) ∧
  r.supervisor.openList = [] ∧ r.supervisor.closedList = [] ∧ r.switching.line = .restore ∧ r.switching.vctrl = none ∧
  r.switching.valid = false ∧ r.switching.queue = [] ∧ r.switching.holder = none ∧ r.switching.selection = none ∧
  (∀ u : Fin 9, r.commands[u].position = none ∧ r.commands[u].supervision = .alive ∧ r.commands[u].learned = none ∧
    r.commands[u].seqBase = none ∧ r.commands[u].context.state = .idle) ∧
  r.agent.answered = 0 ∧ r.agent.refusedUnheard = 0 ∧ r.events.entries = [] ∧ r.events.next = 1 ∧ r.events.lost = false

/-- R111, R133, R148, R155, R168, R173: start-up, from the state a reset leaves. Without a VALID image every row takes its
Default and STORE_INVALID stands; a VALID image without errors is the tables. A step in use and not DAMAGED is UNRESOLVED,
any other WITHDRAWN; switching control takes its start mode and runs the restore hold, unless the Yard Table is DAMAGED; an
input that a configured stream maps is ALIGNING, unless its row is DAMAGED, and any other UNMAPPED (R18); the elements of
supervised rows stand OFF, and the next-count status is that of count 1 (R42, R50, R55); the age clock and the seconds clock
begin (R33, R78); a unit's supervision timer runs; where no buffer is ARMED, the lower-numbered FREE one is, with nothing
kept. A running part is not started again. A row stored DAMAGED, or that fails its check bits, is loaded DAMAGED with its
event, before START_UP. The model's choices: such a row is judged and counted like a read (notes/assumptions/27.md), the
image stays as it was stored, whatever errors the load finds (notes/assumptions/69.md), the timer of a unit whose row is
loaded DAMAGED stands stopped (notes/assumptions/17.md), the age clock begins at the first place of its sequence
(notes/assumptions/37.md), and STORE_INVALID and START_UP have subject none, STORE_INVALID no value
(notes/assumptions/68.md). -/
def Obligations.StartUp : Prop :=
  (∀ (xs : List Strike) (s : State), s.phase = .running → exec (.startUp xs) s = .next s) ∧
  ∀ (k : ResetKind) (xs : List Strike) (s : State), s.phase = .inReset k → (∀ i, s.stepState i = .withdrawn) →
    ∃ t, exec (.startUp xs) s = .next t ∧ t.phase = .running ∧ t.timebase = s.timebase ∧ t.keylock = s.keylock ∧
      t.pending = s.pending ∧ t.memory.image = s.memory.image ∧ t.memory.imageValid = s.memory.imageValid ∧
      (s.memory.imageValid = false ∨ s.memory.image = none →
        t.memory.tables = Tables.defaults ∧ t.memory.storeInvalid = true ∧
        t.events.entries = (logEvent .startUp .none (some (match k with
          | .cold => 1
          | .restart => 2)) (logEvent .storeInvalid .none none s)).events.entries) ∧
      (∀ tables, s.memory.imageValid = true → s.memory.image = some tables → xs = [] →
        (∀ r ∈ allRows, tables.damagedAt r = false ∧ tables.upsetAt r = .clean) →
        t.memory.tables = tables ∧ t.memory.storeInvalid = false) ∧
      (∀ tables, s.memory.imageValid = true → s.memory.image = some tables →
        let loaded := xs.foldl Tables.strikeAt tables
        let bad (r : RowRef) : Prop := loaded.damagedAt r = true ∨ loaded.upsetAt r = .double
        t.memory.storeInvalid = false ∧
        t.memory.tables = allRows.foldl (fun d r =>
          if bad r then d.mapAt r Held.fail else if loaded.upsetAt r = .single then d.mapAt r Held.correct else d) loaded ∧
        (∀ r ∈ allRows, (t.memory.tables.damagedAt r = true ↔ bad r) ∧ t.memory.tables.upsetAt r = .clean) ∧
        t.memory.damaged = (s.memory.damaged + (allRows.filter fun r => bad r).length) % 4294967296 ∧
        ((∀ u : Fin 9, ¬ bad (.unit u)) →
          t.events.entries = (logEvent .startUp .none (some (match k with
            | .cold => 1
            | .restart => 2)) ((allRows.filter fun r => bad r).foldl
              (fun u r => logEvent .tableDamaged (.row r) (some (tableNumber r)) u) s)).events.entries)) ∧
      (∀ i : Fin 8, t.stepState i =
        if (t.stepRow i).inUse = true ∧ t.stepDamaged i = false then .unresolved else .withdrawn) ∧
      (∀ i : Fin 8, t.stepState i = .unresolved → t.supervisor.steps[i].resolutionDue = true) ∧
      t.switching =
        (if t.yardDamaged = true then s.switching
         else { s.switching with restore := some 0, control := if t.yard.startMode = .manual then .manual else .autoWatch }) ∧
      (∀ u : Fin 9, t.commands[u].timer =
        if t.unitDamaged u = true then none else some { elapsed := 0, limit := (t.unitRow u).statusTimeout }) ∧
      ((∀ m : Fin 38, s.acceptance.inputs[m].fill = .unmapped) →
        t.acceptance.streams = s.acceptance.streams ∧ ∀ m : Fin 38, t.acceptance.inputs[m] =
          { s.acceptance.inputs[m] with
            fill := if t.memory.tables.input[m].damaged = false ∧ ∃ i : Fin 16,
                t.memory.tables.stream[i].damaged = false ∧ t.memory.tables.stream[i].row.inUse = true ∧
                  some m ∈ t.memory.tables.stream[i].row.map.toList then .aligning
              else .unmapped }) ∧
      ((∀ (n : Fin 6) (i : Fin 15), s.harmonic.elements[n][i] = none) →
        (∀ (n : Fin 6) (i : Fin 15), t.harmonic.elements[n][i] =
          if t.memory.tables.harmonic[i].row.supervise = true ∧ t.memory.tables.harmonic[i].damaged = false then some .off
          else none) ∧
        t.harmonic = { s.harmonic with
          elements := t.harmonic.elements, nextCount := 1, nextBlocked := countBlocked 1 t }) ∧
      (let f := if t.yardDamaged = true then 50 else t.yard.frequency
       t.engine = { s.engine with
         ageFrequency := f, ageLeft := if f = 60 then 17 else 20, agePhase := if f = 60 then 1 else 0 }) ∧
      t.duty = s.duty ∧ State.reset.duty.secondsLeft = 1000 ∧ t.memory.scrubLeft = s.memory.scrubLeft ∧
      t.ports.link = some (if t.memory.tables.link.damaged = true then defaultLink else t.memory.tables.link.row) ∧
      ((∃ b : Fin 2, s.events.buffers[b].status = .armed) → t.events.buffers = s.events.buffers) ∧
      ((∀ b : Fin 2, s.events.buffers[b].status ≠ .armed) →
        (∀ b : Fin 2, s.events.buffers[b].status = .free → (∀ b', b' < b → s.events.buffers[b'].status ≠ .free) →
          t.events.buffers = s.events.buffers.set b
            { CaptureBuffer.free with status := .armed }) ∧
        ((∀ b : Fin 2, s.events.buffers[b].status ≠ .free) → t.events.buffers = s.events.buffers)) ∧
      CaptureBuffer.free.status = .free ∧ (∀ m : Fin 38, CaptureBuffer.free.kept[m] = [])

/-- R165 to R167: what a read of a row does, by its errors: nothing, a correction, or the DAMAGED mark with its event, its
count and the acts of the row's owner, a null capture abandoned among them (R70), which notes a change of the yard summary
(R171); here no other row holds an error, since an owner's act reads the rows it uses in turn (notes/assumptions/11.md). The
reads of an act: none of its rows with an error, and nothing changes; otherwise the first one with an error is read, then on
along the path that this read leaves. A tick of the seconds clock uses the rows of the steps in
COOLDOWN mode (R78), a step report at unbalance protection the row of a step that enters IN (R65), a discharged report none,
and each acts after the reads; a sample frame that publishes nothing reads the Stream Table alone, and a step report at
switching control, with no selection and an empty queue, none. The owners' acts, table by table: R14, R21 Stream; R5 Input;
R110 Step; R54 Harmonic Limit and Resonance; R133 Yard; R147 Breaker Unit; a Link row keeps the values in force. SCRUB_PASS
reads every row in order and leaves no error unread. STORE_COMPLETION reads and copies the next rows of a STORE, in order,
none twice, each with its DAMAGED mark; with the last row copied and the copy verified or not, the store ends. The model's
choices: that a change is noted at each damage found (notes/assumptions/55.md), when bits flip and what they leave
(notes/assumptions/10.md), the order of a row's inputs and of an owner's events (notes/assumptions/14.md), the subject none
of a deferral (notes/assumptions/19.md), the block condition that a DAMAGED Harmonic Limit row keeps
(notes/assumptions/34.md), how far a STORE comes between other commands (notes/assumptions/26.md), the rows of an INVALID
image (notes/assumptions/42.md), the gap count of a stream that ends (notes/assumptions/47.md), and the subject and value of
the events that end a STORE (notes/assumptions/68.md). -/
def Obligations.RowReadsAndStore : Prop :=
  (∀ (r : RowRef) (s : State),
    let m := s.memory
    let mapped : List (Fin 38) := match r with
      | .stream i => m.tables.stream[i].row.map.toList.filterMap id
      | _ => []
    (m.tables.damagedAt r = true ∨ m.tables.upsetAt r = .clean → readRow s r = s) ∧
    (m.tables.damagedAt r = false → m.tables.upsetAt r = .single →
      readRow s r = { s with memory := { m with
        tables := m.tables.mapAt r Held.correct, corrected := (m.corrected + 1) % 4294967296
        firstError := some (m.firstError.getD (r, .corrected)) } }) ∧
    (m.tables.damagedAt r = false → m.tables.upsetAt r = .double →
      (∀ r', r' ≠ r → m.tables.damagedAt r' = true ∨ m.tables.upsetAt r' = .clean) →
      let u := ownerActs r mapped (logEvent .tableDamaged (.row r) (some (tableNumber r))
        { s with memory := { m with
            tables := m.tables.mapAt r Held.fail, damaged := (m.damaged + 1) % 4294967296
            firstError := some (m.firstError.getD (r, .damaged)) } })
      readRow s r =
        if u.link.destination ≠ 0 ∧ yardSummary s ≠ yardSummary u then
          { u with events := { u.events with changePending := true } }
        else u)) ∧
  (∀ (uses : State → List RowRef) (s : State),
    let m := s.memory
    let whole (r : RowRef) : Prop := m.tables.damagedAt r = true ∨ m.tables.upsetAt r = .clean
    ((∀ r ∈ uses s, whole r) → readUsed uses s = s) ∧
    (∀ before r after, uses s = before ++ r :: after → (∀ x ∈ before, whole x) → ¬ whole r →
      readUsed uses s = readAlong readRow uses 96 (readRow s r))) ∧
  (∀ s : State, s.phase = .running →
    let acts (c : Instr) (rows : State → List RowRef) (act : State → State) : Prop :=
      let r := readUsed rows (s.dropMail c)
      exec c s = .next (noteChange
        { r with events := { r.events with changePending := s.events.changePending } } (act r))
    acts .secondsClockTick
      (fun u => ((List.finRange 8).filter fun i => u.duty.steps[i].mode = .cooldown).map .step) secondsTick ∧
    (∀ r, acts (.unbalanceStepReport r)
      (fun _ => if r.old ≠ .inService ∧ r.new = .inService then [.step r.step] else []) (takeUnbalanceReport r)) ∧
    (∀ i, acts (.dischargedReport i) (fun _ => []) (takeDischarged i))) ∧
  (∀ (f : SampleFrame) (s : State),
    let s₀ := s.dropMail (.sampleFrame f)
    s.phase = .running →
    (∀ i, s.memory.tables.damagedAt (.stream i) = true ∨ s.memory.tables.upsetAt (.stream i) = .clean) →
    (∀ m : Fin 38, (acceptFrame f s₀).engine.results[m].sequence = s.engine.results[m].sequence) →
    exec (.sampleFrame f) s = .next (noteChange s₀ (acceptFrame f s₀))) ∧
  (∀ (r : StepReport) (s : State),
    let s₀ := s.dropMail (.controlStepReport r)
    s.phase = .running → s.switching.selection = none → s.switching.queue = [] →
    exec (.controlStepReport r) s = .next (noteChange s₀ (controlReport r s₀))) ∧
  (∀ (t : Tables) (f : {α : Type} → Held α → Held α),
    (∀ i, t.mapAt (.stream i) f = { t with stream := t.stream.set i (f t.stream[i]) }) ∧
    (∀ i, t.mapAt (.input i) f = { t with input := t.input.set i (f t.input[i]) }) ∧
    (∀ i, t.mapAt (.step i) f = { t with step := t.step.set i (f t.step[i]) }) ∧
    (∀ i, t.mapAt (.harmonic i) f = { t with harmonic := t.harmonic.set i (f t.harmonic[i]) }) ∧
    (∀ i, t.mapAt (.resonance i) f = { t with resonance := t.resonance.set i (f t.resonance[i]) }) ∧
    t.mapAt .yard f = { t with yard := f t.yard } ∧
    (∀ i, t.mapAt (.unit i) f = { t with unit := t.unit.set i (f t.unit[i]) }) ∧
    t.mapAt .link f = { t with link := f t.link }) ∧
  (∀ (α : Type) (h : Held α), h.correct = { h with upset := .clean } ∧
    h.fail = { row := h.latent.getD h.row, damaged := true, upset := .clean, latent := none }) ∧
  (∀ (mapped : List (Fin 38)) (s : State),
    let unmap (u : State) (m : Fin 38) : State := withdrawInput m (handNotice m (u.updInput m fun x =>
      { x with fill := .unmapped, windows := x.windows.map fun w => if w.state = .filling then Window.empty else w }))
    (∀ i, ownerActs (.stream i) mapped s = mapped.foldl unmap (s.updStream i fun x =>
      { x with
        status := .idle, loss := none, lastCounter := none, lastValues := Vector.replicate 12 none, gapCount := 0 })) ∧
    (∀ m, ownerActs (.input m) mapped s = unmap s m) ∧
    (∀ i,
      let v := abandonNull i s
      let pending := v.updStep i fun x => { x with lockoutPending := some .settingsFault }
      (s.stepState i = .withdrawn ∨ s.stepState i = .lockout → ownerActs (.step i) mapped s = v) ∧
      (s.stepState i = .unresolved ∨ s.stepState i = .cooling ∨ s.stepState i = .ready →
        ownerActs (.step i) mapped s = moveStep i .withdrawn .settingsFault v) ∧
      (s.stepState i = .inService ∨ s.stepState i = .closing ∨ s.stepState i = .opening →
        ownerActs (.step i) mapped s =
          hand (.commandRequest { unit := stepUnit i, kind := .opn, cls := .trip, cause := .settingsFault }) pending) ∧
      (s.stepState i = .failed → ownerActs (.step i) mapped s = pending)) ∧
    (∀ i : Fin 15,
      let order : Nat := if i.val = 14 then 0 else i.val + 2
      let removed := (List.finRange 6).foldl (fun u k =>
        let v := setElement k i none u
        if ((u.harmonic.elements[k][i]).map Element.standing).getD false then
          logEvent .harmonicAlarmOff (.input ⟨k.val, by omega⟩) (some order) v
        else v) s
      ownerActs (.harmonic i) mapped s = reformNextCount
        (if h : i.val < 14 then
          { removed with harmonic := { removed.harmonic with sustain := removed.harmonic.sustain.set i.val 0 } }
         else removed)) ∧
    (∀ c, ownerActs (.resonance c) mapped s = reformNextCount s) ∧
    (let w := s.switching
     let v := if w.control = .manual then s else withdrawAuto .mode
       { s with switching := { w with
           control := .manual, high := .stopped, low := .stopped, expiryHeld := none, settle := none } }
     ownerActs .yard mapped s = { v with switching := { v.switching with restore := none } }) ∧
    (∀ u : Fin 9,
      let x := s.commands[u]
      let forced : CmdOutcome := if x.context.kind = some .opn ∧ x.position = some .opened then .done else .unanswered
      let ended : State :=
        if x.context.state = .sending ∨ x.context.state = .awaitingMove then endCommand u forced s else s
      let silent : State := ended.updUnit u fun y => { y with supervision := .silent, learned := none }
      let told : State :=
        if ended.commands[u].supervision = .alive then
          match unitStep u with
          | some i => hand (.unitSupervisionNotice i .silent) (logEvent .unitSilent (.unit u) none silent)
          | none => logEvent .unitSilent (.unit u) none silent
        else silent
      ownerActs (.unit u) mapped s = told.updUnit u fun y => { y with timer := none }) ∧
    ownerActs .link mapped s = s) ∧
  (∀ (m : Fin 38) (s : State),
    let withdrawn (w : Fin 2) (u : State) : State :=
      let x := u.window m w
      let gone := (u.updInput m fun y => { y with windows := y.windows.set w Window.empty })
      match x.state with
      | .queued => endWait m w { gone with engine := { u.engine with queue := u.engine.queue.erase m } }
      | .computing _ => endWait m w (u.updInput m fun y =>
          { y with windows := y.windows.set w { x with state := .computing true } })
      | _ => u
    withdrawInput m s = withdrawn 1 (withdrawn 0 s)) ∧
  (∀ (i : Fin 8) (s : State),
    (∀ c, s.unbalance.context = some c → c.step = i → abandonNull i s =
      logEvent .nullAborted (.step i) (some c.counted) { s with unbalance := { s.unbalance with context := none } }) ∧
    ((∀ c, s.unbalance.context = some c → c.step ≠ i) → abandonNull i s = s)) ∧
  (∀ (c : Condition) (s : State),
    ((∀ e ∈ s.switching.queue, e.isAuto = false) → withdrawAuto c s = s) ∧
    ∀ before e after, s.switching.queue = before ++ e :: after → e.isAuto = true → (∀ x ∈ before, x.isAuto = false) →
      withdrawAuto c s = logEvent (if e.kind = .close then .closeDeferred else .openDeferred) .none
        (some (conditionNumber c)) { s with switching := { s.switching with queue := before ++ after } }) ∧
  (∀ (before after : List Strike) (s : State),
    let c := Instr.scrubPass before after
    let s₀ := s.dropMail c
    (s.phase = .running → exec c s = .next (noteChange s₀ (strikeRows after (readRows allRows (strikeRows before
      { s₀ with memory := { s.memory with scrubLeft := 10000 } })))) ∧
      ∃ t, exec c s = .next t ∧ t.memory.scrubLeft = 10000 ∧ (after = [] → Intact t)) ∧
    (Ready s → before = [] → exec c s = .next (noteChange s₀
      (strikeRows after { s₀ with memory := { s.memory with scrubLeft := 10000 } }))) ∧
    (s.phase ≠ .running → exec c s = .next s₀)) ∧
  (∀ a b : Tables,
    (∀ i, a.copyRow b (.stream i) = { b with stream := b.stream.set i a.stream[i] }) ∧
    (∀ i, a.copyRow b (.input i) = { b with input := b.input.set i a.input[i] }) ∧
    (∀ i, a.copyRow b (.step i) = { b with step := b.step.set i a.step[i] }) ∧
    (∀ i, a.copyRow b (.harmonic i) = { b with harmonic := b.harmonic.set i a.harmonic[i] }) ∧
    (∀ i, a.copyRow b (.resonance i) = { b with resonance := b.resonance.set i a.resonance[i] }) ∧
    a.copyRow b .yard = { b with yard := a.yard } ∧
    (∀ i, a.copyRow b (.unit i) = { b with unit := b.unit.set i a.unit[i] }) ∧
    a.copyRow b .link = { b with link := a.link }) ∧
  ∀ (rows : Nat) (verified : Option Bool) (s : State),
    let c := Instr.storeCompletion rows verified
    let s₀ := s.dropMail c
    let m := s.memory
    let next := (allRows.drop m.copied).take rows
    let copies (u : State) : State := next.foldl (fun u r =>
      let v := readRow u r
      { v with memory := { v.memory with
          copied := v.memory.copied + 1
          image := some (v.memory.tables.copyRow (v.memory.image.getD Tables.defaults) r) } }) u
    let ended (done : Bool) (x : MemoryState) : MemoryState :=
      { x with storing := false, copied := 0, imageValid := done, storeInvalid := !done }
    let ending (done : Bool) (u : State) : State :=
      logEvent (if done = true then .storeDone else .storeFailed) .none none { u with memory := ended done u.memory }
    (s.phase ≠ .running ∨ m.storing = false → exec c s = .next s₀) ∧
    (s.phase = .running → m.storing = true →
      (verified = none ∨ m.copied + rows < 97 → exec c s = .next (noteChange s₀ (copies s₀))) ∧
      (∀ done, verified = some done → 97 ≤ m.copied + rows →
        exec c s = .next (noteChange s₀ (ending done (copies s₀))))) ∧
    (Ready s → m.storing = true →
      let copied : MemoryState :=
        { m with
          copied := m.copied + next.length
          image := if next = [] then m.image
            else some (next.foldl (fun d r => m.tables.copyRow d r) (m.image.getD Tables.defaults)) }
      ∃ t, exec c s = .next t ∧
        (verified = none ∨ m.copied + rows < 97 → t.memory = copied) ∧
        (∀ done, verified = some done → 97 ≤ m.copied + rows → t.memory = ended done copied))

/-! ## Chapter 12 -/

/-- R169, R172, R173: an event becomes the newest entry, and at a full list costs the oldest; a value that acceptance hands
is kept by an ARMED buffer, the last 256 of each of MI 0 to 2 and MI 6 to 37, and fills the next position of its channel
in a RECORDING one, which completes when all its channels are full; a capture trigger takes the ARMED buffer or is missed; a
recording completes. -/
def Obligations.EventsAndCapture : Prop :=
  (∀ (kind : EventKind) (subject : Subject) (value : Option Nat) (s : State),
    let e : EventEntry :=
      { sequence := s.events.next, stamp := s.timebase, kind := kind, subject := subject, value := value }
    let next := (s.events.next + 1) % 4294967296
    (s.events.entries.length < 256 → logEvent kind subject value s =
      { s with events := { s.events with entries := s.events.entries ++ [e], next := next } }) ∧
    (256 ≤ s.events.entries.length → logEvent kind subject value s =
      { s with events := { s.events with entries := s.events.entries.drop 1 ++ [e], next := next, lost := true } })) ∧
  (∀ (step : Option (Fin 8)) (k : Fin 7), channelInput step k =
    if h : k.val < 3 then some ⟨k.val, by omega⟩
    else step.map fun i => ⟨6 + 4 * i.val + (k.val - 3), by omega⟩) ∧
  (∀ (m : Fin 38) (v : Int) (c : Nat) (filled : Bool) (s : State),
    let x : CapSample := { value := v, counter := c, filled := filled }
    let inputOf (b : CaptureBuffer) (k : Fin 7) : Option (Fin 38) := channelInput (b.trigger.bind Trigger.step) k
    let full (b : CaptureBuffer) : Prop := ∀ k : Fin 7, inputOf b k = none ∨ 768 ≤ b.channels[k].after.length
    let t := handSample m v c filled s
    (∀ b : Fin 2,
      let old := s.events.buffers[b]
      (old.status = .armed → t.events.buffers[b] =
        if m.val < 3 ∨ 6 ≤ m.val then
          { old with kept := old.kept.set m ((old.kept[m] ++ [x]).drop (old.kept[m].length + 1 - 256)) }
        else old) ∧
      (old.status = .recording → t.events.buffers[b] =
        { old with channels := Vector.ofFn fun k : Fin 7 =>
            let ch := old.channels[k]
            if inputOf old k = some m ∧ ch.after.length < 768 then { ch with after := ch.after ++ [x] } else ch }) ∧
      (old.status = .free ∨ old.status = .ready → t.events.buffers[b] = old)) ∧
    (∃ due : List (Fin 2), due.Pairwise (· < ·) ∧ t.mail = s.mail ++ due.map .captureComplete ∧
      ∀ b, b ∈ due ↔ s.events.buffers[b].status = .recording ∧ ¬ full s.events.buffers[b] ∧
        full t.events.buffers[b]) ∧
    SameBut [.mail, .capture] s t) ∧
  (∀ (kind : TriggerKind) (step : Option (Fin 8)) (s : State), Ready s →
    let c := Instr.captureTrigger kind step
    let s₀ := s.dropMail c
    let subject : Subject := match step with
      | some i => .step i
      | none => .none
    let number : Nat := match kind with
      | .unbalanceTrip => 1
      | .heatTrip => 2
      | .breakerFailure => 3
      | .lineDead => 4
    (∀ b : Fin 2, s.events.buffers[b].status = .armed → (∀ b', b' < b → s.events.buffers[b'].status ≠ .armed) →
      exec c s = .next (noteChange s₀ (s₀.updBuffer b fun x =>
        { status := .recording
          kept := Vector.replicate 38 []
          trigger := some { kind := kind, step := step, stamp := s.timebase }
          channels := Vector.ofFn fun k : Fin 7 =>
            { before := match channelInput step k with
                | some m => x.kept[m]
                | none => []
              after := [] }
          elapsed := 0 }))) ∧
    ((∀ b : Fin 2, s.events.buffers[b].status ≠ .armed) →
      exec c s = .next (noteChange s₀ (logEvent .captureMissed subject (some number) s₀)))) ∧
  ∀ (b : Fin 2) (s : State), Ready s →
    let c := Instr.captureComplete b
    let s₀ := s.dropMail c
    let other : Fin 2 := if b = 0 then 1 else 0
    let subject : Subject := match s.events.buffers[b].trigger with
      | some { kind := _, step := some i, stamp := _ } => .step i
      | _ => .none
    let u := logEvent .captureReady subject (some b.val) (s₀.updBuffer b fun x => { x with status := .ready })
    (s.events.buffers[b].status = .recording → exec c s = .next (noteChange s₀
      (if s.events.buffers[other].status = .free then
        u.updBuffer other fun _ =>
          { status := .armed, kept := Vector.replicate 38 [], trigger := none
            channels := Vector.replicate 7 { before := [], after := [] }, elapsed := 0 }
       else u))) ∧
    (s.events.buffers[b].status ≠ .recording → exec c s = .next s₀)

/-- R171: the yard summary, figure by figure in the order of 12.2, and reports. A change of the yard summary that a command
makes, or one that a publication or a damage within it has set pending, is reported at once, or waits for the end of the 100
ms after the last change report; a report timer that runs out restarts, and its periodic report is a change report too when
both fall due together; with no report destination no report is made. The Link Table is read as a change report is made, and
what the read finds is in it (R157, R165; notes/assumptions/11.md). The model's choices: whether there is a destination is
judged as the event leaves it (notes/assumptions/61.md), the timer restarts all the same without a destination
(notes/assumptions/24.md), the newest number of an empty list is that of the entry written last (notes/assumptions/23.md), a
change is noted at the end of its event (notes/assumptions/55.md), and named values that no list gives carry the numbers of
notes/assumptions/21.md: KEYLOCK, whether any row is DAMAGED and whether a selection exists no 1 and yes 2, the harmonic alarm
status SET 1 and CLEAR 2. -/
def Obligations.Reports : Prop :=
  let frame (periodic change : Bool) (u : State) : OriginFrame :=
    { cls := .report
      frame := { destination := u.link.destination, source := u.link.station, linkType := u.link.linkType
                 body := .report periodic change ((u.events.next + 4294967295) % 4294967296) (yardSummary u) } }
  let change (u : State) : State :=
    let both : Bool := u.link.period * 1000 ≤ u.events.reportTimer
    let t := enterOrigins (frame both true u) u.ports.reportPort u
    { t with events := { t.events with
        changePending := false, changeHold := 100, reportTimer := if both then 0 else t.events.reportTimer } }
  (∀ s : State,
    let flag (b : Bool) : Item := .name (if b = true then 1 else 2)
    let yes (b : Bool) : Item := .name (if b = true then 2 else 1)
    let t := s.memory.tables
    let w := s.switching
    let step (i : Fin 8) : List Item :=
      let x := s.supervisor.steps[i]
      [.name (stepStateNumber x.state), flag x.unsupervised, flag x.outOfServiceClose, flag s.unbalance.steps[i].alarm,
        flag s.unbalance.steps[i].inputInvalid, flag s.duty.steps[i].heatAlarm, flag s.duty.steps[i].dutyBar]
    let stands (e : Option Element) : Bool := match e with
      | some .on => true
      | some (.dropping _) => true
      | _ => false
    let standing : Bool := decide (∃ (k : Fin 6) (i : Fin 15), stands s.harmonic.elements[k][i] = true)
    let damaged : Bool := decide ((∃ i : Fin 16, t.stream[i].damaged = true) ∨ (∃ m : Fin 38, t.input[m].damaged = true) ∨
      (∃ i : Fin 8, t.step[i].damaged = true) ∨ (∃ i : Fin 15, t.harmonic[i].damaged = true) ∨
      (∃ c : Fin 9, t.resonance[c].damaged = true) ∨ t.yard.damaged = true ∨ (∃ u : Fin 9, t.unit[u].damaged = true) ∨
      t.link.damaged = true)
    yardSummary s = (List.finRange 8).flatMap step ++
      [flag standing, .name (lineNumber w.line), .name (controlNumber w.control), flag w.valid, yes w.selection.isSome,
        .name (positionNumber s.commands[(8 : Fin 9)].position)] ++
      (List.finRange 9).map (fun u => .name (supervisionNumber s.commands[u].supervision)) ++
      [flag s.ports.lineA.linkUp, flag s.ports.lineB.linkUp, yes s.keylock, flag s.memory.storeInvalid, yes damaged,
        flag s.events.lost] ++ (List.finRange 2).map fun b => .name (bufferNumber s.events.buffers[b].status)) ∧
  [.withdrawn, .unresolved, .cooling, .ready, .closing, .inService, .opening, .lockout, .failed].map stepStateNumber =
    List.range' 1 9 ∧
  [.live, .dead, .restore].map lineNumber = List.range' 1 3 ∧
  [.manual, .autoWatch, .autoHigh, .autoLow, .autoPending, .autoSettle].map controlNumber = List.range' 1 6 ∧
  [some .opened, some .closed, some .intermediate, none].map positionNumber = List.range' 1 4 ∧
  [.alive, .silent].map supervisionNumber = List.range' 1 2 ∧
  [.free, .armed, .recording, .ready].map bufferNumber = List.range' 1 4 ∧
  (∀ before u : State,
    let changed : Prop := yardSummary before ≠ yardSummary u ∨
      (u.events.changePending = true ∧ before.events.changePending = false)
    (u.link.destination = 0 ∨ ¬ changed → noteChange before u = u) ∧
    (u.link.destination ≠ 0 → changed →
      let noted : State := { u with events := { u.events with changePending := true } }
      (u.events.changeHold = 0 → noteChange before u = change (readRow noted .link)) ∧
      (0 < u.events.changeHold → noteChange before u = noted))) ∧
  ∀ s : State, Ready s →
    (let s₀ := s.dropMail .changeReportDue
     (s.link.destination ≠ 0 → s.events.changePending = true →
       exec .changeReportDue s = .next (noteChange s₀ (change s₀))) ∧
     (s.link.destination = 0 ∨ s.events.changePending = false → exec .changeReportDue s = .next s₀)) ∧
    (let s₀ := s.dropMail .reportTimerExpiry
     let u : State := { s₀ with events := { s.events with reportTimer := 0 } }
     let both : Bool := s.events.changePending && s.events.changeHold = 0
     let t := enterOrigins (frame true both u) s.ports.reportPort u
     (s.link.destination = 0 → exec .reportTimerExpiry s = .next (noteChange s₀ u)) ∧
     (s.link.destination ≠ 0 → exec .reportTimerExpiry s = .next (noteChange s₀
       (if both then { t with events := { t.events with changePending := false, changeHold := 100 } } else t))))

/-! ## The whole part -/

/-- Every command completes in every state, and takes nothing from the queue of commands. That a reset leaves the queue as
it stands, and that between a reset and start-up the blocks' commands complete without effect, is the model's choice
(notes/assumptions/5.md). -/
def Obligations.EveryCommandCompletes : Prop :=
  ∀ (c : Instr) (s : State), ∃ t, exec c s = .next t ∧ t.pending = s.pending

/-- R169: a step keeps the event list within 256 entries with consecutive sequence numbers. -/
def Obligations.EventsKept : Prop :=
  ∀ s t : State, EventsOk s → step s = .next t → EventsOk t

/-- R92: a step keeps the Open List and the Closed List in agreement with the states of the steps. R106: a step keeps every
step in READY discharged. R77, R79, R84: it keeps heat and load figures within 4,095 squared and operations counts within
15. -/
def Obligations.ListsKept : Prop :=
  (∀ s t : State, ListsOk s → step s = .next t → ListsOk t) ∧
  (∀ s t : State, ReadyDischarged s → step s = .next t → ReadyDischarged t) ∧
  ∀ s t : State, DutyOk s → step s = .next t → DutyOk t

/-- R150 to R153: a step keeps the queues of both ports as the rules bound and order them. -/
def Obligations.PortsKept : Prop :=
  ∀ s t : State, PortsOk s → step s = .next t → PortsOk t

/-- R121, R123: a step keeps the switching request queue within its 4 entries and in the rule's order: MANUAL before AUTO,
OPEN before CLOSE, then arrival; an AUTO entry waits in AUTO_PENDING alone. R100, R124, R128: from a state whose queue of
commands holds no step report, which the step supervisor alone sends (notes/assumptions/2.md), it keeps at most one step in
CLOSING, which holds the slot. -/
def Obligations.QueueKept : Prop :=
  (∀ s t : State, QueueOk s → step s = .next t → QueueOk t) ∧ ∀ s t : State, SlotOk s → step s = .next t → SlotOk t

/-- The invariants that every step keeps hold right after reset. -/
def Obligations.InvariantsAtReset : Prop :=
  EventsOk State.reset ∧ ListsOk State.reset ∧ PortsOk State.reset ∧ QueueOk State.reset ∧ SlotOk State.reset ∧
    EngineOk State.reset ∧ TablesOk State.reset ∧ ReadyDischarged State.reset ∧ DutyOk State.reset
end

