-- ==== Sys2Proof/Laws/State.lean ====
section
/-! SUPPORT. One lemma per field per update of State, true by definition. -/

namespace Sys2Proof.Machine

variable (s : State)

@[simp] theorem State.updStream_pending (i : Fin 16) (f : StreamLive → StreamLive) :
    (s.updStream i f).pending = s.pending := rfl
@[simp] theorem State.updStream_mail (i : Fin 16) (f : StreamLive → StreamLive) : (s.updStream i f).mail = s.mail
    := rfl
@[simp] theorem State.updStream_phase (i : Fin 16) (f : StreamLive → StreamLive) : (s.updStream i f).phase = s.phase
    := rfl
@[simp] theorem State.updStream_timebase (i : Fin 16) (f : StreamLive → StreamLive) :
    (s.updStream i f).timebase = s.timebase := rfl
@[simp] theorem State.updStream_keylock (i : Fin 16) (f : StreamLive → StreamLive) :
    (s.updStream i f).keylock = s.keylock := rfl
@[simp] theorem State.updStream_ports (i : Fin 16) (f : StreamLive → StreamLive) : (s.updStream i f).ports = s.ports
    := rfl
@[simp] theorem State.updStream_acceptance (i : Fin 16) (f : StreamLive → StreamLive) :
    (s.updStream i f).acceptance = { s.acceptance with streams := upd s.acceptance.streams i f } := rfl
@[simp] theorem State.updStream_engine (i : Fin 16) (f : StreamLive → StreamLive) :
    (s.updStream i f).engine = s.engine := rfl
@[simp] theorem State.updStream_harmonic (i : Fin 16) (f : StreamLive → StreamLive) :
    (s.updStream i f).harmonic = s.harmonic := rfl
@[simp] theorem State.updStream_unbalance (i : Fin 16) (f : StreamLive → StreamLive) :
    (s.updStream i f).unbalance = s.unbalance := rfl
@[simp] theorem State.updStream_duty (i : Fin 16) (f : StreamLive → StreamLive) : (s.updStream i f).duty = s.duty
    := rfl
@[simp] theorem State.updStream_supervisor (i : Fin 16) (f : StreamLive → StreamLive) :
    (s.updStream i f).supervisor = s.supervisor := rfl
@[simp] theorem State.updStream_switching (i : Fin 16) (f : StreamLive → StreamLive) :
    (s.updStream i f).switching = s.switching := rfl
@[simp] theorem State.updStream_commands (i : Fin 16) (f : StreamLive → StreamLive) :
    (s.updStream i f).commands = s.commands := rfl
@[simp] theorem State.updStream_agent (i : Fin 16) (f : StreamLive → StreamLive) : (s.updStream i f).agent = s.agent
    := rfl
@[simp] theorem State.updStream_memory (i : Fin 16) (f : StreamLive → StreamLive) :
    (s.updStream i f).memory = s.memory := rfl
@[simp] theorem State.updStream_events (i : Fin 16) (f : StreamLive → StreamLive) :
    (s.updStream i f).events = s.events := rfl

@[simp] theorem State.updInput_pending (i : Fin 38) (f : InputLive → InputLive) :
    (s.updInput i f).pending = s.pending := rfl
@[simp] theorem State.updInput_mail (i : Fin 38) (f : InputLive → InputLive) : (s.updInput i f).mail = s.mail := rfl
@[simp] theorem State.updInput_phase (i : Fin 38) (f : InputLive → InputLive) : (s.updInput i f).phase = s.phase
    := rfl
@[simp] theorem State.updInput_timebase (i : Fin 38) (f : InputLive → InputLive) :
    (s.updInput i f).timebase = s.timebase := rfl
@[simp] theorem State.updInput_keylock (i : Fin 38) (f : InputLive → InputLive) :
    (s.updInput i f).keylock = s.keylock := rfl
@[simp] theorem State.updInput_ports (i : Fin 38) (f : InputLive → InputLive) : (s.updInput i f).ports = s.ports
    := rfl
@[simp] theorem State.updInput_acceptance (i : Fin 38) (f : InputLive → InputLive) :
    (s.updInput i f).acceptance = { s.acceptance with inputs := upd s.acceptance.inputs i f } := rfl
@[simp] theorem State.updInput_engine (i : Fin 38) (f : InputLive → InputLive) : (s.updInput i f).engine = s.engine
    := rfl
@[simp] theorem State.updInput_harmonic (i : Fin 38) (f : InputLive → InputLive) :
    (s.updInput i f).harmonic = s.harmonic := rfl
@[simp] theorem State.updInput_unbalance (i : Fin 38) (f : InputLive → InputLive) :
    (s.updInput i f).unbalance = s.unbalance := rfl
@[simp] theorem State.updInput_duty (i : Fin 38) (f : InputLive → InputLive) : (s.updInput i f).duty = s.duty := rfl
@[simp] theorem State.updInput_supervisor (i : Fin 38) (f : InputLive → InputLive) :
    (s.updInput i f).supervisor = s.supervisor := rfl
@[simp] theorem State.updInput_switching (i : Fin 38) (f : InputLive → InputLive) :
    (s.updInput i f).switching = s.switching := rfl
@[simp] theorem State.updInput_commands (i : Fin 38) (f : InputLive → InputLive) :
    (s.updInput i f).commands = s.commands := rfl
@[simp] theorem State.updInput_agent (i : Fin 38) (f : InputLive → InputLive) : (s.updInput i f).agent = s.agent
    := rfl
@[simp] theorem State.updInput_memory (i : Fin 38) (f : InputLive → InputLive) : (s.updInput i f).memory = s.memory
    := rfl
@[simp] theorem State.updInput_events (i : Fin 38) (f : InputLive → InputLive) : (s.updInput i f).events = s.events
    := rfl

@[simp] theorem State.updUnbalance_pending (i : Fin 8) (f : UnbalanceLive → UnbalanceLive) :
    (s.updUnbalance i f).pending = s.pending := rfl
@[simp] theorem State.updUnbalance_mail (i : Fin 8) (f : UnbalanceLive → UnbalanceLive) :
    (s.updUnbalance i f).mail = s.mail := rfl
@[simp] theorem State.updUnbalance_phase (i : Fin 8) (f : UnbalanceLive → UnbalanceLive) :
    (s.updUnbalance i f).phase = s.phase := rfl
@[simp] theorem State.updUnbalance_timebase (i : Fin 8) (f : UnbalanceLive → UnbalanceLive) :
    (s.updUnbalance i f).timebase = s.timebase := rfl
@[simp] theorem State.updUnbalance_keylock (i : Fin 8) (f : UnbalanceLive → UnbalanceLive) :
    (s.updUnbalance i f).keylock = s.keylock := rfl
@[simp] theorem State.updUnbalance_ports (i : Fin 8) (f : UnbalanceLive → UnbalanceLive) :
    (s.updUnbalance i f).ports = s.ports := rfl
@[simp] theorem State.updUnbalance_acceptance (i : Fin 8) (f : UnbalanceLive → UnbalanceLive) :
    (s.updUnbalance i f).acceptance = s.acceptance := rfl
@[simp] theorem State.updUnbalance_engine (i : Fin 8) (f : UnbalanceLive → UnbalanceLive) :
    (s.updUnbalance i f).engine = s.engine := rfl
@[simp] theorem State.updUnbalance_harmonic (i : Fin 8) (f : UnbalanceLive → UnbalanceLive) :
    (s.updUnbalance i f).harmonic = s.harmonic := rfl
@[simp] theorem State.updUnbalance_unbalance (i : Fin 8) (f : UnbalanceLive → UnbalanceLive) :
    (s.updUnbalance i f).unbalance = { s.unbalance with steps := upd s.unbalance.steps i f } := rfl
@[simp] theorem State.updUnbalance_duty (i : Fin 8) (f : UnbalanceLive → UnbalanceLive) :
    (s.updUnbalance i f).duty = s.duty := rfl
@[simp] theorem State.updUnbalance_supervisor (i : Fin 8) (f : UnbalanceLive → UnbalanceLive) :
    (s.updUnbalance i f).supervisor = s.supervisor := rfl
@[simp] theorem State.updUnbalance_switching (i : Fin 8) (f : UnbalanceLive → UnbalanceLive) :
    (s.updUnbalance i f).switching = s.switching := rfl
@[simp] theorem State.updUnbalance_commands (i : Fin 8) (f : UnbalanceLive → UnbalanceLive) :
    (s.updUnbalance i f).commands = s.commands := rfl
@[simp] theorem State.updUnbalance_agent (i : Fin 8) (f : UnbalanceLive → UnbalanceLive) :
    (s.updUnbalance i f).agent = s.agent := rfl
@[simp] theorem State.updUnbalance_memory (i : Fin 8) (f : UnbalanceLive → UnbalanceLive) :
    (s.updUnbalance i f).memory = s.memory := rfl
@[simp] theorem State.updUnbalance_events (i : Fin 8) (f : UnbalanceLive → UnbalanceLive) :
    (s.updUnbalance i f).events = s.events := rfl

@[simp] theorem State.updDuty_pending (i : Fin 8) (f : DutyLive → DutyLive) : (s.updDuty i f).pending = s.pending
    := rfl
@[simp] theorem State.updDuty_mail (i : Fin 8) (f : DutyLive → DutyLive) : (s.updDuty i f).mail = s.mail := rfl
@[simp] theorem State.updDuty_phase (i : Fin 8) (f : DutyLive → DutyLive) : (s.updDuty i f).phase = s.phase := rfl
@[simp] theorem State.updDuty_timebase (i : Fin 8) (f : DutyLive → DutyLive) : (s.updDuty i f).timebase = s.timebase
    := rfl
@[simp] theorem State.updDuty_keylock (i : Fin 8) (f : DutyLive → DutyLive) : (s.updDuty i f).keylock = s.keylock
    := rfl
@[simp] theorem State.updDuty_ports (i : Fin 8) (f : DutyLive → DutyLive) : (s.updDuty i f).ports = s.ports := rfl
@[simp] theorem State.updDuty_acceptance (i : Fin 8) (f : DutyLive → DutyLive) :
    (s.updDuty i f).acceptance = s.acceptance := rfl
@[simp] theorem State.updDuty_engine (i : Fin 8) (f : DutyLive → DutyLive) : (s.updDuty i f).engine = s.engine := rfl
@[simp] theorem State.updDuty_harmonic (i : Fin 8) (f : DutyLive → DutyLive) : (s.updDuty i f).harmonic = s.harmonic
    := rfl
@[simp] theorem State.updDuty_unbalance (i : Fin 8) (f : DutyLive → DutyLive) :
    (s.updDuty i f).unbalance = s.unbalance := rfl
@[simp] theorem State.updDuty_duty (i : Fin 8) (f : DutyLive → DutyLive) :
    (s.updDuty i f).duty = { s.duty with steps := upd s.duty.steps i f } := rfl
@[simp] theorem State.updDuty_supervisor (i : Fin 8) (f : DutyLive → DutyLive) :
    (s.updDuty i f).supervisor = s.supervisor := rfl
@[simp] theorem State.updDuty_switching (i : Fin 8) (f : DutyLive → DutyLive) :
    (s.updDuty i f).switching = s.switching := rfl
@[simp] theorem State.updDuty_commands (i : Fin 8) (f : DutyLive → DutyLive) : (s.updDuty i f).commands = s.commands
    := rfl
@[simp] theorem State.updDuty_agent (i : Fin 8) (f : DutyLive → DutyLive) : (s.updDuty i f).agent = s.agent := rfl
@[simp] theorem State.updDuty_memory (i : Fin 8) (f : DutyLive → DutyLive) : (s.updDuty i f).memory = s.memory := rfl
@[simp] theorem State.updDuty_events (i : Fin 8) (f : DutyLive → DutyLive) : (s.updDuty i f).events = s.events := rfl

@[simp] theorem State.updStep_pending (i : Fin 8) (f : StepLive → StepLive) : (s.updStep i f).pending = s.pending
    := rfl
@[simp] theorem State.updStep_mail (i : Fin 8) (f : StepLive → StepLive) : (s.updStep i f).mail = s.mail := rfl
@[simp] theorem State.updStep_phase (i : Fin 8) (f : StepLive → StepLive) : (s.updStep i f).phase = s.phase := rfl
@[simp] theorem State.updStep_timebase (i : Fin 8) (f : StepLive → StepLive) : (s.updStep i f).timebase = s.timebase
    := rfl
@[simp] theorem State.updStep_keylock (i : Fin 8) (f : StepLive → StepLive) : (s.updStep i f).keylock = s.keylock
    := rfl
@[simp] theorem State.updStep_ports (i : Fin 8) (f : StepLive → StepLive) : (s.updStep i f).ports = s.ports := rfl
@[simp] theorem State.updStep_acceptance (i : Fin 8) (f : StepLive → StepLive) :
    (s.updStep i f).acceptance = s.acceptance := rfl
@[simp] theorem State.updStep_engine (i : Fin 8) (f : StepLive → StepLive) : (s.updStep i f).engine = s.engine := rfl
@[simp] theorem State.updStep_harmonic (i : Fin 8) (f : StepLive → StepLive) : (s.updStep i f).harmonic = s.harmonic
    := rfl
@[simp] theorem State.updStep_unbalance (i : Fin 8) (f : StepLive → StepLive) :
    (s.updStep i f).unbalance = s.unbalance := rfl
@[simp] theorem State.updStep_duty (i : Fin 8) (f : StepLive → StepLive) : (s.updStep i f).duty = s.duty := rfl
@[simp] theorem State.updStep_supervisor (i : Fin 8) (f : StepLive → StepLive) :
    (s.updStep i f).supervisor = { s.supervisor with steps := upd s.supervisor.steps i f } := rfl
@[simp] theorem State.updStep_switching (i : Fin 8) (f : StepLive → StepLive) :
    (s.updStep i f).switching = s.switching := rfl
@[simp] theorem State.updStep_commands (i : Fin 8) (f : StepLive → StepLive) : (s.updStep i f).commands = s.commands
    := rfl
@[simp] theorem State.updStep_agent (i : Fin 8) (f : StepLive → StepLive) : (s.updStep i f).agent = s.agent := rfl
@[simp] theorem State.updStep_memory (i : Fin 8) (f : StepLive → StepLive) : (s.updStep i f).memory = s.memory := rfl
@[simp] theorem State.updStep_events (i : Fin 8) (f : StepLive → StepLive) : (s.updStep i f).events = s.events := rfl

@[simp] theorem State.updUnit_pending (u : Fin 9) (f : UnitLive → UnitLive) : (s.updUnit u f).pending = s.pending
    := rfl
@[simp] theorem State.updUnit_mail (u : Fin 9) (f : UnitLive → UnitLive) : (s.updUnit u f).mail = s.mail := rfl
@[simp] theorem State.updUnit_phase (u : Fin 9) (f : UnitLive → UnitLive) : (s.updUnit u f).phase = s.phase := rfl
@[simp] theorem State.updUnit_timebase (u : Fin 9) (f : UnitLive → UnitLive) : (s.updUnit u f).timebase = s.timebase
    := rfl
@[simp] theorem State.updUnit_keylock (u : Fin 9) (f : UnitLive → UnitLive) : (s.updUnit u f).keylock = s.keylock
    := rfl
@[simp] theorem State.updUnit_ports (u : Fin 9) (f : UnitLive → UnitLive) : (s.updUnit u f).ports = s.ports := rfl
@[simp] theorem State.updUnit_acceptance (u : Fin 9) (f : UnitLive → UnitLive) :
    (s.updUnit u f).acceptance = s.acceptance := rfl
@[simp] theorem State.updUnit_engine (u : Fin 9) (f : UnitLive → UnitLive) : (s.updUnit u f).engine = s.engine := rfl
@[simp] theorem State.updUnit_harmonic (u : Fin 9) (f : UnitLive → UnitLive) : (s.updUnit u f).harmonic = s.harmonic
    := rfl
@[simp] theorem State.updUnit_unbalance (u : Fin 9) (f : UnitLive → UnitLive) :
    (s.updUnit u f).unbalance = s.unbalance := rfl
@[simp] theorem State.updUnit_duty (u : Fin 9) (f : UnitLive → UnitLive) : (s.updUnit u f).duty = s.duty := rfl
@[simp] theorem State.updUnit_supervisor (u : Fin 9) (f : UnitLive → UnitLive) :
    (s.updUnit u f).supervisor = s.supervisor := rfl
@[simp] theorem State.updUnit_switching (u : Fin 9) (f : UnitLive → UnitLive) :
    (s.updUnit u f).switching = s.switching := rfl
@[simp] theorem State.updUnit_commands (u : Fin 9) (f : UnitLive → UnitLive) :
    (s.updUnit u f).commands = upd s.commands u f := rfl
@[simp] theorem State.updUnit_agent (u : Fin 9) (f : UnitLive → UnitLive) : (s.updUnit u f).agent = s.agent := rfl
@[simp] theorem State.updUnit_memory (u : Fin 9) (f : UnitLive → UnitLive) : (s.updUnit u f).memory = s.memory := rfl
@[simp] theorem State.updUnit_events (u : Fin 9) (f : UnitLive → UnitLive) : (s.updUnit u f).events = s.events := rfl

@[simp] theorem State.updSwitching_pending (f : SwitchingState → SwitchingState) :
    (s.updSwitching f).pending = s.pending := rfl
@[simp] theorem State.updSwitching_mail (f : SwitchingState → SwitchingState) : (s.updSwitching f).mail = s.mail
    := rfl
@[simp] theorem State.updSwitching_phase (f : SwitchingState → SwitchingState) : (s.updSwitching f).phase = s.phase
    := rfl
@[simp] theorem State.updSwitching_timebase (f : SwitchingState → SwitchingState) :
    (s.updSwitching f).timebase = s.timebase := rfl
@[simp] theorem State.updSwitching_keylock (f : SwitchingState → SwitchingState) :
    (s.updSwitching f).keylock = s.keylock := rfl
@[simp] theorem State.updSwitching_ports (f : SwitchingState → SwitchingState) : (s.updSwitching f).ports = s.ports
    := rfl
@[simp] theorem State.updSwitching_acceptance (f : SwitchingState → SwitchingState) :
    (s.updSwitching f).acceptance = s.acceptance := rfl
@[simp] theorem State.updSwitching_engine (f : SwitchingState → SwitchingState) :
    (s.updSwitching f).engine = s.engine := rfl
@[simp] theorem State.updSwitching_harmonic (f : SwitchingState → SwitchingState) :
    (s.updSwitching f).harmonic = s.harmonic := rfl
@[simp] theorem State.updSwitching_unbalance (f : SwitchingState → SwitchingState) :
    (s.updSwitching f).unbalance = s.unbalance := rfl
@[simp] theorem State.updSwitching_duty (f : SwitchingState → SwitchingState) : (s.updSwitching f).duty = s.duty
    := rfl
@[simp] theorem State.updSwitching_supervisor (f : SwitchingState → SwitchingState) :
    (s.updSwitching f).supervisor = s.supervisor := rfl
@[simp] theorem State.updSwitching_switching (f : SwitchingState → SwitchingState) :
    (s.updSwitching f).switching = f s.switching := rfl
@[simp] theorem State.updSwitching_commands (f : SwitchingState → SwitchingState) :
    (s.updSwitching f).commands = s.commands := rfl
@[simp] theorem State.updSwitching_agent (f : SwitchingState → SwitchingState) : (s.updSwitching f).agent = s.agent
    := rfl
@[simp] theorem State.updSwitching_memory (f : SwitchingState → SwitchingState) :
    (s.updSwitching f).memory = s.memory := rfl
@[simp] theorem State.updSwitching_events (f : SwitchingState → SwitchingState) :
    (s.updSwitching f).events = s.events := rfl

@[simp] theorem State.updBuffer_pending (b : Fin 2) (f : CaptureBuffer → CaptureBuffer) :
    (s.updBuffer b f).pending = s.pending := rfl
@[simp] theorem State.updBuffer_mail (b : Fin 2) (f : CaptureBuffer → CaptureBuffer) :
    (s.updBuffer b f).mail = s.mail := rfl
@[simp] theorem State.updBuffer_phase (b : Fin 2) (f : CaptureBuffer → CaptureBuffer) :
    (s.updBuffer b f).phase = s.phase := rfl
@[simp] theorem State.updBuffer_timebase (b : Fin 2) (f : CaptureBuffer → CaptureBuffer) :
    (s.updBuffer b f).timebase = s.timebase := rfl
@[simp] theorem State.updBuffer_keylock (b : Fin 2) (f : CaptureBuffer → CaptureBuffer) :
    (s.updBuffer b f).keylock = s.keylock := rfl
@[simp] theorem State.updBuffer_ports (b : Fin 2) (f : CaptureBuffer → CaptureBuffer) :
    (s.updBuffer b f).ports = s.ports := rfl
@[simp] theorem State.updBuffer_acceptance (b : Fin 2) (f : CaptureBuffer → CaptureBuffer) :
    (s.updBuffer b f).acceptance = s.acceptance := rfl
@[simp] theorem State.updBuffer_engine (b : Fin 2) (f : CaptureBuffer → CaptureBuffer) :
    (s.updBuffer b f).engine = s.engine := rfl
@[simp] theorem State.updBuffer_harmonic (b : Fin 2) (f : CaptureBuffer → CaptureBuffer) :
    (s.updBuffer b f).harmonic = s.harmonic := rfl
@[simp] theorem State.updBuffer_unbalance (b : Fin 2) (f : CaptureBuffer → CaptureBuffer) :
    (s.updBuffer b f).unbalance = s.unbalance := rfl
@[simp] theorem State.updBuffer_duty (b : Fin 2) (f : CaptureBuffer → CaptureBuffer) :
    (s.updBuffer b f).duty = s.duty := rfl
@[simp] theorem State.updBuffer_supervisor (b : Fin 2) (f : CaptureBuffer → CaptureBuffer) :
    (s.updBuffer b f).supervisor = s.supervisor := rfl
@[simp] theorem State.updBuffer_switching (b : Fin 2) (f : CaptureBuffer → CaptureBuffer) :
    (s.updBuffer b f).switching = s.switching := rfl
@[simp] theorem State.updBuffer_commands (b : Fin 2) (f : CaptureBuffer → CaptureBuffer) :
    (s.updBuffer b f).commands = s.commands := rfl
@[simp] theorem State.updBuffer_agent (b : Fin 2) (f : CaptureBuffer → CaptureBuffer) :
    (s.updBuffer b f).agent = s.agent := rfl
@[simp] theorem State.updBuffer_memory (b : Fin 2) (f : CaptureBuffer → CaptureBuffer) :
    (s.updBuffer b f).memory = s.memory := rfl
@[simp] theorem State.updBuffer_events (b : Fin 2) (f : CaptureBuffer → CaptureBuffer) :
    (s.updBuffer b f).events = { s.events with buffers := upd s.events.buffers b f } := rfl

@[simp] theorem State.updMemory_pending (f : MemoryState → MemoryState) : (s.updMemory f).pending = s.pending := rfl
@[simp] theorem State.updMemory_mail (f : MemoryState → MemoryState) : (s.updMemory f).mail = s.mail := rfl
@[simp] theorem State.updMemory_phase (f : MemoryState → MemoryState) : (s.updMemory f).phase = s.phase := rfl
@[simp] theorem State.updMemory_timebase (f : MemoryState → MemoryState) : (s.updMemory f).timebase = s.timebase
    := rfl
@[simp] theorem State.updMemory_keylock (f : MemoryState → MemoryState) : (s.updMemory f).keylock = s.keylock := rfl
@[simp] theorem State.updMemory_ports (f : MemoryState → MemoryState) : (s.updMemory f).ports = s.ports := rfl
@[simp] theorem State.updMemory_acceptance (f : MemoryState → MemoryState) :
    (s.updMemory f).acceptance = s.acceptance := rfl
@[simp] theorem State.updMemory_engine (f : MemoryState → MemoryState) : (s.updMemory f).engine = s.engine := rfl
@[simp] theorem State.updMemory_harmonic (f : MemoryState → MemoryState) : (s.updMemory f).harmonic = s.harmonic
    := rfl
@[simp] theorem State.updMemory_unbalance (f : MemoryState → MemoryState) : (s.updMemory f).unbalance = s.unbalance
    := rfl
@[simp] theorem State.updMemory_duty (f : MemoryState → MemoryState) : (s.updMemory f).duty = s.duty := rfl
@[simp] theorem State.updMemory_supervisor (f : MemoryState → MemoryState) :
    (s.updMemory f).supervisor = s.supervisor := rfl
@[simp] theorem State.updMemory_switching (f : MemoryState → MemoryState) : (s.updMemory f).switching = s.switching
    := rfl
@[simp] theorem State.updMemory_commands (f : MemoryState → MemoryState) : (s.updMemory f).commands = s.commands
    := rfl
@[simp] theorem State.updMemory_agent (f : MemoryState → MemoryState) : (s.updMemory f).agent = s.agent := rfl
@[simp] theorem State.updMemory_memory (f : MemoryState → MemoryState) : (s.updMemory f).memory = f s.memory := rfl
@[simp] theorem State.updMemory_events (f : MemoryState → MemoryState) : (s.updMemory f).events = s.events := rfl

@[simp] theorem State.dropMail_pending (m : Instr) : (s.dropMail m).pending = s.pending := rfl
@[simp] theorem State.dropMail_mail (m : Instr) : (s.dropMail m).mail = s.mail.erase m := rfl
@[simp] theorem State.dropMail_phase (m : Instr) : (s.dropMail m).phase = s.phase := rfl
@[simp] theorem State.dropMail_timebase (m : Instr) : (s.dropMail m).timebase = s.timebase := rfl
@[simp] theorem State.dropMail_keylock (m : Instr) : (s.dropMail m).keylock = s.keylock := rfl
@[simp] theorem State.dropMail_ports (m : Instr) : (s.dropMail m).ports = s.ports := rfl
@[simp] theorem State.dropMail_acceptance (m : Instr) : (s.dropMail m).acceptance = s.acceptance := rfl
@[simp] theorem State.dropMail_engine (m : Instr) : (s.dropMail m).engine = s.engine := rfl
@[simp] theorem State.dropMail_harmonic (m : Instr) : (s.dropMail m).harmonic = s.harmonic := rfl
@[simp] theorem State.dropMail_unbalance (m : Instr) : (s.dropMail m).unbalance = s.unbalance := rfl
@[simp] theorem State.dropMail_duty (m : Instr) : (s.dropMail m).duty = s.duty := rfl
@[simp] theorem State.dropMail_supervisor (m : Instr) : (s.dropMail m).supervisor = s.supervisor := rfl
@[simp] theorem State.dropMail_switching (m : Instr) : (s.dropMail m).switching = s.switching := rfl
@[simp] theorem State.dropMail_commands (m : Instr) : (s.dropMail m).commands = s.commands := rfl
@[simp] theorem State.dropMail_agent (m : Instr) : (s.dropMail m).agent = s.agent := rfl
@[simp] theorem State.dropMail_memory (m : Instr) : (s.dropMail m).memory = s.memory := rfl
@[simp] theorem State.dropMail_events (m : Instr) : (s.dropMail m).events = s.events := rfl

@[simp] theorem hand_pending (m : Instr) : (hand m s).pending = s.pending := rfl
@[simp] theorem hand_mail (m : Instr) : (hand m s).mail = s.mail ++ [m] := rfl
@[simp] theorem hand_phase (m : Instr) : (hand m s).phase = s.phase := rfl
@[simp] theorem hand_timebase (m : Instr) : (hand m s).timebase = s.timebase := rfl
@[simp] theorem hand_keylock (m : Instr) : (hand m s).keylock = s.keylock := rfl
@[simp] theorem hand_ports (m : Instr) : (hand m s).ports = s.ports := rfl
@[simp] theorem hand_acceptance (m : Instr) : (hand m s).acceptance = s.acceptance := rfl
@[simp] theorem hand_engine (m : Instr) : (hand m s).engine = s.engine := rfl
@[simp] theorem hand_harmonic (m : Instr) : (hand m s).harmonic = s.harmonic := rfl
@[simp] theorem hand_unbalance (m : Instr) : (hand m s).unbalance = s.unbalance := rfl
@[simp] theorem hand_duty (m : Instr) : (hand m s).duty = s.duty := rfl
@[simp] theorem hand_supervisor (m : Instr) : (hand m s).supervisor = s.supervisor := rfl
@[simp] theorem hand_switching (m : Instr) : (hand m s).switching = s.switching := rfl
@[simp] theorem hand_commands (m : Instr) : (hand m s).commands = s.commands := rfl
@[simp] theorem hand_agent (m : Instr) : (hand m s).agent = s.agent := rfl
@[simp] theorem hand_memory (m : Instr) : (hand m s).memory = s.memory := rfl
@[simp] theorem hand_events (m : Instr) : (hand m s).events = s.events := rfl

@[simp] theorem State.putTables_pending (t : Tables) : (s.putTables t).pending = s.pending := rfl
@[simp] theorem State.putTables_mail (t : Tables) : (s.putTables t).mail = s.mail := rfl
@[simp] theorem State.putTables_phase (t : Tables) : (s.putTables t).phase = s.phase := rfl
@[simp] theorem State.putTables_timebase (t : Tables) : (s.putTables t).timebase = s.timebase := rfl
@[simp] theorem State.putTables_keylock (t : Tables) : (s.putTables t).keylock = s.keylock := rfl
@[simp] theorem State.putTables_ports (t : Tables) : (s.putTables t).ports = s.ports := rfl
@[simp] theorem State.putTables_acceptance (t : Tables) : (s.putTables t).acceptance = s.acceptance := rfl
@[simp] theorem State.putTables_engine (t : Tables) : (s.putTables t).engine = s.engine := rfl
@[simp] theorem State.putTables_harmonic (t : Tables) : (s.putTables t).harmonic = s.harmonic := rfl
@[simp] theorem State.putTables_unbalance (t : Tables) : (s.putTables t).unbalance = s.unbalance := rfl
@[simp] theorem State.putTables_duty (t : Tables) : (s.putTables t).duty = s.duty := rfl
@[simp] theorem State.putTables_supervisor (t : Tables) : (s.putTables t).supervisor = s.supervisor := rfl
@[simp] theorem State.putTables_switching (t : Tables) : (s.putTables t).switching = s.switching := rfl
@[simp] theorem State.putTables_commands (t : Tables) : (s.putTables t).commands = s.commands := rfl
@[simp] theorem State.putTables_agent (t : Tables) : (s.putTables t).agent = s.agent := rfl
@[simp] theorem State.putTables_memory (t : Tables) : (s.putTables t).memory = { s.memory with tables := t } := rfl
@[simp] theorem State.putTables_events (t : Tables) : (s.putTables t).events = s.events := rfl

@[simp] theorem logEvent_pending (k : EventKind) (x : Subject) (v : Option Nat) :
    (logEvent k x v s).pending = s.pending := rfl
@[simp] theorem logEvent_mail (k : EventKind) (x : Subject) (v : Option Nat) : (logEvent k x v s).mail = s.mail := rfl
@[simp] theorem logEvent_phase (k : EventKind) (x : Subject) (v : Option Nat) : (logEvent k x v s).phase = s.phase
    := rfl
@[simp] theorem logEvent_timebase (k : EventKind) (x : Subject) (v : Option Nat) :
    (logEvent k x v s).timebase = s.timebase := rfl
@[simp] theorem logEvent_keylock (k : EventKind) (x : Subject) (v : Option Nat) :
    (logEvent k x v s).keylock = s.keylock := rfl
@[simp] theorem logEvent_ports (k : EventKind) (x : Subject) (v : Option Nat) : (logEvent k x v s).ports = s.ports
    := rfl
@[simp] theorem logEvent_acceptance (k : EventKind) (x : Subject) (v : Option Nat) :
    (logEvent k x v s).acceptance = s.acceptance := rfl
@[simp] theorem logEvent_engine (k : EventKind) (x : Subject) (v : Option Nat) :
    (logEvent k x v s).engine = s.engine := rfl
@[simp] theorem logEvent_harmonic (k : EventKind) (x : Subject) (v : Option Nat) :
    (logEvent k x v s).harmonic = s.harmonic := rfl
@[simp] theorem logEvent_unbalance (k : EventKind) (x : Subject) (v : Option Nat) :
    (logEvent k x v s).unbalance = s.unbalance := rfl
@[simp] theorem logEvent_duty (k : EventKind) (x : Subject) (v : Option Nat) : (logEvent k x v s).duty = s.duty := rfl
@[simp] theorem logEvent_supervisor (k : EventKind) (x : Subject) (v : Option Nat) :
    (logEvent k x v s).supervisor = s.supervisor := rfl
@[simp] theorem logEvent_switching (k : EventKind) (x : Subject) (v : Option Nat) :
    (logEvent k x v s).switching = s.switching := rfl
@[simp] theorem logEvent_commands (k : EventKind) (x : Subject) (v : Option Nat) :
    (logEvent k x v s).commands = s.commands := rfl
@[simp] theorem logEvent_agent (k : EventKind) (x : Subject) (v : Option Nat) : (logEvent k x v s).agent = s.agent
    := rfl
@[simp] theorem logEvent_memory (k : EventKind) (x : Subject) (v : Option Nat) :
    (logEvent k x v s).memory = s.memory := rfl
@[simp] theorem logEvent_events_next (k : EventKind) (x : Subject) (v : Option Nat) :
    (logEvent k x v s).events.next = (s.events.next + 1) % mod32 := rfl
@[simp] theorem logEvent_events_reportTimer (k : EventKind) (x : Subject) (v : Option Nat) :
    (logEvent k x v s).events.reportTimer = s.events.reportTimer := rfl
@[simp] theorem logEvent_events_changePending (k : EventKind) (x : Subject) (v : Option Nat) :
    (logEvent k x v s).events.changePending = s.events.changePending := rfl
@[simp] theorem logEvent_events_changeHold (k : EventKind) (x : Subject) (v : Option Nat) :
    (logEvent k x v s).events.changeHold = s.events.changeHold := rfl
@[simp] theorem logEvent_events_buffers (k : EventKind) (x : Subject) (v : Option Nat) :
    (logEvent k x v s).events.buffers = s.events.buffers := rfl

@[simp] theorem State.setPort_pending (p : Port) (x : PortState) : (s.setPort p x).pending = s.pending
    := by cases p <;> rfl
@[simp] theorem State.setPort_mail (p : Port) (x : PortState) : (s.setPort p x).mail = s.mail := by cases p <;> rfl
@[simp] theorem State.setPort_phase (p : Port) (x : PortState) : (s.setPort p x).phase = s.phase := by cases p <;> rfl
@[simp] theorem State.setPort_timebase (p : Port) (x : PortState) : (s.setPort p x).timebase = s.timebase
    := by cases p <;> rfl
@[simp] theorem State.setPort_keylock (p : Port) (x : PortState) : (s.setPort p x).keylock = s.keylock
    := by cases p <;> rfl
@[simp] theorem State.setPort_acceptance (p : Port) (x : PortState) : (s.setPort p x).acceptance = s.acceptance
    := by cases p <;> rfl
@[simp] theorem State.setPort_engine (p : Port) (x : PortState) : (s.setPort p x).engine = s.engine
    := by cases p <;> rfl
@[simp] theorem State.setPort_harmonic (p : Port) (x : PortState) : (s.setPort p x).harmonic = s.harmonic
    := by cases p <;> rfl
@[simp] theorem State.setPort_unbalance (p : Port) (x : PortState) : (s.setPort p x).unbalance = s.unbalance
    := by cases p <;> rfl
@[simp] theorem State.setPort_duty (p : Port) (x : PortState) : (s.setPort p x).duty = s.duty := by cases p <;> rfl
@[simp] theorem State.setPort_supervisor (p : Port) (x : PortState) : (s.setPort p x).supervisor = s.supervisor
    := by cases p <;> rfl
@[simp] theorem State.setPort_switching (p : Port) (x : PortState) : (s.setPort p x).switching = s.switching
    := by cases p <;> rfl
@[simp] theorem State.setPort_commands (p : Port) (x : PortState) : (s.setPort p x).commands = s.commands
    := by cases p <;> rfl
@[simp] theorem State.setPort_agent (p : Port) (x : PortState) : (s.setPort p x).agent = s.agent := by cases p <;> rfl
@[simp] theorem State.setPort_memory (p : Port) (x : PortState) : (s.setPort p x).memory = s.memory
    := by cases p <;> rfl
@[simp] theorem State.setPort_events (p : Port) (x : PortState) : (s.setPort p x).events = s.events
    := by cases p <;> rfl
@[simp] theorem State.setPort_ports_reportPort (p : Port) (x : PortState) :
    (s.setPort p x).ports.reportPort = s.ports.reportPort := by cases p <;> rfl
@[simp] theorem State.setPort_ports_link (p : Port) (x : PortState) : (s.setPort p x).ports.link = s.ports.link
    := by cases p <;> rfl
@[simp] theorem State.port_setPort (p : Port) (x : PortState) : (s.setPort p x).port p = x := by cases p <;> rfl
@[simp] theorem State.port_setPort_other (p : Port) (x : PortState) :
    (s.setPort p x).port (otherPort p) = s.port (otherPort p) := by
  cases p <;> rfl

end Sys2Proof.Machine
end

