-- ==== Sys2Proof/Laws/Taking.lean ====
section
/-! SUPPORT. What taking a command does (R165, R168, R171): with no error to find, the rows a command reads change nothing;
the change report touches ports, mail and reports only; agreement outside listed parts composes. -/

namespace Sys2Proof.Machine

/-! ## Agreement outside listed parts -/

theorem Part.same_refl (s : State) (p : Part) : p.same s s := by
  cases p <;> simp [Part.same]

theorem Part.same_trans {s t u : State} {p : Part} (h₁ : p.same s t) (h₂ : p.same t u) : p.same s u := by
  cases p <;> simp_all [Part.same]

theorem Part.same_symm {s t : State} {p : Part} (h : p.same s t) : p.same t s := by
  cases p <;> simp_all [Part.same]

theorem SameBut.refl (ps : List Part) (s : State) : SameBut ps s s := ⟨fun p _ => p.same_refl s⟩

theorem SameBut.trans {ps qs : List Part} {s t u : State} (h₁ : SameBut ps s t) (h₂ : SameBut qs t u) :
    SameBut (ps ++ qs) s u := ⟨fun p hp =>
  Part.same_trans (h₁.same p fun h => hp (List.mem_append_left _ h)) (h₂.same p fun h => hp (List.mem_append_right _ h))⟩

theorem SameBut.mono {ps qs : List Part} {s t : State} (h : SameBut ps s t) (hsub : ∀ p ∈ ps, p ∈ qs) :
    SameBut qs s t := ⟨fun p hp => h.same p fun hm => hp (hsub p hm)⟩

/-- A fold of updates touches what one of them touches. -/
theorem SameBut.foldl {α : Type} {ps : List Part} {f : State → α → State} (h : ∀ s a, SameBut ps s (f s a))
    (l : List α) (s : State) : SameBut ps s (l.foldl f s) := by
  induction l generalizing s with
  | nil => exact SameBut.refl ps s
  | cons a l ih => exact (SameBut.trans (h s a) (ih _)).mono (by simp)

theorem hand_sameBut (m : Instr) (s : State) : SameBut [.mail] s (hand m s) := by
  constructor; intro p hp; cases p <;> simp_all [Part.same]

theorem logEvent_sameBut (k : EventKind) (x : Subject) (v : Option Nat) (s : State) :
    SameBut [.eventList] s (logEvent k x v s) := by
  constructor; intro p hp; cases p <;> simp_all [Part.same]

theorem setPort_sameBut (p : Port) (x : PortState) (s : State) : SameBut [.ports] s (s.setPort p x) := by
  constructor; intro q hq; cases q <;> simp_all [Part.same]

theorem restartDue_sameBut (f : Option OriginFrame) (s : State) : SameBut [.mail] s (restartDue f s) := by
  unfold restartDue; split
  · split
    · exact hand_sameBut _ s
    · exact SameBut.refl _ s
  · exact SameBut.refl _ s

theorem enterOrigin_sameBut (f : OriginFrame) (p : Port) (s : State) : SameBut [.ports, .mail] s (enterOrigin f p s) :=
  (SameBut.trans (setPort_sameBut _ _ s) (restartDue_sameBut _ _)).mono (by simp)

theorem enterOrigins_sameBut (f : OriginFrame) (p : Option Port) (s : State) :
    SameBut [.ports, .mail] s (enterOrigins f p s) := by
  unfold enterOrigins; split
  · exact enterOrigin_sameBut _ _ s
  · exact (SameBut.trans (enterOrigin_sameBut _ _ s) (enterOrigin_sameBut _ _ _)).mono (by simp)

theorem sendReport_sameBut (a b : Bool) (s : State) : SameBut [.ports, .mail] s (sendReport a b s) :=
  enterOrigins_sameBut _ _ s

theorem sendChange_sameBut (s : State) : SameBut [.ports, .mail, .reports] s (sendChange s) := by
  refine (SameBut.trans (sendReport_sameBut (periodReached s) true s) (qs := [.reports]) ?_).mono (by simp)
  constructor; intro p hp; cases p <;> simp_all [Part.same, sendChange]

/-- With no error among the rows that an act uses, reading them changes nothing, whatever the other rows hold (R165). -/
theorem readAlong_whole {read : State → RowRef → State} {uses : State → List RowRef} {s : State}
    (h : ∀ r ∈ uses s, flawed s r = false) (n : Nat) : readAlong read uses n s = s := by
  cases n with
  | zero => rfl
  | succ n =>
    have : (uses s).find? (flawed s) = none := List.find?_eq_none.2 fun r hr => by simp [h r hr]
    simp only [readAlong, this]

/-- What one read of a row with an error keeps, the reads of an act keep. -/
theorem readAlong_keeps {P : State → Prop} {read : State → RowRef → State}
    (h : ∀ s r, flawed s r = true → P s → P (read s r)) (uses : State → List RowRef) (n : Nat) {s : State} (hs : P s) :
    P (readAlong read uses n s) := by
  induction n generalizing s with
  | zero => exact hs
  | succ n ih =>
    simp only [readAlong]
    split
    · exact ih (h _ _ (List.find?_some ‹_›) hs)
    · exact hs

/-- R157, R165: a read of the Link Table touches the table memory, the event list and the mark of a change only. -/
theorem readLink_sameBut (s : State) : SameBut [.memory, .eventList, .reports] s (readRow s .link) := by
  show SameBut _ s (readAt (96 + 1) s .link)
  unfold readAt
  split
  · exact SameBut.refl _ s
  · split
    · exact SameBut.refl _ s
    · constructor; intro p hp; cases p <;> simp_all [Part.same, correctRow, recordError]
    · dsimp only
      rw [readAlong_whole (uses := ownerUses .link _) (by simp [ownerUses])]
      dsimp only [ownerActs]
      unfold markChange; split <;>
        (constructor; intro p hp; cases p <;> simp_all [Part.same, markDamaged, recordError])

/-- R171: a state with a change pending. -/
theorem changePending_sameBut (s : State) :
    SameBut [.reports] s { s with events := { s.events with changePending := true } } := by
  constructor; intro p hp; cases p <;> simp_all [Part.same]

/-- R171: noting a change of the yard summary touches the ports, the mail and the reports, and what the read of the Link
Table for the report touches. -/
theorem noteChange_sameBut (before s : State) :
    SameBut [.ports, .mail, .reports, .memory, .eventList] s (noteChange before s) := by
  unfold noteChange; split
  · dsimp only; split
    · exact (((changePending_sameBut s).trans (readLink_sameBut _)).trans (sendChange_sameBut _)).mono (by simp)
    · exact (changePending_sameBut s).mono (by simp)
  · exact SameBut.refl _ s

theorem noteChange_self (s : State) : noteChange s s = s := by simp [noteChange]

/-! ## Reading rows without errors -/

theorem mem_allRows (r : RowRef) : r ∈ allRows := by
  cases r <;> simp [allRows]

/-- A read of one row without an error, or already DAMAGED, changes nothing. -/
theorem readRow_whole {s : State} {r : RowRef}
    (h : s.memory.tables.damagedAt r = true ∨ s.memory.tables.upsetAt r = .clean) : readRow s r = s := by
  show readAt (96 + 1) s r = s
  unfold readAt
  rcases h with h | h <;> simp [h]

theorem readRow_intact {s : State} (h : Intact s) (r : RowRef) : readRow s r = s := readRow_whole (h r (mem_allRows r))

/-- R171: with no error in the Link Table row, noting a change touches the ports, the mail and the reports only. -/
theorem noteChange_whole {before s : State}
    (h : s.memory.tables.damagedAt .link = true ∨ s.memory.tables.upsetAt .link = .clean) :
    SameBut [.ports, .mail, .reports] s (noteChange before s) := by
  unfold noteChange; split
  · dsimp only; split
    · rw [readRow_whole (by exact h)]
      exact ((changePending_sameBut s).trans (sendChange_sameBut _)).mono (by simp)
    · exact (changePending_sameBut s).mono (by simp)
  · exact SameBut.refl _ s

/-- With no error to find, reading rows one after the other changes nothing. -/
theorem readRows_intact {s : State} (h : Intact s) (rs : List RowRef) : readRows rs s = s := by
  unfold readRows
  induction rs with
  | nil => rfl
  | cons r rs ih => rw [List.foldl_cons, readRow_intact h, ih]

/-- R167: with no error to find, copying rows one after the other puts each into the image as it stands, and nothing else
changes. -/
theorem copyToImage_foldl_intact {s : State} (h : Intact s) (rs : List RowRef) (hr : rs ≠ []) :
    rs.foldl copyToImage s = s.updMemory fun m =>
      { m with
        copied := m.copied + rs.length
        image := some (rs.foldl (fun d r => m.tables.copyRow d r) (m.image.getD Tables.defaults)) } := by
  induction rs generalizing s with
  | nil => exact absurd rfl hr
  | cons r rs ih =>
    rw [List.foldl_cons, copyToImage, readRow_intact h]
    cases rs with
    | nil => rfl
    | cons r' rs =>
      rw [ih (s := s.updMemory fun m =>
        { m with copied := m.copied + 1, image := some (m.tables.copyRow (m.image.getD Tables.defaults) r) }) h (by simp)]
      simp [State.updMemory, Nat.add_comm, Nat.add_left_comm]

/-- R167: with no error to find, the store's next rows change nothing but the image and how many are copied. -/
theorem copyRows_intact {s : State} (h : Intact s) (n : Nat) :
    copyRows n s = s.updMemory fun m =>
      let rows := (allRows.drop m.copied).take n
      { m with
        copied := m.copied + rows.length
        image := if rows = [] then m.image
          else some (rows.foldl (fun d r => m.tables.copyRow d r) (m.image.getD Tables.defaults)) } := by
  unfold copyRows
  by_cases hr : (allRows.drop s.memory.copied).take n = []
  · simp [hr, State.updMemory]
  · simp only [copyToImage_foldl_intact h _ hr, State.updMemory, hr, if_false]

/-- With no error among the rows that an act uses, it reads nothing that changes the state (R165). -/
theorem readUsed_whole {uses : State → List RowRef} {s : State} (h : ∀ r ∈ uses s, flawed s r = false) :
    readUsed uses s = s := readAlong_whole h 97

theorem Intact.flawed {s : State} (h : Intact s) (r : RowRef) : flawed s r = false := by
  unfold Machine.flawed
  rcases h r (mem_allRows r) with h | h <;> simp [h]

/-- With no error to find, the reads of an act change nothing. -/
theorem readUsed_intact {s : State} (h : Intact s) (uses : State → List RowRef) : readUsed uses s = s :=
  readUsed_whole fun r _ => h.flawed r

theorem Intact.of_memory {s t : State} (h : Intact s) (e : t.memory = s.memory) : Intact t := by
  intro r hr; rw [e]; exact h r hr

theorem Ready.of_same {s t : State} (h : Ready s) (e₁ : t.phase = s.phase) (e₂ : t.memory = s.memory) : Ready t :=
  ⟨e₁.trans h.1, h.2.of_memory e₂⟩

/-- What a command reads leaves no other trace than the change pending mark among the reports. -/
theorem sinceTaken_self (s : State) : sinceTaken s s = s := rfl

/-- A part that is running, with no error to find, takes a command as its own effect and the note of a change. -/
theorem taking_ready {s : State} (h : Ready s) (c : Instr) (uses : State → List RowRef) (body : State → State) :
    taking c uses body s = noteChange (s.dropMail c) (body (s.dropMail c)) := by
  have hp : (s.dropMail c).phase = .running := h.1
  unfold taking
  simp only [hp]
  rw [readUsed_intact (s := s.dropMail c) (h.2.of_memory rfl), sinceTaken_self]

/-- A running part takes a command that uses no row as its own effect and the note of a change, whatever the rows hold. -/
theorem taking_noRows {s : State} (h : s.phase = .running) (c : Instr) (body : State → State) :
    taking c noRows body s = noteChange (s.dropMail c) (body (s.dropMail c)) := by
  have hp : (s.dropMail c).phase = .running := h
  unfold taking
  simp only [hp]
  rw [readUsed_whole (by simp [noRows]), sinceTaken_self]

/-- R168: between a reset and start-up no block acts. -/
theorem taking_inReset {s : State} {k : ResetKind} (h : s.phase = .inReset k) (c : Instr) (uses : State → List RowRef)
    (body : State → State) : taking c uses body s = s.dropMail c := by
  have hp : (s.dropMail c).phase = .inReset k := h
  unfold taking
  simp only [hp]

/-- A request that the agent answers. -/
theorem requesting_heard {s : State} (h : Ready s) {q : Requester} (hq : Heard q s) (c : Instr) (act : State → Served) :
    requesting c q act s =
      noteChange (s.dropMail c) (reply q s.link (act (s.dropMail c)).1 (act (s.dropMail c)).2) := by
  have h₁ : (s.dropMail c).agent.restartWait.isSome = false := by
    show s.agent.restartWait.isSome = false
    rw [hq.2]; rfl
  have h₂ : permitted q.address (s.dropMail c) = true := hq.1
  rw [requesting, taking_ready h, serve, h₁, h₂]
  rfl

end Sys2Proof.Machine
end

