-- ==== Sys2Proof/Laws/Frame.lean ====
section
/-! SUPPORT. What each shared operation leaves alone: for each operation one lemma that lists the parts it can touch
(`_sameBut`), and one that lets simp pass it by when those parts are listed (`_iff`). -/

set_option linter.unreachableTactic false
set_option linter.unusedTactic false
set_option linter.unusedSimpArgs false

namespace Sys2Proof.Machine

/-- The parts that break operations can touch. -/
abbrev breakParts : List Part :=
  [.mail, .acceptance, .engine, .harmonic, .unbalance, .duty, .supervisor, .switching, .memory, .eventList, .reports]

/-- The parts that command operations can touch. -/
abbrev commandParts : List Part :=
  [.mail, .ports, .unbalance, .commands, .eventList]

/-- The parts that frame operations can touch. -/
abbrev frameParts : List Part :=
  [.mail, .acceptance, .engine, .harmonic, .unbalance, .duty, .supervisor, .switching, .memory, .eventList, .reports, .capture]

/-- The parts that publish operations can touch. -/
abbrev publishParts : List Part :=
  [.mail, .engine, .harmonic, .unbalance, .duty, .supervisor, .switching, .memory, .eventList, .reports]

/-- The parts that read operations can touch. -/
abbrev readParts : List Part :=
  [.mail, .ports, .acceptance, .engine, .harmonic, .unbalance, .duty, .supervisor, .switching, .commands, .memory, .eventList, .reports]

theorem SameBut.iff {ps qs : List Part} {s t u : State} (h : SameBut qs t u) (hq : ∀ q ∈ qs, q ∈ ps) :
    SameBut ps s u ↔ SameBut ps s t :=
  ⟨fun k => ⟨fun p hp => Part.same_trans (k.same p hp) (Part.same_symm (h.same p fun hm => hp (hq p hm)))⟩,
   fun k => ⟨fun p hp => Part.same_trans (k.same p hp) (h.same p fun hm => hp (hq p hm))⟩⟩

/-- A fold of updates after others. -/
theorem SameBut.foldl_of {α : Type} {ps : List Part} {s t : State} {f : State → α → State} {l : List α}
    (h₀ : SameBut ps s t) (h : ∀ u a, SameBut ps u (f u a)) : SameBut ps s (l.foldl f t) := by
  induction l generalizing t with
  | nil => exact h₀
  | cons a l ih => exact ih ⟨fun p hp => Part.same_trans (h₀.same p hp) ((h t a).same p hp)⟩

theorem SameBut.after {ps : List Part} {s t u : State} (h' : SameBut ps t u) (h : SameBut ps s t) : SameBut ps s u :=
  ⟨fun p hp => Part.same_trans (h.same p hp) (h'.same p hp)⟩

theorem SameBut.ite_iff {ps : List Part} {s t u : State} {c : Prop} [Decidable c] :
    SameBut ps s (if c then t else u) ↔ (c → SameBut ps s t) ∧ (¬ c → SameBut ps s u) := by
  split <;> simp_all

theorem SameBut.refl_iff {ps : List Part} {s : State} : SameBut ps s s ↔ True := iff_of_true (.refl _ _) trivial

theorem State.updStream_sameBut (i : Fin 16) (f : StreamLive → StreamLive) (s : State) :
    SameBut [.acceptance] s (State.updStream i f s) := by
  constructor; intro p hp; cases p <;> simp_all [Part.same]

theorem State.updStream_iff {ps : List Part} {s₀ : State} (i : Fin 16) (f : StreamLive → StreamLive)
    (s : State)
    (hq : ∀ q ∈ ([.acceptance] : List Part), q ∈ ps) :
    SameBut ps s₀ (State.updStream i f s) ↔ SameBut ps s₀ s :=
  (State.updStream_sameBut i f s).iff hq

theorem State.updInput_sameBut (i : Fin 38) (f : InputLive → InputLive) (s : State) :
    SameBut [.acceptance] s (State.updInput i f s) := by
  constructor; intro p hp; cases p <;> simp_all [Part.same]

theorem State.updInput_iff {ps : List Part} {s₀ : State} (i : Fin 38) (f : InputLive → InputLive) (s : State)
   
    (hq : ∀ q ∈ ([.acceptance] : List Part), q ∈ ps) :
    SameBut ps s₀ (State.updInput i f s) ↔ SameBut ps s₀ s :=
  (State.updInput_sameBut i f s).iff hq

theorem State.updUnbalance_sameBut (i : Fin 8) (f : UnbalanceLive → UnbalanceLive) (s : State) :
    SameBut [.unbalance] s (State.updUnbalance i f s) := by
  constructor; intro p hp; cases p <;> simp_all [Part.same]

theorem State.updUnbalance_iff {ps : List Part} {s₀ : State} (i : Fin 8) (f : UnbalanceLive → UnbalanceLive)
    (s : State)
    (hq : ∀ q ∈ ([.unbalance] : List Part), q ∈ ps) :
    SameBut ps s₀ (State.updUnbalance i f s) ↔ SameBut ps s₀ s :=
  (State.updUnbalance_sameBut i f s).iff hq

theorem State.updDuty_sameBut (i : Fin 8) (f : DutyLive → DutyLive) (s : State) :
    SameBut [.duty] s (State.updDuty i f s) := by
  constructor; intro p hp; cases p <;> simp_all [Part.same]

theorem State.updDuty_iff {ps : List Part} {s₀ : State} (i : Fin 8) (f : DutyLive → DutyLive) (s : State)
   
    (hq : ∀ q ∈ ([.duty] : List Part), q ∈ ps) :
    SameBut ps s₀ (State.updDuty i f s) ↔ SameBut ps s₀ s :=
  (State.updDuty_sameBut i f s).iff hq

theorem State.updStep_sameBut (i : Fin 8) (f : StepLive → StepLive) (s : State) :
    SameBut [.supervisor] s (State.updStep i f s) := by
  constructor; intro p hp; cases p <;> simp_all [Part.same]

theorem State.updStep_iff {ps : List Part} {s₀ : State} (i : Fin 8) (f : StepLive → StepLive) (s : State)
   
    (hq : ∀ q ∈ ([.supervisor] : List Part), q ∈ ps) :
    SameBut ps s₀ (State.updStep i f s) ↔ SameBut ps s₀ s :=
  (State.updStep_sameBut i f s).iff hq

theorem State.updUnit_sameBut (u : Fin 9) (f : UnitLive → UnitLive) (s : State) :
    SameBut [.commands] s (State.updUnit u f s) := by
  constructor; intro p hp; cases p <;> simp_all [Part.same]

theorem State.updUnit_iff {ps : List Part} {s₀ : State} (u : Fin 9) (f : UnitLive → UnitLive) (s : State)
   
    (hq : ∀ q ∈ ([.commands] : List Part), q ∈ ps) :
    SameBut ps s₀ (State.updUnit u f s) ↔ SameBut ps s₀ s :=
  (State.updUnit_sameBut u f s).iff hq

theorem State.updSwitching_sameBut (f : SwitchingState → SwitchingState) (s : State) :
    SameBut [.switching] s (State.updSwitching f s) := by
  constructor; intro p hp; cases p <;> simp_all [Part.same]

theorem State.updSwitching_iff {ps : List Part} {s₀ : State} (f : SwitchingState → SwitchingState) (s : State)
   
    (hq : ∀ q ∈ ([.switching] : List Part), q ∈ ps) :
    SameBut ps s₀ (State.updSwitching f s) ↔ SameBut ps s₀ s :=
  (State.updSwitching_sameBut f s).iff hq

theorem State.updBuffer_sameBut (b : Fin 2) (f : CaptureBuffer → CaptureBuffer) (s : State) :
    SameBut [.capture] s (State.updBuffer b f s) := by
  constructor; intro p hp; cases p <;> simp_all [Part.same]

theorem State.updBuffer_iff {ps : List Part} {s₀ : State} (b : Fin 2) (f : CaptureBuffer → CaptureBuffer)
    (s : State)
    (hq : ∀ q ∈ ([.capture] : List Part), q ∈ ps) :
    SameBut ps s₀ (State.updBuffer b f s) ↔ SameBut ps s₀ s :=
  (State.updBuffer_sameBut b f s).iff hq

theorem State.updMemory_sameBut (f : MemoryState → MemoryState) (s : State) :
    SameBut [.memory] s (State.updMemory f s) := by
  constructor; intro p hp; cases p <;> simp_all [Part.same]

theorem State.updMemory_iff {ps : List Part} {s₀ : State} (f : MemoryState → MemoryState) (s : State)
   
    (hq : ∀ q ∈ ([.memory] : List Part), q ∈ ps) :
    SameBut ps s₀ (State.updMemory f s) ↔ SameBut ps s₀ s :=
  (State.updMemory_sameBut f s).iff hq

theorem State.putTables_sameBut (t : Tables) (s : State) : SameBut [.memory] s (State.putTables t s) := by
  constructor; intro p hp; cases p <;> simp_all [Part.same]

theorem State.putTables_iff {ps : List Part} {s₀ : State} (t : Tables) (s : State)
    (hq : ∀ q ∈ ([.memory] : List Part), q ∈ ps) :
    SameBut ps s₀ (State.putTables t s) ↔ SameBut ps s₀ s :=
  (State.putTables_sameBut t s).iff hq

theorem State.dropMail_sameBut (m : Instr) (s : State) : SameBut [.mail] s (State.dropMail m s) := by
  constructor; intro p hp; cases p <;> simp_all [Part.same]

theorem State.dropMail_iff {ps : List Part} {s₀ : State} (m : Instr) (s : State)
    (hq : ∀ q ∈ ([.mail] : List Part), q ∈ ps) :
    SameBut ps s₀ (State.dropMail m s) ↔ SameBut ps s₀ s :=
  (State.dropMail_sameBut m s).iff hq

theorem pending_sameBut (x : List Instr) (s : State) : SameBut [.pending] s ({ s with pending := x }) := by
  constructor; intro p hp; cases p <;> simp_all [Part.same]

theorem pending_iff {ps : List Part} {s₀ : State} (x : List Instr) (s : State)
    (hq : ∀ q ∈ ([.pending] : List Part), q ∈ ps) :
    SameBut ps s₀ ({ s with pending := x }) ↔ SameBut ps s₀ s :=
  (pending_sameBut x s).iff hq

theorem mail_sameBut (x : List Instr) (s : State) : SameBut [.mail] s ({ s with mail := x }) := by
  constructor; intro p hp; cases p <;> simp_all [Part.same]

theorem mail_iff {ps : List Part} {s₀ : State} (x : List Instr) (s : State)
    (hq : ∀ q ∈ ([.mail] : List Part), q ∈ ps) :
    SameBut ps s₀ ({ s with mail := x }) ↔ SameBut ps s₀ s :=
  (mail_sameBut x s).iff hq

theorem ports_sameBut (x : PortsState) (s : State) : SameBut [.ports] s ({ s with ports := x }) := by
  constructor; intro p hp; cases p <;> simp_all [Part.same]

theorem ports_iff {ps : List Part} {s₀ : State} (x : PortsState) (s : State)
    (hq : ∀ q ∈ ([.ports] : List Part), q ∈ ps) :
    SameBut ps s₀ ({ s with ports := x }) ↔ SameBut ps s₀ s :=
  (ports_sameBut x s).iff hq

theorem acceptance_sameBut (x : AcceptanceState) (s : State) : SameBut [.acceptance] s ({ s with acceptance := x }) := by
  constructor; intro p hp; cases p <;> simp_all [Part.same]

theorem acceptance_iff {ps : List Part} {s₀ : State} (x : AcceptanceState) (s : State)
    (hq : ∀ q ∈ ([.acceptance] : List Part), q ∈ ps) :
    SameBut ps s₀ ({ s with acceptance := x }) ↔ SameBut ps s₀ s :=
  (acceptance_sameBut x s).iff hq

theorem engine_sameBut (x : EngineState) (s : State) : SameBut [.engine] s ({ s with engine := x }) := by
  constructor; intro p hp; cases p <;> simp_all [Part.same]

theorem engine_iff {ps : List Part} {s₀ : State} (x : EngineState) (s : State)
    (hq : ∀ q ∈ ([.engine] : List Part), q ∈ ps) :
    SameBut ps s₀ ({ s with engine := x }) ↔ SameBut ps s₀ s :=
  (engine_sameBut x s).iff hq

theorem harmonic_sameBut (x : HarmonicState) (s : State) : SameBut [.harmonic] s ({ s with harmonic := x }) := by
  constructor; intro p hp; cases p <;> simp_all [Part.same]

theorem harmonic_iff {ps : List Part} {s₀ : State} (x : HarmonicState) (s : State)
    (hq : ∀ q ∈ ([.harmonic] : List Part), q ∈ ps) :
    SameBut ps s₀ ({ s with harmonic := x }) ↔ SameBut ps s₀ s :=
  (harmonic_sameBut x s).iff hq

theorem unbalance_sameBut (x : UnbalanceState) (s : State) : SameBut [.unbalance] s ({ s with unbalance := x }) := by
  constructor; intro p hp; cases p <;> simp_all [Part.same]

theorem unbalance_iff {ps : List Part} {s₀ : State} (x : UnbalanceState) (s : State)
    (hq : ∀ q ∈ ([.unbalance] : List Part), q ∈ ps) :
    SameBut ps s₀ ({ s with unbalance := x }) ↔ SameBut ps s₀ s :=
  (unbalance_sameBut x s).iff hq

theorem duty_sameBut (x : DutyState) (s : State) : SameBut [.duty] s ({ s with duty := x }) := by
  constructor; intro p hp; cases p <;> simp_all [Part.same]

theorem duty_iff {ps : List Part} {s₀ : State} (x : DutyState) (s : State)
    (hq : ∀ q ∈ ([.duty] : List Part), q ∈ ps) :
    SameBut ps s₀ ({ s with duty := x }) ↔ SameBut ps s₀ s :=
  (duty_sameBut x s).iff hq

theorem supervisor_sameBut (x : SupervisorState) (s : State) : SameBut [.supervisor] s ({ s with supervisor := x }) := by
  constructor; intro p hp; cases p <;> simp_all [Part.same]

theorem supervisor_iff {ps : List Part} {s₀ : State} (x : SupervisorState) (s : State)
    (hq : ∀ q ∈ ([.supervisor] : List Part), q ∈ ps) :
    SameBut ps s₀ ({ s with supervisor := x }) ↔ SameBut ps s₀ s :=
  (supervisor_sameBut x s).iff hq

theorem switching_sameBut (x : SwitchingState) (s : State) : SameBut [.switching] s ({ s with switching := x }) := by
  constructor; intro p hp; cases p <;> simp_all [Part.same]

theorem switching_iff {ps : List Part} {s₀ : State} (x : SwitchingState) (s : State)
    (hq : ∀ q ∈ ([.switching] : List Part), q ∈ ps) :
    SameBut ps s₀ ({ s with switching := x }) ↔ SameBut ps s₀ s :=
  (switching_sameBut x s).iff hq

theorem commands_sameBut (x : Vector UnitLive 9) (s : State) : SameBut [.commands] s ({ s with commands := x }) := by
  constructor; intro p hp; cases p <;> simp_all [Part.same]

theorem commands_iff {ps : List Part} {s₀ : State} (x : Vector UnitLive 9) (s : State)
    (hq : ∀ q ∈ ([.commands] : List Part), q ∈ ps) :
    SameBut ps s₀ ({ s with commands := x }) ↔ SameBut ps s₀ s :=
  (commands_sameBut x s).iff hq

theorem agent_sameBut (x : AgentState) (s : State) : SameBut [.agent] s ({ s with agent := x }) := by
  constructor; intro p hp; cases p <;> simp_all [Part.same]

theorem agent_iff {ps : List Part} {s₀ : State} (x : AgentState) (s : State)
    (hq : ∀ q ∈ ([.agent] : List Part), q ∈ ps) :
    SameBut ps s₀ ({ s with agent := x }) ↔ SameBut ps s₀ s :=
  (agent_sameBut x s).iff hq

theorem memory_sameBut (x : MemoryState) (s : State) : SameBut [.memory] s ({ s with memory := x }) := by
  constructor; intro p hp; cases p <;> simp_all [Part.same]

theorem memory_iff {ps : List Part} {s₀ : State} (x : MemoryState) (s : State)
    (hq : ∀ q ∈ ([.memory] : List Part), q ∈ ps) :
    SameBut ps s₀ ({ s with memory := x }) ↔ SameBut ps s₀ s :=
  (memory_sameBut x s).iff hq

theorem keylock_sameBut (x : Bool) (s : State) : SameBut [.keylock] s ({ s with keylock := x }) := by
  constructor; intro p hp; cases p <;> simp_all [Part.same]

theorem keylock_iff {ps : List Part} {s₀ : State} (x : Bool) (s : State)
    (hq : ∀ q ∈ ([.keylock] : List Part), q ∈ ps) :
    SameBut ps s₀ ({ s with keylock := x }) ↔ SameBut ps s₀ s :=
  (keylock_sameBut x s).iff hq

theorem reports_sameBut (a : Nat) (b : Bool) (c : Nat) (s : State) :
    SameBut [.reports] s ({ s with events := { s.events with reportTimer := a, changePending := b, changeHold := c } }) := by
  constructor; intro p hp; cases p <;> simp_all [Part.same]

theorem reports_iff {ps : List Part} {s₀ : State} (a : Nat) (b : Bool) (c : Nat) (s : State)
    (hq : ∀ q ∈ ([.reports] : List Part), q ∈ ps) :
    SameBut ps s₀ ({ s with events := { s.events with reportTimer := a, changePending := b, changeHold := c } }) ↔ SameBut ps s₀ s :=
  (reports_sameBut a b c s).iff hq

theorem logEvent_iff {ps : List Part} {s₀ : State} (kind : EventKind) (subject : Subject) (value : Option Nat)
    (s : State)
    (hq : ∀ q ∈ ([.eventList] : List Part), q ∈ ps) :
    SameBut ps s₀ (logEvent kind subject value s) ↔ SameBut ps s₀ s :=
  (logEvent_sameBut kind subject value s).iff hq

theorem hand_iff {ps : List Part} {s₀ : State} (m : Instr) (s : State)
    (hq : ∀ q ∈ ([.mail] : List Part), q ∈ ps) :
    SameBut ps s₀ (hand m s) ↔ SameBut ps s₀ s :=
  (hand_sameBut m s).iff hq

theorem setPort_iff {ps : List Part} {s₀ : State} (p : Port) (x : PortState) (s : State)
    (hq : ∀ q ∈ ([.ports] : List Part), q ∈ ps) :
    SameBut ps s₀ (State.setPort p x s) ↔ SameBut ps s₀ s :=
  (setPort_sameBut p x s).iff hq

theorem restartDue_iff {ps : List Part} {s₀ : State} (lost : Option OriginFrame) (s : State)
    (hq : ∀ q ∈ ([.mail] : List Part), q ∈ ps) :
    SameBut ps s₀ (restartDue lost s) ↔ SameBut ps s₀ s :=
  (restartDue_sameBut lost s).iff hq

theorem enterOrigin_iff {ps : List Part} {s₀ : State} (f : OriginFrame) (p : Port) (s : State)
    (hq : ∀ q ∈ ([.ports, .mail] : List Part), q ∈ ps) :
    SameBut ps s₀ (enterOrigin f p s) ↔ SameBut ps s₀ s :=
  (enterOrigin_sameBut f p s).iff hq

theorem enterOrigins_iff {ps : List Part} {s₀ : State} (f : OriginFrame) (p : Option Port) (s : State)
   
    (hq : ∀ q ∈ ([.ports, .mail] : List Part), q ∈ ps) :
    SameBut ps s₀ (enterOrigins f p s) ↔ SameBut ps s₀ s :=
  (enterOrigins_sameBut f p s).iff hq

theorem sendReport_iff {ps : List Part} {s₀ : State} (periodic change : Bool) (s : State)
    (hq : ∀ q ∈ ([.ports, .mail] : List Part), q ∈ ps) :
    SameBut ps s₀ (sendReport periodic change s) ↔ SameBut ps s₀ s :=
  (sendReport_sameBut periodic change s).iff hq

theorem sendChange_iff {ps : List Part} {s₀ : State} (s : State)
    (hq : ∀ q ∈ ([.ports, .mail, .reports] : List Part), q ∈ ps) :
    SameBut ps s₀ (sendChange s) ↔ SameBut ps s₀ s :=
  (sendChange_sameBut s).iff hq

theorem noteChange_iff {ps : List Part} {s₀ : State} (before s : State)
    (hq : ∀ q ∈ ([.ports, .mail, .reports, .memory, .eventList] : List Part), q ∈ ps) :
    SameBut ps s₀ (noteChange before s) ↔ SameBut ps s₀ s :=
  (noteChange_sameBut before s).iff hq

theorem withdrawFrames_sameBut (u : Fin 9) (p : Port) (s : State) : SameBut [.ports] s (withdrawFrames u p s) := by
  unfold withdrawFrames
  try dsimp only
  repeat' first
    | simp (disch := decide) only [SameBut.refl_iff, setPort_iff, implies_true, and_self]
    | split

theorem withdrawFrames_iff {ps : List Part} {s₀ : State} (u : Fin 9) (p : Port) (s : State)
    (hq : ∀ q ∈ ([.ports] : List Part), q ∈ ps) :
    SameBut ps s₀ (withdrawFrames u p s) ↔ SameBut ps s₀ s :=
  (withdrawFrames_sameBut u p s).iff hq

theorem withdrawAll_sameBut (u : Fin 9) (s : State) : SameBut [.ports] s (withdrawAll u s) := by
  unfold withdrawAll
  try dsimp only
  repeat' first
    | simp (disch := decide) only [SameBut.refl_iff, withdrawFrames_iff, implies_true, and_self]
    | split

theorem withdrawAll_iff {ps : List Part} {s₀ : State} (u : Fin 9) (s : State)
    (hq : ∀ q ∈ ([.ports] : List Part), q ∈ ps) :
    SameBut ps s₀ (withdrawAll u s) ↔ SameBut ps s₀ s :=
  (withdrawAll_sameBut u s).iff hq

theorem offerSample_sameBut (m : Fin 38) (x : CapSample) (s : State) (i : Fin 2) :
    SameBut [.mail, .capture] s (offerSample m x s i) := by
  unfold offerSample
  try dsimp only
  repeat' first
    | simp (disch := decide) only [SameBut.refl_iff, SameBut.ite_iff, State.updBuffer_iff, hand_iff, implies_true, and_self]
    | split

theorem offerSample_iff {ps : List Part} {s₀ : State} (m : Fin 38) (x : CapSample) (s : State) (i : Fin 2)
   
    (hq : ∀ q ∈ ([.mail, .capture] : List Part), q ∈ ps) :
    SameBut ps s₀ (offerSample m x s i) ↔ SameBut ps s₀ s :=
  (offerSample_sameBut m x s i).iff hq

theorem handSample_sameBut (m : Fin 38) (value : Int) (counter : Nat) (filled : Bool) (s : State) :
    SameBut [.mail, .capture] s (handSample m value counter filled s) := by
  unfold handSample
  try dsimp only
  repeat' first
    | simp (disch := decide) only [SameBut.refl_iff, offerSample_iff, implies_true, and_self]
    | with_reducible refine .foldl_of ?_ fun s a => ?_
    | with_reducible refine And.intro ?_ ?_
    | intro _
    | split

theorem handSample_iff {ps : List Part} {s₀ : State} (m : Fin 38) (value : Int) (counter : Nat)
    (filled : Bool) (s : State)
    (hq : ∀ q ∈ ([.mail, .capture] : List Part), q ∈ ps) :
    SameBut ps s₀ (handSample m value counter filled s) ↔ SameBut ps s₀ s :=
  (handSample_sameBut m value counter filled s).iff hq

theorem takeTrigger_sameBut (kind : TriggerKind) (step : Option (Fin 8)) (s : State) :
    SameBut [.eventList, .capture] s (takeTrigger kind step s) := by
  unfold takeTrigger
  try dsimp only
  repeat' first
    | simp (disch := decide) only [SameBut.refl_iff, State.updBuffer_iff, logEvent_iff, implies_true, and_self]
    | split

theorem takeTrigger_iff {ps : List Part} {s₀ : State} (kind : TriggerKind) (step : Option (Fin 8)) (s : State)
   
    (hq : ∀ q ∈ ([.eventList, .capture] : List Part), q ∈ ps) :
    SameBut ps s₀ (takeTrigger kind step s) ↔ SameBut ps s₀ s :=
  (takeTrigger_sameBut kind step s).iff hq

theorem completeCapture_sameBut (i : Fin 2) (s : State) : SameBut [.eventList, .capture] s (completeCapture i s) := by
  unfold completeCapture
  try dsimp only
  repeat' first
    | simp (disch := decide) only [SameBut.refl_iff, SameBut.ite_iff, State.updBuffer_iff, logEvent_iff, implies_true, and_self]
    | split

theorem completeCapture_iff {ps : List Part} {s₀ : State} (i : Fin 2) (s : State)
    (hq : ∀ q ∈ ([.eventList, .capture] : List Part), q ∈ ps) :
    SameBut ps s₀ (completeCapture i s) ↔ SameBut ps s₀ s :=
  (completeCapture_sameBut i s).iff hq

theorem freeCapture_sameBut (i : Fin 2) (s : State) : SameBut [.capture] s (freeCapture i s) := by
  unfold freeCapture
  try dsimp only
  repeat' first
    | simp (disch := decide) only [SameBut.refl_iff, SameBut.ite_iff, State.updBuffer_iff, implies_true, and_self]
    | split

theorem freeCapture_iff {ps : List Part} {s₀ : State} (i : Fin 2) (s : State)
    (hq : ∀ q ∈ ([.capture] : List Part), q ∈ ps) :
    SameBut ps s₀ (freeCapture i s) ↔ SameBut ps s₀ s :=
  (freeCapture_sameBut i s).iff hq

theorem armAtStartUp_sameBut (s : State) : SameBut [.capture] s (armAtStartUp s) := by
  unfold armAtStartUp
  try dsimp only
  repeat' first
    | simp (disch := decide) only [SameBut.refl_iff, State.updBuffer_iff, implies_true, and_self]
    | split

theorem armAtStartUp_iff {ps : List Part} {s₀ : State} (s : State)
    (hq : ∀ q ∈ ([.capture] : List Part), q ∈ ps) :
    SameBut ps s₀ (armAtStartUp s) ↔ SameBut ps s₀ s :=
  (armAtStartUp_sameBut s).iff hq

theorem abandonNull_sameBut (i : Fin 8) (s : State) : SameBut [.unbalance, .eventList] s (abandonNull i s) := by
  unfold abandonNull
  try dsimp only
  repeat' first
    | simp (disch := decide) only [SameBut.refl_iff, SameBut.ite_iff, logEvent_iff, unbalance_iff, implies_true, and_self]
    | split

theorem abandonNull_iff {ps : List Part} {s₀ : State} (i : Fin 8) (s : State)
    (hq : ∀ q ∈ ([.unbalance, .eventList] : List Part), q ∈ ps) :
    SameBut ps s₀ (abandonNull i s) ↔ SameBut ps s₀ s :=
  (abandonNull_sameBut i s).iff hq

theorem judgeInputInvalid_sameBut (i : Fin 8) (q : Quality) (s : State) :
    SameBut [.unbalance, .eventList] s (judgeInputInvalid i q s) := by
  unfold judgeInputInvalid
  try dsimp only
  repeat' first
    | simp (disch := decide) only [SameBut.refl_iff, SameBut.ite_iff, State.updUnbalance_iff, logEvent_iff, implies_true, and_self]
    | split

theorem judgeInputInvalid_iff {ps : List Part} {s₀ : State} (i : Fin 8) (q : Quality) (s : State)
    (hq : ∀ q ∈ ([.unbalance, .eventList] : List Part), q ∈ ps) :
    SameBut ps s₀ (judgeInputInvalid i q s) ↔ SameBut ps s₀ s :=
  (judgeInputInvalid_sameBut i q s).iff hq

theorem alarmStage_sameBut (i : Fin 8) (row : StepRow) (q : Quality) (u : Nat) (s : State) :
    SameBut [.unbalance, .eventList] s (alarmStage i row q u s) := by
  unfold alarmStage
  try dsimp only
  repeat' first
    | simp (disch := decide) only [SameBut.refl_iff, SameBut.ite_iff, State.updUnbalance_iff, logEvent_iff, implies_true, and_self]
    | split

theorem alarmStage_iff {ps : List Part} {s₀ : State} (i : Fin 8) (row : StepRow) (q : Quality) (u : Nat)
    (s : State)
    (hq : ∀ q ∈ ([.unbalance, .eventList] : List Part), q ∈ ps) :
    SameBut ps s₀ (alarmStage i row q u s) ↔ SameBut ps s₀ s :=
  (alarmStage_sameBut i row q u s).iff hq

theorem unbalanceTrip_sameBut (i : Fin 8) (u : Nat) (s : State) :
    SameBut [.mail, .unbalance, .eventList] s (unbalanceTrip i u s) := by
  unfold unbalanceTrip
  try dsimp only
  repeat' first
    | simp (disch := decide) only [SameBut.refl_iff, State.updUnbalance_iff, logEvent_iff, hand_iff, abandonNull_iff, implies_true, and_self]
    | split

theorem unbalanceTrip_iff {ps : List Part} {s₀ : State} (i : Fin 8) (u : Nat) (s : State)
    (hq : ∀ q ∈ ([.mail, .unbalance, .eventList] : List Part), q ∈ ps) :
    SameBut ps s₀ (unbalanceTrip i u s) ↔ SameBut ps s₀ s :=
  (unbalanceTrip_sameBut i u s).iff hq

theorem tripStage_sameBut (i : Fin 8) (row : StepRow) (q : Quality) (u : Nat) (s : State) :
    SameBut [.mail, .unbalance, .eventList] s (tripStage i row q u s) := by
  unfold tripStage
  try dsimp only
  repeat' first
    | simp (disch := decide) only [SameBut.refl_iff, SameBut.ite_iff, State.updUnbalance_iff, unbalanceTrip_iff, implies_true, and_self]
    | split

theorem tripStage_iff {ps : List Part} {s₀ : State} (i : Fin 8) (row : StepRow) (q : Quality) (u : Nat)
    (s : State)
    (hq : ∀ q ∈ ([.mail, .unbalance, .eventList] : List Part), q ∈ ps) :
    SameBut ps s₀ (tripStage i row q u s) ↔ SameBut ps s₀ s :=
  (tripStage_sameBut i row q u s).iff hq

theorem completeNull_sameBut (c : NullContext) (s : State) :
    SameBut [.unbalance, .memory, .eventList] s (completeNull c s) := by
  unfold completeNull
  try dsimp only
  repeat' first
    | simp (disch := decide) only [SameBut.refl_iff, SameBut.ite_iff, logEvent_iff, State.putTables_iff, unbalance_iff, implies_true,
     and_self]
    | split

theorem completeNull_iff {ps : List Part} {s₀ : State} (c : NullContext) (s : State)
    (hq : ∀ q ∈ ([.unbalance, .memory, .eventList] : List Part), q ∈ ps) :
    SameBut ps s₀ (completeNull c s) ↔ SameBut ps s₀ s :=
  (completeNull_sameBut c s).iff hq

theorem offerNull_sameBut (i : Fin 8) (record : ResultRecord) (s : State) :
    SameBut [.unbalance, .memory, .eventList] s (offerNull i record s) := by
  unfold offerNull
  try dsimp only
  repeat' first
    | simp (disch := decide) only [SameBut.refl_iff, SameBut.ite_iff, abandonNull_iff, completeNull_iff, unbalance_iff, implies_true,
     and_self]
    | split

theorem offerNull_iff {ps : List Part} {s₀ : State} (i : Fin 8) (record : ResultRecord) (s : State)
   
    (hq : ∀ q ∈ ([.unbalance, .memory, .eventList] : List Part), q ∈ ps) :
    SameBut ps s₀ (offerNull i record s) ↔ SameBut ps s₀ s :=
  (offerNull_sameBut i record s).iff hq

theorem formLastU_sameBut (i : Fin 8) (record : ResultRecord) (u : Nat) (s : State) :
    SameBut [.unbalance] s (formLastU i record u s) := by
  unfold formLastU
  try dsimp only
  repeat' first
    | simp (disch := decide) only [SameBut.refl_iff, SameBut.ite_iff, State.updUnbalance_iff, implies_true, and_self]
    | split

theorem formLastU_iff {ps : List Part} {s₀ : State} (i : Fin 8) (record : ResultRecord) (u : Nat) (s : State)
   
    (hq : ∀ q ∈ ([.unbalance] : List Part), q ∈ ps) :
    SameBut ps s₀ (formLastU i record u s) ↔ SameBut ps s₀ s :=
  (formLastU_sameBut i record u s).iff hq

theorem unbalanceEvaluate_sameBut (i : Fin 8) (s : State) :
    SameBut [.mail, .unbalance, .memory, .eventList] s (unbalanceEvaluate i s) := by
  unfold unbalanceEvaluate
  try dsimp only
  repeat' first
    | simp (disch := decide) only [SameBut.refl_iff, SameBut.ite_iff, judgeInputInvalid_iff, formLastU_iff, alarmStage_iff, tripStage_iff,
     offerNull_iff, implies_true, and_self]
    | split

theorem unbalanceEvaluate_iff {ps : List Part} {s₀ : State} (i : Fin 8) (s : State)
    (hq : ∀ q ∈ ([.mail, .unbalance, .memory, .eventList] : List Part), q ∈ ps) :
    SameBut ps s₀ (unbalanceEvaluate i s) ↔ SameBut ps s₀ s :=
  (unbalanceEvaluate_sameBut i s).iff hq

theorem unbalanceLeave_sameBut (i : Fin 8) (s : State) : SameBut [.unbalance, .eventList] s (unbalanceLeave i s) := by
  unfold unbalanceLeave
  try dsimp only
  repeat' first
    | simp (disch := decide) only [SameBut.refl_iff, SameBut.ite_iff, State.updUnbalance_iff, logEvent_iff, abandonNull_iff, implies_true,
     and_self]
    | split

theorem unbalanceLeave_iff {ps : List Part} {s₀ : State} (i : Fin 8) (s : State)
    (hq : ∀ q ∈ ([.unbalance, .eventList] : List Part), q ∈ ps) :
    SameBut ps s₀ (unbalanceLeave i s) ↔ SameBut ps s₀ s :=
  (unbalanceLeave_sameBut i s).iff hq

theorem unbalanceEnter_sameBut (i : Fin 8) (s : State) : SameBut [.unbalance, .eventList] s (unbalanceEnter i s) := by
  unfold unbalanceEnter
  try dsimp only
  repeat' first
    | simp (disch := decide) only [SameBut.refl_iff, SameBut.ite_iff, State.updUnbalance_iff, logEvent_iff, implies_true, and_self]
    | split

theorem unbalanceEnter_iff {ps : List Part} {s₀ : State} (i : Fin 8) (s : State)
    (hq : ∀ q ∈ ([.unbalance, .eventList] : List Part), q ∈ ps) :
    SameBut ps s₀ (unbalanceEnter i s) ↔ SameBut ps s₀ s :=
  (unbalanceEnter_sameBut i s).iff hq

theorem judgeHeatAlarm_sameBut (i : Fin 8) (row : StepRow) (s : State) :
    SameBut [.duty, .eventList] s (judgeHeatAlarm i row s) := by
  unfold judgeHeatAlarm
  try dsimp only
  repeat' first
    | simp (disch := decide) only [SameBut.refl_iff, SameBut.ite_iff, logEvent_iff, State.updDuty_iff, implies_true, and_self]
    | split

theorem judgeHeatAlarm_iff {ps : List Part} {s₀ : State} (i : Fin 8) (row : StepRow) (s : State)
    (hq : ∀ q ∈ ([.duty, .eventList] : List Part), q ∈ ps) :
    SameBut ps s₀ (judgeHeatAlarm i row s) ↔ SameBut ps s₀ s :=
  (judgeHeatAlarm_sameBut i row s).iff hq

theorem judgeHeatTrip_sameBut (i : Fin 8) (row : StepRow) (s : State) :
    SameBut [.mail, .unbalance, .duty, .eventList] s (judgeHeatTrip i row s) := by
  unfold judgeHeatTrip
  try dsimp only
  repeat' first
    | simp (disch := decide) only [SameBut.refl_iff, SameBut.ite_iff, State.updDuty_iff, logEvent_iff, hand_iff, abandonNull_iff,
     implies_true, and_self]
    | split

theorem judgeHeatTrip_iff {ps : List Part} {s₀ : State} (i : Fin 8) (row : StepRow) (s : State)
    (hq : ∀ q ∈ ([.mail, .unbalance, .duty, .eventList] : List Part), q ∈ ps) :
    SameBut ps s₀ (judgeHeatTrip i row s) ↔ SameBut ps s₀ s :=
  (judgeHeatTrip_sameBut i row s).iff hq

theorem heatUpdate_sameBut (i : Fin 8) (s : State) : SameBut [.mail, .unbalance, .duty, .eventList] s (heatUpdate i s) := by
  unfold heatUpdate
  try dsimp only
  repeat' first
    | simp (disch := decide) only [SameBut.refl_iff, SameBut.ite_iff, State.updDuty_iff, judgeHeatTrip_iff, judgeHeatAlarm_iff, implies_true,
     and_self]
    | split

theorem heatUpdate_iff {ps : List Part} {s₀ : State} (i : Fin 8) (s : State)
    (hq : ∀ q ∈ ([.mail, .unbalance, .duty, .eventList] : List Part), q ∈ ps) :
    SameBut ps s₀ (heatUpdate i s) ↔ SameBut ps s₀ s :=
  (heatUpdate_sameBut i s).iff hq

theorem cooldownUpdate_sameBut (i : Fin 8) (s : State) : SameBut [.duty, .eventList] s (cooldownUpdate i s) := by
  unfold cooldownUpdate
  try dsimp only
  repeat' first
    | simp (disch := decide) only [SameBut.refl_iff, SameBut.ite_iff, judgeHeatAlarm_iff, State.updDuty_iff, implies_true, and_self]
    | split

theorem cooldownUpdate_iff {ps : List Part} {s₀ : State} (i : Fin 8) (s : State)
    (hq : ∀ q ∈ ([.duty, .eventList] : List Part), q ∈ ps) :
    SameBut ps s₀ (cooldownUpdate i s) ↔ SameBut ps s₀ s :=
  (cooldownUpdate_sameBut i s).iff hq

theorem loadDischarge_sameBut (i : Fin 8) (s : State) : SameBut [.duty] s (loadDischarge i s) := by
  unfold loadDischarge
  try dsimp only
  repeat' first
    | simp (disch := decide) only [SameBut.refl_iff, SameBut.ite_iff, State.updDuty_iff, implies_true, and_self]
    | split

theorem loadDischarge_iff {ps : List Part} {s₀ : State} (i : Fin 8) (s : State)
    (hq : ∀ q ∈ ([.duty] : List Part), q ∈ ps) :
    SameBut ps s₀ (loadDischarge i s) ↔ SameBut ps s₀ s :=
  (loadDischarge_sameBut i s).iff hq

theorem reformDutyBar_sameBut (i : Fin 8) (s : State) : SameBut [.duty, .eventList] s (reformDutyBar i s) := by
  unfold reformDutyBar
  try dsimp only
  repeat' first
    | simp (disch := decide) only [SameBut.refl_iff, SameBut.ite_iff, logEvent_iff, State.updDuty_iff, implies_true, and_self]
    | split

theorem reformDutyBar_iff {ps : List Part} {s₀ : State} (i : Fin 8) (s : State)
    (hq : ∀ q ∈ ([.duty, .eventList] : List Part), q ∈ ps) :
    SameBut ps s₀ (reformDutyBar i s) ↔ SameBut ps s₀ s :=
  (reformDutyBar_sameBut i s).iff hq

theorem operationReport_sameBut (i : Fin 8) (s : State) : SameBut [.duty, .eventList] s (operationReport i s) := by
  unfold operationReport
  try dsimp only
  repeat' first
    | simp (disch := decide) only [SameBut.refl_iff, SameBut.ite_iff, State.updDuty_iff, reformDutyBar_iff, implies_true, and_self]
    | split

theorem operationReport_iff {ps : List Part} {s₀ : State} (i : Fin 8) (s : State)
    (hq : ∀ q ∈ ([.duty, .eventList] : List Part), q ∈ ps) :
    SameBut ps s₀ (operationReport i s) ↔ SameBut ps s₀ s :=
  (operationReport_sameBut i s).iff hq

theorem decayExpiry_sameBut (i : Fin 8) (s : State) : SameBut [.duty, .eventList] s (decayExpiry i s) := by
  unfold decayExpiry
  try dsimp only
  repeat' first
    | simp (disch := decide) only [SameBut.refl_iff, SameBut.ite_iff, State.updDuty_iff, reformDutyBar_iff, implies_true, and_self]
    | split

theorem decayExpiry_iff {ps : List Part} {s₀ : State} (i : Fin 8) (s : State)
    (hq : ∀ q ∈ ([.duty, .eventList] : List Part), q ∈ ps) :
    SameBut ps s₀ (decayExpiry i s) ↔ SameBut ps s₀ s :=
  (decayExpiry_sameBut i s).iff hq

theorem logAlarms_sameBut (i : Fin 8) (x y : StepLive) (s : State) : SameBut [.eventList] s (logAlarms i x y s) := by
  unfold logAlarms
  try dsimp only
  repeat' first
    | simp (disch := decide) only [SameBut.refl_iff, SameBut.ite_iff, logEvent_iff, implies_true, and_self]
    | split

theorem logAlarms_iff {ps : List Part} {s₀ : State} (i : Fin 8) (x y : StepLive) (s : State)
    (hq : ∀ q ∈ ([.eventList] : List Part), q ∈ ps) :
    SameBut ps s₀ (logAlarms i x y s) ↔ SameBut ps s₀ s :=
  (logAlarms_sameBut i x y s).iff hq

theorem handReports_sameBut (r : StepReport) (s : State) : SameBut [.mail] s (handReports r s) := by
  unfold handReports
  try dsimp only
  repeat' first
    | simp (disch := decide) only [SameBut.refl_iff, hand_iff, implies_true, and_self]
    | split

theorem handReports_iff {ps : List Part} {s₀ : State} (r : StepReport) (s : State)
    (hq : ∀ q ∈ ([.mail] : List Part), q ∈ ps) :
    SameBut ps s₀ (handReports r s) ↔ SameBut ps s₀ s :=
  (handReports_sameBut r s).iff hq

theorem changeStep_sameBut (i : Fin 8) (new : StepState) (cause : StateCause) (op : Option Operation)
    (lock : Option LockoutCause) (s : State) :
    SameBut [.mail, .supervisor, .eventList] s (changeStep i new cause op lock s) := by
  unfold changeStep
  try dsimp only
  repeat' first
    | simp (disch := decide) only [SameBut.refl_iff, logEvent_iff, logAlarms_iff, handReports_iff, supervisor_iff, implies_true, and_self]
    | split

theorem changeStep_iff {ps : List Part} {s₀ : State} (i : Fin 8) (new : StepState) (cause : StateCause)
    (op : Option Operation) (lock : Option LockoutCause) (s : State)
    (hq : ∀ q ∈ ([.mail, .supervisor, .eventList] : List Part), q ∈ ps) :
    SameBut ps s₀ (changeStep i new cause op lock s) ↔ SameBut ps s₀ s :=
  (changeStep_sameBut i new cause op lock s).iff hq

theorem moveStep_sameBut (i : Fin 8) (new : StepState) (cause : StateCause) (s : State) :
    SameBut [.mail, .supervisor, .eventList] s (moveStep i new cause s) := by
  unfold moveStep
  try dsimp only
  repeat' first
    | simp (disch := decide) only [SameBut.refl_iff, changeStep_iff, implies_true, and_self]
    | split

theorem moveStep_iff {ps : List Part} {s₀ : State} (i : Fin 8) (new : StepState) (cause : StateCause)
    (s : State)
    (hq : ∀ q ∈ ([.mail, .supervisor, .eventList] : List Part), q ∈ ps) :
    SameBut ps s₀ (moveStep i new cause s) ↔ SameBut ps s₀ s :=
  (moveStep_sameBut i new cause s).iff hq

theorem restStep_sameBut (i : Fin 8) (cause : StateCause) (s : State) :
    SameBut [.mail, .supervisor, .eventList] s (restStep i cause s) := by
  unfold restStep
  try dsimp only
  repeat' first
    | simp (disch := decide) only [SameBut.refl_iff, moveStep_iff, implies_true, and_self]
    | split

theorem restStep_iff {ps : List Part} {s₀ : State} (i : Fin 8) (cause : StateCause) (s : State)
    (hq : ∀ q ∈ ([.mail, .supervisor, .eventList] : List Part), q ∈ ps) :
    SameBut ps s₀ (restStep i cause s) ↔ SameBut ps s₀ s :=
  (restStep_sameBut i cause s).iff hq

theorem lockStep_sameBut (i : Fin 8) (lock : LockoutCause) (s : State) :
    SameBut [.mail, .supervisor, .eventList] s (lockStep i lock s) := by
  unfold lockStep
  try dsimp only
  repeat' first
    | simp (disch := decide) only [SameBut.refl_iff, changeStep_iff, implies_true, and_self]
    | split

theorem lockStep_iff {ps : List Part} {s₀ : State} (i : Fin 8) (lock : LockoutCause) (s : State)
    (hq : ∀ q ∈ ([.mail, .supervisor, .eventList] : List Part), q ∈ ps) :
    SameBut ps s₀ (lockStep i lock s) ↔ SameBut ps s₀ s :=
  (lockStep_sameBut i lock s).iff hq

theorem operateStep_sameBut (i : Fin 8) (new : StepState) (op : Operation) (s : State) :
    SameBut [.mail, .supervisor, .eventList] s (operateStep i new op s) := by
  unfold operateStep
  try dsimp only
  repeat' first
    | simp (disch := decide) only [SameBut.refl_iff, changeStep_iff, implies_true, and_self]
    | split

theorem operateStep_iff {ps : List Part} {s₀ : State} (i : Fin 8) (new : StepState) (op : Operation)
    (s : State)
    (hq : ∀ q ∈ ([.mail, .supervisor, .eventList] : List Part), q ∈ ps) :
    SameBut ps s₀ (operateStep i new op s) ↔ SameBut ps s₀ s :=
  (operateStep_sameBut i new op s).iff hq

theorem handLoading_sameBut (i : Fin 8) (s : State) :
    SameBut [.mail, .duty, .supervisor, .eventList] s (handLoading i s) := by
  unfold handLoading
  try dsimp only
  repeat' first
    | simp (disch := decide) only [SameBut.refl_iff, SameBut.ite_iff, loadDischarge_iff, moveStep_iff, implies_true, and_self]
    | split

theorem handLoading_iff {ps : List Part} {s₀ : State} (i : Fin 8) (s : State)
    (hq : ∀ q ∈ ([.mail, .duty, .supervisor, .eventList] : List Part), q ∈ ps) :
    SameBut ps s₀ (handLoading i s) ↔ SameBut ps s₀ s :=
  (handLoading_sameBut i s).iff hq

theorem setPending_sameBut (i : Fin 8) (c : LockoutCause) (s : State) : SameBut [.supervisor] s (setPending i c s) := by
  unfold setPending
  try dsimp only
  repeat' first
    | simp (disch := decide) only [SameBut.refl_iff, State.updStep_iff, implies_true, and_self]
    | split

theorem setPending_iff {ps : List Part} {s₀ : State} (i : Fin 8) (c : LockoutCause) (s : State)
    (hq : ∀ q ∈ ([.supervisor] : List Part), q ∈ ps) :
    SameBut ps s₀ (setPending i c s) ↔ SameBut ps s₀ s :=
  (setPending_sameBut i c s).iff hq

theorem dutyReports_sameBut (i : Fin 8) (pos : Position) (settled : Option Position) (s : State) :
    SameBut [.mail, .duty, .supervisor, .eventList] s (dutyReports i pos settled s) := by
  unfold dutyReports
  try dsimp only
  repeat' first
    | simp (disch := decide) only [SameBut.refl_iff, SameBut.ite_iff, operationReport_iff, handLoading_iff, implies_true, and_self]
    | split

theorem dutyReports_iff {ps : List Part} {s₀ : State} (i : Fin 8) (pos : Position) (settled : Option Position)
    (s : State)
    (hq : ∀ q ∈ ([.mail, .duty, .supervisor, .eventList] : List Part), q ∈ ps) :
    SameBut ps s₀ (dutyReports i pos settled s) ↔ SameBut ps s₀ s :=
  (dutyReports_sameBut i pos settled s).iff hq

theorem resolveStep_sameBut (i : Fin 8) (pos : Position) (s : State) :
    SameBut [.mail, .duty, .supervisor, .eventList] s (resolveStep i pos s) := by
  unfold resolveStep
  try dsimp only
  repeat' first
    | simp (disch := decide) only [SameBut.refl_iff, State.updStep_iff, restStep_iff, handLoading_iff, moveStep_iff, implies_true, and_self]
    | split

theorem resolveStep_iff {ps : List Part} {s₀ : State} (i : Fin 8) (pos : Position) (s : State)
    (hq : ∀ q ∈ ([.mail, .duty, .supervisor, .eventList] : List Part), q ∈ ps) :
    SameBut ps s₀ (resolveStep i pos s) ↔ SameBut ps s₀ s :=
  (resolveStep_sameBut i pos s).iff hq

theorem uncommandedOpen_sameBut (i : Fin 8) (s : State) :
    SameBut [.mail, .supervisor, .eventList] s (uncommandedOpen i s) := by
  unfold uncommandedOpen
  try dsimp only
  repeat' first
    | simp (disch := decide) only [SameBut.refl_iff, lockStep_iff, restStep_iff, implies_true, and_self]
    | split

theorem uncommandedOpen_iff {ps : List Part} {s₀ : State} (i : Fin 8) (s : State)
    (hq : ∀ q ∈ ([.mail, .supervisor, .eventList] : List Part), q ∈ ps) :
    SameBut ps s₀ (uncommandedOpen i s) ↔ SameBut ps s₀ s :=
  (uncommandedOpen_sameBut i s).iff hq

theorem uncommandedClose_sameBut (i : Fin 8) (s : State) :
    SameBut [.mail, .supervisor, .eventList] s (uncommandedClose i s) := by
  unfold uncommandedClose
  try dsimp only
  repeat' first
    | simp (disch := decide) only [SameBut.refl_iff, SameBut.ite_iff, moveStep_iff, logEvent_iff, implies_true, and_self]
    | split

theorem uncommandedClose_iff {ps : List Part} {s₀ : State} (i : Fin 8) (s : State)
    (hq : ∀ q ∈ ([.mail, .supervisor, .eventList] : List Part), q ∈ ps) :
    SameBut ps s₀ (uncommandedClose i s) ↔ SameBut ps s₀ s :=
  (uncommandedClose_sameBut i s).iff hq

theorem outOfServiceReport_sameBut (i : Fin 8) (pos : Position) (s : State) :
    SameBut [.supervisor, .eventList] s (outOfServiceReport i pos s) := by
  unfold outOfServiceReport
  try dsimp only
  repeat' first
    | simp (disch := decide) only [SameBut.refl_iff, SameBut.ite_iff, State.updStep_iff, logEvent_iff, implies_true, and_self]
    | split

theorem outOfServiceReport_iff {ps : List Part} {s₀ : State} (i : Fin 8) (pos : Position) (s : State)
   
    (hq : ∀ q ∈ ([.supervisor, .eventList] : List Part), q ∈ ps) :
    SameBut ps s₀ (outOfServiceReport i pos s) ↔ SameBut ps s₀ s :=
  (outOfServiceReport_sameBut i pos s).iff hq

theorem positionByState_sameBut (i : Fin 8) (pos : Position) (s : State) :
    SameBut [.mail, .supervisor, .eventList] s (positionByState i pos s) := by
  unfold positionByState
  try dsimp only
  repeat' first
    | simp (disch := decide) only [SameBut.refl_iff, uncommandedOpen_iff, uncommandedClose_iff, lockStep_iff, outOfServiceReport_iff,
     implies_true, and_self]
    | split

theorem positionByState_iff {ps : List Part} {s₀ : State} (i : Fin 8) (pos : Position) (s : State)
    (hq : ∀ q ∈ ([.mail, .supervisor, .eventList] : List Part), q ∈ ps) :
    SameBut ps s₀ (positionByState i pos s) ↔ SameBut ps s₀ s :=
  (positionByState_sameBut i pos s).iff hq

theorem takePosition_sameBut (i : Fin 8) (pos : Position) (s : State) :
    SameBut [.mail, .duty, .supervisor, .eventList] s (takePosition i pos s) := by
  unfold takePosition
  try dsimp only
  repeat' first
    | simp (disch := decide) only [SameBut.refl_iff, SameBut.ite_iff, State.updStep_iff, logEvent_iff, dutyReports_iff, resolveStep_iff,
     positionByState_iff, implies_true, and_self]
    | split

theorem takePosition_iff {ps : List Part} {s₀ : State} (i : Fin 8) (pos : Position) (s : State)
    (hq : ∀ q ∈ ([.mail, .duty, .supervisor, .eventList] : List Part), q ∈ ps) :
    SameBut ps s₀ (takePosition i pos s) ↔ SameBut ps s₀ s :=
  (takePosition_sameBut i pos s).iff hq

theorem takeSupervision_sameBut (i : Fin 8) (sup : Supervision) (s : State) :
    SameBut [.supervisor, .eventList] s (takeSupervision i sup s) := by
  unfold takeSupervision
  try dsimp only
  repeat' first
    | simp (disch := decide) only [SameBut.refl_iff, SameBut.ite_iff, State.updStep_iff, logEvent_iff, implies_true, and_self]
    | split

theorem takeSupervision_iff {ps : List Part} {s₀ : State} (i : Fin 8) (sup : Supervision) (s : State)
   
    (hq : ∀ q ∈ ([.supervisor, .eventList] : List Part), q ∈ ps) :
    SameBut ps s₀ (takeSupervision i sup s) ↔ SameBut ps s₀ s :=
  (takeSupervision_sameBut i sup s).iff hq

theorem closeStart_sameBut (i : Fin 8) (cause : Cause) (s : State) :
    SameBut [.mail, .supervisor, .eventList] s (closeStart i cause s) := by
  unfold closeStart
  try dsimp only
  repeat' first
    | simp (disch := decide) only [SameBut.refl_iff, SameBut.ite_iff, hand_iff, operateStep_iff, implies_true, and_self]
    | split

theorem closeStart_iff {ps : List Part} {s₀ : State} (i : Fin 8) (cause : Cause) (s : State)
    (hq : ∀ q ∈ ([.mail, .supervisor, .eventList] : List Part), q ∈ ps) :
    SameBut ps s₀ (closeStart i cause s) ↔ SameBut ps s₀ s :=
  (closeStart_sameBut i cause s).iff hq

theorem openStart_sameBut (i : Fin 8) (cause : Cause) (s : State) :
    SameBut [.mail, .supervisor, .eventList] s (openStart i cause s) := by
  unfold openStart
  try dsimp only
  repeat' first
    | simp (disch := decide) only [SameBut.refl_iff, SameBut.ite_iff, hand_iff, operateStep_iff, implies_true, and_self]
    | split

theorem openStart_iff {ps : List Part} {s₀ : State} (i : Fin 8) (cause : Cause) (s : State)
    (hq : ∀ q ∈ ([.mail, .supervisor, .eventList] : List Part), q ∈ ps) :
    SameBut ps s₀ (openStart i cause s) ↔ SameBut ps s₀ s :=
  (openStart_sameBut i cause s).iff hq

theorem takeBusy_sameBut (r : BusyRefusal) (s : State) : SameBut [.mail, .supervisor, .eventList] s (takeBusy r s) := by
  unfold takeBusy
  try dsimp only
  repeat' first
    | simp (disch := decide) only [SameBut.refl_iff, SameBut.ite_iff, hand_iff, restStep_iff, moveStep_iff, implies_true, and_self]
    | split

theorem takeBusy_iff {ps : List Part} {s₀ : State} (r : BusyRefusal) (s : State)
    (hq : ∀ q ∈ ([.mail, .supervisor, .eventList] : List Part), q ∈ ps) :
    SameBut ps s₀ (takeBusy r s) ↔ SameBut ps s₀ s :=
  (takeBusy_sameBut r s).iff hq

theorem takeTripStart_sameBut (i : Fin 8) (c : TripCause) (s : State) :
    SameBut [.mail, .supervisor, .eventList] s (takeTripStart i c s) := by
  unfold takeTripStart
  try dsimp only
  repeat' first
    | simp (disch := decide) only [SameBut.refl_iff, SameBut.ite_iff, operateStep_iff, State.updStep_iff, implies_true, and_self]
    | split

theorem takeTripStart_iff {ps : List Part} {s₀ : State} (i : Fin 8) (c : TripCause) (s : State)
    (hq : ∀ q ∈ ([.mail, .supervisor, .eventList] : List Part), q ∈ ps) :
    SameBut ps s₀ (takeTripStart i c s) ↔ SameBut ps s₀ s :=
  (takeTripStart_sameBut i c s).iff hq

theorem takeLockoutNotice_sameBut (i : Fin 8) (s : State) :
    SameBut [.mail, .supervisor, .eventList] s (takeLockoutNotice i s) := by
  unfold takeLockoutNotice
  try dsimp only
  repeat' first
    | simp (disch := decide) only [SameBut.refl_iff, setPending_iff, lockStep_iff, implies_true, and_self]
    | split

theorem takeLockoutNotice_iff {ps : List Part} {s₀ : State} (i : Fin 8) (s : State)
    (hq : ∀ q ∈ ([.mail, .supervisor, .eventList] : List Part), q ∈ ps) :
    SameBut ps s₀ (takeLockoutNotice i s) ↔ SameBut ps s₀ s :=
  (takeLockoutNotice_sameBut i s).iff hq

theorem failedClose_sameBut (i : Fin 8) (s : State) :
    SameBut [.mail, .duty, .supervisor, .eventList] s (failedClose i s) := by
  unfold failedClose
  try dsimp only
  repeat' first
    | simp (disch := decide) only [SameBut.refl_iff, handLoading_iff, setPending_iff, operateStep_iff, hand_iff, implies_true, and_self]
    | split

theorem failedClose_iff {ps : List Part} {s₀ : State} (i : Fin 8) (s : State)
    (hq : ∀ q ∈ ([.mail, .duty, .supervisor, .eventList] : List Part), q ∈ ps) :
    SameBut ps s₀ (failedClose i s) ↔ SameBut ps s₀ s :=
  (failedClose_sameBut i s).iff hq

theorem takeCloseOutcome_sameBut (i : Fin 8) (o : CmdOutcome) (s : State) :
    SameBut [.mail, .duty, .supervisor, .eventList] s (takeCloseOutcome i o s) := by
  unfold takeCloseOutcome
  try dsimp only
  repeat' first
    | simp (disch := decide) only [SameBut.refl_iff, SameBut.ite_iff, moveStep_iff, failedClose_iff, hand_iff, implies_true, and_self]
    | split

theorem takeCloseOutcome_iff {ps : List Part} {s₀ : State} (i : Fin 8) (o : CmdOutcome) (s : State)
   
    (hq : ∀ q ∈ ([.mail, .duty, .supervisor, .eventList] : List Part), q ∈ ps) :
    SameBut ps s₀ (takeCloseOutcome i o s) ↔ SameBut ps s₀ s :=
  (takeCloseOutcome_sameBut i o s).iff hq

theorem openOutcomeMove_sameBut (i : Fin 8) (o : CmdOutcome) (s : State) :
    SameBut [.mail, .supervisor, .eventList] s (openOutcomeMove i o s) := by
  unfold openOutcomeMove
  try dsimp only
  repeat' first
    | simp (disch := decide) only [SameBut.refl_iff, lockStep_iff, restStep_iff, hand_iff, moveStep_iff, implies_true, and_self]
    | split

theorem openOutcomeMove_iff {ps : List Part} {s₀ : State} (i : Fin 8) (o : CmdOutcome) (s : State)
    (hq : ∀ q ∈ ([.mail, .supervisor, .eventList] : List Part), q ∈ ps) :
    SameBut ps s₀ (openOutcomeMove i o s) ↔ SameBut ps s₀ s :=
  (openOutcomeMove_sameBut i o s).iff hq

theorem takeOpenOutcome_sameBut (i : Fin 8) (o : CmdOutcome) (s : State) :
    SameBut [.mail, .supervisor, .eventList] s (takeOpenOutcome i o s) := by
  unfold takeOpenOutcome
  try dsimp only
  repeat' first
    | simp (disch := decide) only [SameBut.refl_iff, SameBut.ite_iff, openOutcomeMove_iff, hand_iff, implies_true, and_self]
    | split

theorem takeOpenOutcome_iff {ps : List Part} {s₀ : State} (i : Fin 8) (o : CmdOutcome) (s : State)
    (hq : ∀ q ∈ ([.mail, .supervisor, .eventList] : List Part), q ∈ ps) :
    SameBut ps s₀ (takeOpenOutcome i o s) ↔ SameBut ps s₀ s :=
  (takeOpenOutcome_sameBut i o s).iff hq

theorem takeDischarged_sameBut (i : Fin 8) (s : State) :
    SameBut [.mail, .supervisor, .eventList] s (takeDischarged i s) := by
  unfold takeDischarged
  try dsimp only
  repeat' first
    | simp (disch := decide) only [SameBut.refl_iff, SameBut.ite_iff, moveStep_iff, implies_true, and_self]
    | split

theorem takeDischarged_iff {ps : List Part} {s₀ : State} (i : Fin 8) (s : State)
    (hq : ∀ q ∈ ([.mail, .supervisor, .eventList] : List Part), q ∈ ps) :
    SameBut ps s₀ (takeDischarged i s) ↔ SameBut ps s₀ s :=
  (takeDischarged_sameBut i s).iff hq

theorem settingsFault_sameBut (i : Fin 8) (s : State) : SameBut [.mail, .supervisor, .eventList] s (settingsFault i s) := by
  unfold settingsFault
  try dsimp only
  repeat' first
    | simp (disch := decide) only [SameBut.refl_iff, moveStep_iff, hand_iff, setPending_iff, implies_true, and_self]
    | split

theorem settingsFault_iff {ps : List Part} {s₀ : State} (i : Fin 8) (s : State)
    (hq : ∀ q ∈ ([.mail, .supervisor, .eventList] : List Part), q ∈ ps) :
    SameBut ps s₀ (settingsFault i s) ↔ SameBut ps s₀ s :=
  (settingsFault_sameBut i s).iff hq

theorem sendCommand_sameBut (u : Fin 9) (s : State) : SameBut [.mail, .ports, .commands] s (sendCommand u s) := by
  unfold sendCommand
  try dsimp only
  repeat' first
    | simp (disch := decide) only [SameBut.refl_iff, enterOrigins_iff, State.updUnit_iff, implies_true, and_self]
    | split

theorem sendCommand_iff {ps : List Part} {s₀ : State} (u : Fin 9) (s : State)
    (hq : ∀ q ∈ ([.mail, .ports, .commands] : List Part), q ∈ ps) :
    SameBut ps s₀ (sendCommand u s) ↔ SameBut ps s₀ s :=
  (sendCommand_sameBut u s).iff hq

theorem dropStale_sameBut (u : Fin 9) (s : State) : SameBut [.ports] s (dropStale u s) := by
  unfold dropStale
  try dsimp only
  repeat' first
    | simp (disch := decide) only [SameBut.refl_iff, withdrawFrames_iff, implies_true, and_self]
    | split

theorem dropStale_iff {ps : List Part} {s₀ : State} (u : Fin 9) (s : State)
    (hq : ∀ q ∈ ([.ports] : List Part), q ∈ ps) :
    SameBut ps s₀ (dropStale u s) ↔ SameBut ps s₀ s :=
  (dropStale_sameBut u s).iff hq

theorem handOutcome_sameBut (u : Fin 9) (c : CommandContext) (o : CmdOutcome) (s : State) :
    SameBut [.mail] s (handOutcome u c o s) := by
  unfold handOutcome
  try dsimp only
  repeat' first
    | simp (disch := decide) only [SameBut.refl_iff, SameBut.ite_iff, hand_iff, implies_true, and_self]
    | split

theorem handOutcome_iff {ps : List Part} {s₀ : State} (u : Fin 9) (c : CommandContext) (o : CmdOutcome)
    (s : State)
    (hq : ∀ q ∈ ([.mail] : List Part), q ∈ ps) :
    SameBut ps s₀ (handOutcome u c o s) ↔ SameBut ps s₀ s :=
  (handOutcome_sameBut u c o s).iff hq

theorem endCore_sameBut (u : Fin 9) (o : CmdOutcome) (s : State) :
    SameBut [.mail, .ports, .commands, .eventList] s (endCore u o s) := by
  unfold endCore
  try dsimp only
  repeat' first
    | simp (disch := decide) only [SameBut.refl_iff, SameBut.ite_iff, withdrawAll_iff, State.updUnit_iff, logEvent_iff, handOutcome_iff,
     implies_true, and_self]
    | split

theorem endCore_iff {ps : List Part} {s₀ : State} (u : Fin 9) (o : CmdOutcome) (s : State)
    (hq : ∀ q ∈ ([.mail, .ports, .commands, .eventList] : List Part), q ∈ ps) :
    SameBut ps s₀ (endCore u o s) ↔ SameBut ps s₀ s :=
  (endCore_sameBut u o s).iff hq

theorem endCore_wide (u : Fin 9) (o : CmdOutcome) (s : State) :
    SameBut commandParts s (endCore u o s) :=
  (endCore_sameBut u o s).mono (by decide)

theorem refuseBusy_sameBut (r : CmdRequest) (s : State) : SameBut [.mail] s (refuseBusy r s) := by
  unfold refuseBusy
  try dsimp only
  repeat' first
    | simp (disch := decide) only [SameBut.refl_iff, hand_iff, implies_true, and_self]
    | split

theorem refuseBusy_iff {ps : List Part} {s₀ : State} (r : CmdRequest) (s : State)
    (hq : ∀ q ∈ ([.mail] : List Part), q ∈ ps) :
    SameBut ps s₀ (refuseBusy r s) ↔ SameBut ps s₀ s :=
  (refuseBusy_sameBut r s).iff hq

theorem announceTrip_sameBut (r : CmdRequest) (s : State) :
    SameBut [.mail, .unbalance, .eventList] s (announceTrip r s) := by
  unfold announceTrip
  try dsimp only
  repeat' first
    | simp (disch := decide) only [SameBut.refl_iff, abandonNull_iff, hand_iff, implies_true, and_self]
    | split

theorem announceTrip_iff {ps : List Part} {s₀ : State} (r : CmdRequest) (s : State)
    (hq : ∀ q ∈ ([.mail, .unbalance, .eventList] : List Part), q ∈ ps) :
    SameBut ps s₀ (announceTrip r s) ↔ SameBut ps s₀ s :=
  (announceTrip_sameBut r s).iff hq

theorem noticeOvertaken_sameBut (u : Fin 9) (s : State) : SameBut [.mail] s (noticeOvertaken u s) := by
  unfold noticeOvertaken
  try dsimp only
  repeat' first
    | simp (disch := decide) only [SameBut.refl_iff, hand_iff, implies_true, and_self]
    | split

theorem noticeOvertaken_iff {ps : List Part} {s₀ : State} (u : Fin 9) (s : State)
    (hq : ∀ q ∈ ([.mail] : List Part), q ∈ ps) :
    SameBut ps s₀ (noticeOvertaken u s) ↔ SameBut ps s₀ s :=
  (noticeOvertaken_sameBut u s).iff hq

theorem startCommand_sameBut (finish : Fin 9 → CmdOutcome → State → State) (r : CmdRequest) (s : State)
    (h : ∀ u o s, SameBut commandParts s (finish u o s)) :
    SameBut commandParts s (startCommand finish r s) := by
  unfold startCommand
  try dsimp only
  repeat' first
    | simp (disch := decide) only [SameBut.refl_iff, SameBut.ite_iff, State.updUnit_iff, dropStale_iff, sendCommand_iff, implies_true,
     and_self]
    | with_reducible refine .after (h _ _ _) ?_
    | with_reducible refine And.intro ?_ ?_
    | intro _
    | split

theorem startCommand_iff {ps : List Part} {s₀ : State} (finish : Fin 9 → CmdOutcome → State → State)
    (r : CmdRequest) (s : State) (h : ∀ u o s, SameBut commandParts s (finish u o s))
    (hq : ∀ q ∈ commandParts, q ∈ ps) :
    SameBut ps s₀ (startCommand finish r s) ↔ SameBut ps s₀ s :=
  (startCommand_sameBut finish r s h).iff hq

theorem takeRequestWith_sameBut (finish : Fin 9 → CmdOutcome → State → State) (r : CmdRequest) (s : State)
    (h : ∀ u o s, SameBut commandParts s (finish u o s)) :
    SameBut commandParts s (takeRequestWith finish r s) := by
  unfold takeRequestWith
  try dsimp only
  repeat' first
    | simp (disch := decide) only [SameBut.refl_iff, SameBut.ite_iff, refuseBusy_iff,
     fun ps s₀ r s => startCommand_iff (ps := ps) (s₀ := s₀) finish r s h, noticeOvertaken_iff,
     fun ps s₀ r s => startCommand_iff (ps := ps) (s₀ := s₀) finish r s h, implies_true, and_self]
    | split

theorem takeRequestWith_iff {ps : List Part} {s₀ : State} (finish : Fin 9 → CmdOutcome → State → State)
    (r : CmdRequest) (s : State) (h : ∀ u o s, SameBut commandParts s (finish u o s))
    (hq : ∀ q ∈ commandParts, q ∈ ps) :
    SameBut ps s₀ (takeRequestWith finish r s) ↔ SameBut ps s₀ s :=
  (takeRequestWith_sameBut finish r s h).iff hq

theorem endCommand_sameBut (u : Fin 9) (o : CmdOutcome) (s : State) :
    SameBut commandParts s (endCommand u o s) := by
  unfold endCommand
  try dsimp only
  repeat' first
    | simp (disch := decide) only [SameBut.refl_iff, SameBut.ite_iff, endCore_iff,
     fun ps s₀ r s => takeRequestWith_iff (ps := ps) (s₀ := s₀) endCore r s endCore_wide, logEvent_iff,
     implies_true, and_self]
    | split

theorem endCommand_iff {ps : List Part} {s₀ : State} (u : Fin 9) (o : CmdOutcome) (s : State)
    (hq : ∀ q ∈ commandParts, q ∈ ps) :
    SameBut ps s₀ (endCommand u o s) ↔ SameBut ps s₀ s :=
  (endCommand_sameBut u o s).iff hq

theorem takeRequest_sameBut (r : CmdRequest) (s : State) :
    SameBut commandParts s (takeRequest r s) := by
  unfold takeRequest
  try dsimp only
  repeat' first
    | simp (disch := decide) only [SameBut.refl_iff,
     fun ps s₀ r s => takeRequestWith_iff (ps := ps) (s₀ := s₀) endCommand r s endCommand_sameBut,
     endCommand_iff, implies_true, and_self]
    | split

theorem takeRequest_iff {ps : List Part} {s₀ : State} (r : CmdRequest) (s : State)
    (hq : ∀ q ∈ commandParts, q ∈ ps) :
    SameBut ps s₀ (takeRequest r s) ↔ SameBut ps s₀ s :=
  (takeRequest_sameBut r s).iff hq

theorem forceEnd_sameBut (u : Fin 9) (s : State) :
    SameBut commandParts s (forceEnd u s) := by
  unfold forceEnd
  try dsimp only
  repeat' first
    | simp (disch := decide) only [SameBut.refl_iff, SameBut.ite_iff, endCommand_iff, implies_true, and_self]
    | split

theorem forceEnd_iff {ps : List Part} {s₀ : State} (u : Fin 9) (s : State)
    (hq : ∀ q ∈ commandParts, q ∈ ps) :
    SameBut ps s₀ (forceEnd u s) ↔ SameBut ps s₀ s :=
  (forceEnd_sameBut u s).iff hq

theorem nextSend_sameBut (u : Fin 9) (s : State) :
    SameBut commandParts s (nextSend u s) := by
  unfold nextSend
  try dsimp only
  repeat' first
    | simp (disch := decide) only [SameBut.refl_iff, SameBut.ite_iff, endCommand_iff, sendCommand_iff, implies_true, and_self]
    | split

theorem nextSend_iff {ps : List Part} {s₀ : State} (u : Fin 9) (s : State)
    (hq : ∀ q ∈ commandParts, q ∈ ps) :
    SameBut ps s₀ (nextSend u s) ↔ SameBut ps s₀ s :=
  (nextSend_sameBut u s).iff hq

theorem deadlineArrives_sameBut (u : Fin 9) (s : State) :
    SameBut commandParts s (deadlineArrives u s) := by
  unfold deadlineArrives
  try dsimp only
  repeat' first
    | simp (disch := decide) only [SameBut.refl_iff, SameBut.ite_iff, endCommand_iff, implies_true, and_self]
    | split

theorem deadlineArrives_iff {ps : List Part} {s₀ : State} (u : Fin 9) (s : State)
    (hq : ∀ q ∈ commandParts, q ∈ ps) :
    SameBut ps s₀ (deadlineArrives u s) ↔ SameBut ps s₀ s :=
  (deadlineArrives_sameBut u s).iff hq

theorem handSupervision_sameBut (u : Fin 9) (sup : Supervision) (s : State) :
    SameBut [.mail] s (handSupervision u sup s) := by
  unfold handSupervision
  try dsimp only
  repeat' first
    | simp (disch := decide) only [SameBut.refl_iff, hand_iff, implies_true, and_self]
    | split

theorem handSupervision_iff {ps : List Part} {s₀ : State} (u : Fin 9) (sup : Supervision) (s : State)
   
    (hq : ∀ q ∈ ([.mail] : List Part), q ∈ ps) :
    SameBut ps s₀ (handSupervision u sup s) ↔ SameBut ps s₀ s :=
  (handSupervision_sameBut u sup s).iff hq

theorem goSilent_sameBut (u : Fin 9) (s : State) : SameBut [.mail, .commands, .eventList] s (goSilent u s) := by
  unfold goSilent
  try dsimp only
  repeat' first
    | simp (disch := decide) only [SameBut.refl_iff, State.updUnit_iff, handSupervision_iff, logEvent_iff, implies_true, and_self]
    | split

theorem goSilent_iff {ps : List Part} {s₀ : State} (u : Fin 9) (s : State)
    (hq : ∀ q ∈ ([.mail, .commands, .eventList] : List Part), q ∈ ps) :
    SameBut ps s₀ (goSilent u s) ↔ SameBut ps s₀ s :=
  (goSilent_sameBut u s).iff hq

theorem supervisionExpiry_sameBut (u : Fin 9) (s : State) :
    SameBut commandParts s (supervisionExpiry u s) := by
  unfold supervisionExpiry
  try dsimp only
  repeat' first
    | simp (disch := decide) only [SameBut.refl_iff, SameBut.ite_iff, forceEnd_iff, goSilent_iff, implies_true, and_self]
    | split

theorem supervisionExpiry_iff {ps : List Part} {s₀ : State} (u : Fin 9) (s : State)
    (hq : ∀ q ∈ commandParts, q ∈ ps) :
    SameBut ps s₀ (supervisionExpiry u s) ↔ SameBut ps s₀ s :=
  (supervisionExpiry_sameBut u s).iff hq

theorem comeAlive_sameBut (u : Fin 9) (s : State) : SameBut [.mail, .commands, .eventList] s (comeAlive u s) := by
  unfold comeAlive
  try dsimp only
  repeat' first
    | simp (disch := decide) only [SameBut.refl_iff, SameBut.ite_iff, handSupervision_iff, logEvent_iff, State.updUnit_iff, implies_true,
     and_self]
    | split

theorem comeAlive_iff {ps : List Part} {s₀ : State} (u : Fin 9) (s : State)
    (hq : ∀ q ∈ ([.mail, .commands, .eventList] : List Part), q ∈ ps) :
    SameBut ps s₀ (comeAlive u s) ↔ SameBut ps s₀ s :=
  (comeAlive_sameBut u s).iff hq

theorem reportPosition_sameBut (u : Fin 9) (before : UnitLive) (pos : Position) (s : State) :
    SameBut [.mail, .eventList] s (reportPosition u before pos s) := by
  unfold reportPosition
  try dsimp only
  repeat' first
    | simp (disch := decide) only [SameBut.refl_iff, SameBut.ite_iff, hand_iff, logEvent_iff, implies_true, and_self]
    | split

theorem reportPosition_iff {ps : List Part} {s₀ : State} (u : Fin 9) (before : UnitLive) (pos : Position)
    (s : State)
    (hq : ∀ q ∈ ([.mail, .eventList] : List Part), q ∈ ps) :
    SameBut ps s₀ (reportPosition u before pos s) ↔ SameBut ps s₀ s :=
  (reportPosition_sameBut u before pos s).iff hq

theorem awaitMove_sameBut (u : Fin 9) (s : State) : SameBut [.ports, .commands] s (awaitMove u s) := by
  unfold awaitMove
  try dsimp only
  repeat' first
    | simp (disch := decide) only [SameBut.refl_iff, withdrawAll_iff, State.updUnit_iff, nextSend_iff, implies_true, and_self]
    | split

theorem awaitMove_iff {ps : List Part} {s₀ : State} (u : Fin 9) (s : State)
    (hq : ∀ q ∈ ([.ports, .commands] : List Part), q ∈ ps) :
    SameBut ps s₀ (awaitMove u s) ↔ SameBut ps s₀ s :=
  (awaitMove_sameBut u s).iff hq

theorem judgeStatus_sameBut (u : Fin 9) (f : StatusFrame) (s : State) :
    SameBut commandParts s (judgeStatus u f s) := by
  unfold judgeStatus
  try dsimp only
  repeat' first
    | simp (disch := decide) only [SameBut.refl_iff, SameBut.ite_iff, endCommand_iff, awaitMove_iff, implies_true, and_self]
    | split

theorem judgeStatus_iff {ps : List Part} {s₀ : State} (u : Fin 9) (f : StatusFrame) (s : State)
    (hq : ∀ q ∈ commandParts, q ∈ ps) :
    SameBut ps s₀ (judgeStatus u f s) ↔ SameBut ps s₀ s :=
  (judgeStatus_sameBut u f s).iff hq

theorem takeStatus_sameBut (f : StatusFrame) (s : State) :
    SameBut commandParts s (takeStatus f s) := by
  unfold takeStatus
  try dsimp only
  repeat' first
    | simp (disch := decide) only [SameBut.refl_iff, State.updUnit_iff, comeAlive_iff, reportPosition_iff, judgeStatus_iff, implies_true,
     and_self]
    | split

theorem takeStatus_iff {ps : List Part} {s₀ : State} (f : StatusFrame) (s : State)
    (hq : ∀ q ∈ commandParts, q ∈ ps) :
    SameBut ps s₀ (takeStatus f s) ↔ SameBut ps s₀ s :=
  (takeStatus_sameBut f s).iff hq

theorem unitFoundDamaged_sameBut (u : Fin 9) (s : State) :
    SameBut commandParts s (unitFoundDamaged u s) := by
  unfold unitFoundDamaged
  try dsimp only
  repeat' first
    | simp (disch := decide) only [SameBut.refl_iff, SameBut.ite_iff, forceEnd_iff, goSilent_iff, State.updUnit_iff, implies_true, and_self]
    | split

theorem unitFoundDamaged_iff {ps : List Part} {s₀ : State} (u : Fin 9) (s : State)
    (hq : ∀ q ∈ commandParts, q ∈ ps) :
    SameBut ps s₀ (unitFoundDamaged u s) ↔ SameBut ps s₀ s :=
  (unitFoundDamaged_sameBut u s).iff hq

theorem setElement_sameBut (k : Fin 6) (i : Fin 15) (e : Option Element) (s : State) :
    SameBut [.harmonic] s (setElement k i e s) := by
  unfold setElement
  try dsimp only
  repeat' first
    | simp (disch := decide) only [SameBut.refl_iff, harmonic_iff, implies_true, and_self]
    | split

theorem setElement_iff {ps : List Part} {s₀ : State} (k : Fin 6) (i : Fin 15) (e : Option Element) (s : State)
   
    (hq : ∀ q ∈ ([.harmonic] : List Part), q ∈ ps) :
    SameBut ps s₀ (setElement k i e s) ↔ SameBut ps s₀ s :=
  (setElement_sameBut k i e s).iff hq

theorem logElement_sameBut (k : Fin 6) (i : Fin 15) (a b : Bool) (s : State) :
    SameBut [.eventList] s (logElement k i a b s) := by
  unfold logElement
  try dsimp only
  repeat' first
    | simp (disch := decide) only [SameBut.refl_iff, SameBut.ite_iff, logEvent_iff, implies_true, and_self]
    | split

theorem logElement_iff {ps : List Part} {s₀ : State} (k : Fin 6) (i : Fin 15) (a b : Bool) (s : State)
   
    (hq : ∀ q ∈ ([.eventList] : List Part), q ∈ ps) :
    SameBut ps s₀ (logElement k i a b s) ↔ SameBut ps s₀ s :=
  (logElement_sameBut k i a b s).iff hq

theorem moveElement_sameBut (k : Fin 6) (record : ResultRecord) (s : State) (i : Fin 15) :
    SameBut [.harmonic, .eventList] s (moveElement k record s i) := by
  unfold moveElement
  try dsimp only
  repeat' first
    | simp (disch := decide) only [SameBut.refl_iff, logElement_iff, setElement_iff, implies_true, and_self]
    | split

theorem moveElement_iff {ps : List Part} {s₀ : State} (k : Fin 6) (record : ResultRecord) (s : State)
    (i : Fin 15)
    (hq : ∀ q ∈ ([.harmonic, .eventList] : List Part), q ∈ ps) :
    SameBut ps s₀ (moveElement k record s i) ↔ SameBut ps s₀ s :=
  (moveElement_sameBut k record s i).iff hq

theorem moveElements_sameBut (k : Fin 6) (record : ResultRecord) (s : State) :
    SameBut [.harmonic, .eventList] s (moveElements k record s) := by
  unfold moveElements
  try dsimp only
  repeat' first
    | simp (disch := decide) only [SameBut.refl_iff, SameBut.ite_iff, moveElement_iff, implies_true, and_self]
    | with_reducible refine .foldl_of ?_ fun s a => ?_
    | with_reducible refine And.intro ?_ ?_
    | intro _
    | split

theorem moveElements_iff {ps : List Part} {s₀ : State} (k : Fin 6) (record : ResultRecord) (s : State)
   
    (hq : ∀ q ∈ ([.harmonic, .eventList] : List Part), q ∈ ps) :
    SameBut ps s₀ (moveElements k record s) ↔ SameBut ps s₀ s :=
  (moveElements_sameBut k record s).iff hq

theorem removeElement_sameBut (i : Fin 15) (s : State) (k : Fin 6) :
    SameBut [.harmonic, .eventList] s (removeElement i s k) := by
  unfold removeElement
  try dsimp only
  repeat' first
    | simp (disch := decide) only [SameBut.refl_iff, logElement_iff, setElement_iff, implies_true, and_self]
    | split

theorem removeElement_iff {ps : List Part} {s₀ : State} (i : Fin 15) (s : State) (k : Fin 6)
    (hq : ∀ q ∈ ([.harmonic, .eventList] : List Part), q ∈ ps) :
    SameBut ps s₀ (removeElement i s k) ↔ SameBut ps s₀ s :=
  (removeElement_sameBut i s k).iff hq

theorem removeElements_sameBut (i : Fin 15) (s : State) : SameBut [.harmonic, .eventList] s (removeElements i s) := by
  unfold removeElements
  try dsimp only
  repeat' first
    | simp (disch := decide) only [SameBut.refl_iff, removeElement_iff, implies_true, and_self]
    | with_reducible refine .foldl_of ?_ fun s a => ?_
    | with_reducible refine And.intro ?_ ?_
    | intro _
    | split

theorem removeElements_iff {ps : List Part} {s₀ : State} (i : Fin 15) (s : State)
    (hq : ∀ q ∈ ([.harmonic, .eventList] : List Part), q ∈ ps) :
    SameBut ps s₀ (removeElements i s) ↔ SameBut ps s₀ s :=
  (removeElements_sameBut i s).iff hq

theorem createElements_sameBut (i : Fin 15) (s : State) : SameBut [.harmonic] s (createElements i s) := by
  unfold createElements
  try dsimp only
  repeat' first
    | simp (disch := decide) only [SameBut.refl_iff, setElement_iff, implies_true, and_self]
    | with_reducible refine .foldl_of ?_ fun s a => ?_
    | with_reducible refine And.intro ?_ ?_
    | intro _
    | split

theorem createElements_iff {ps : List Part} {s₀ : State} (i : Fin 15) (s : State)
    (hq : ∀ q ∈ ([.harmonic] : List Part), q ∈ ps) :
    SameBut ps s₀ (createElements i s) ↔ SameBut ps s₀ s :=
  (createElements_sameBut i s).iff hq

theorem reformBlock_sameBut (s : State) (i : Fin 15) : SameBut [.harmonic] s (reformBlock s i) := by
  unfold reformBlock
  try dsimp only
  repeat' first
    | simp (disch := decide) only [SameBut.refl_iff, SameBut.ite_iff, harmonic_iff, implies_true, and_self]
    | split

theorem reformBlock_iff {ps : List Part} {s₀ : State} (s : State) (i : Fin 15)
    (hq : ∀ q ∈ ([.harmonic] : List Part), q ∈ ps) :
    SameBut ps s₀ (reformBlock s i) ↔ SameBut ps s₀ s :=
  (reformBlock_sameBut s i).iff hq

theorem reformBlocks_sameBut (s : State) : SameBut [.harmonic] s (reformBlocks s) := by
  unfold reformBlocks
  try dsimp only
  repeat' first
    | simp (disch := decide) only [SameBut.refl_iff, reformBlock_iff, implies_true, and_self]
    | with_reducible refine .foldl_of ?_ fun s a => ?_
    | with_reducible refine And.intro ?_ ?_
    | intro _
    | split

theorem reformBlocks_iff {ps : List Part} {s₀ : State} (s : State)
    (hq : ∀ q ∈ ([.harmonic] : List Part), q ∈ ps) :
    SameBut ps s₀ (reformBlocks s) ↔ SameBut ps s₀ s :=
  (reformBlocks_sameBut s).iff hq

theorem setNextCount_sameBut (s : State) : SameBut [.harmonic] s (setNextCount s) := by
  unfold setNextCount
  try dsimp only
  repeat' first
    | simp (disch := decide) only [SameBut.refl_iff, harmonic_iff, implies_true, and_self]
    | split

theorem setNextCount_iff {ps : List Part} {s₀ : State} (s : State)
    (hq : ∀ q ∈ ([.harmonic] : List Part), q ∈ ps) :
    SameBut ps s₀ (setNextCount s) ↔ SameBut ps s₀ s :=
  (setNextCount_sameBut s).iff hq

theorem reformNextCount_sameBut (s : State) : SameBut [.harmonic, .eventList] s (reformNextCount s) := by
  unfold reformNextCount
  try dsimp only
  repeat' first
    | simp (disch := decide) only [SameBut.refl_iff, SameBut.ite_iff, setNextCount_iff, logEvent_iff, implies_true, and_self]
    | split

theorem reformNextCount_iff {ps : List Part} {s₀ : State} (s : State)
    (hq : ∀ q ∈ ([.harmonic, .eventList] : List Part), q ∈ ps) :
    SameBut ps s₀ (reformNextCount s) ↔ SameBut ps s₀ s :=
  (reformNextCount_sameBut s).iff hq

theorem updateSustain_sameBut (s : State) : SameBut [.harmonic] s (updateSustain s) := by
  unfold updateSustain
  try dsimp only
  repeat' first
    | simp (disch := decide) only [SameBut.refl_iff, harmonic_iff, implies_true, and_self]
    | split

theorem updateSustain_iff {ps : List Part} {s₀ : State} (s : State)
    (hq : ∀ q ∈ ([.harmonic] : List Part), q ∈ ps) :
    SameBut ps s₀ (updateSustain s) ↔ SameBut ps s₀ s :=
  (updateSustain_sameBut s).iff hq

theorem clearSustain_sameBut (s : State) : SameBut [.harmonic] s (clearSustain s) := by
  unfold clearSustain
  try dsimp only
  repeat' first
    | simp (disch := decide) only [SameBut.refl_iff, harmonic_iff, implies_true, and_self]
    | split

theorem clearSustain_iff {ps : List Part} {s₀ : State} (s : State)
    (hq : ∀ q ∈ ([.harmonic] : List Part), q ∈ ps) :
    SameBut ps s₀ (clearSustain s) ↔ SameBut ps s₀ s :=
  (clearSustain_sameBut s).iff hq

theorem zeroSustain_sameBut (i : Fin 15) (s : State) : SameBut [.harmonic] s (zeroSustain i s) := by
  unfold zeroSustain
  try dsimp only
  repeat' first
    | simp (disch := decide) only [SameBut.refl_iff, SameBut.ite_iff, harmonic_iff, implies_true, and_self]
    | split

theorem zeroSustain_iff {ps : List Part} {s₀ : State} (i : Fin 15) (s : State)
    (hq : ∀ q ∈ ([.harmonic] : List Part), q ∈ ps) :
    SameBut ps s₀ (zeroSustain i s) ↔ SameBut ps s₀ s :=
  (zeroSustain_sameBut i s).iff hq

theorem harmonicPublication_sameBut (m : Fin 38) (s : State) :
    SameBut [.mail, .harmonic, .eventList] s (harmonicPublication m s) := by
  unfold harmonicPublication
  try dsimp only
  repeat' first
    | simp (disch := decide) only [SameBut.refl_iff, SameBut.ite_iff, moveElements_iff, reformBlocks_iff, updateSustain_iff,
     reformNextCount_iff, hand_iff, harmonic_iff, implies_true, and_self]
    | split

theorem harmonicPublication_iff {ps : List Part} {s₀ : State} (m : Fin 38) (s : State)
    (hq : ∀ q ∈ ([.mail, .harmonic, .eventList] : List Part), q ∈ ps) :
    SameBut ps s₀ (harmonicPublication m s) ↔ SameBut ps s₀ s :=
  (harmonicPublication_sameBut m s).iff hq

theorem harmonicReport_sameBut (r : StepReport) (s : State) : SameBut [.harmonic, .eventList] s (harmonicReport r s) := by
  unfold harmonicReport
  try dsimp only
  repeat' first
    | simp (disch := decide) only [SameBut.refl_iff, SameBut.ite_iff, clearSustain_iff, reformNextCount_iff, harmonic_iff, implies_true,
     and_self]
    | split

theorem harmonicReport_iff {ps : List Part} {s₀ : State} (r : StepReport) (s : State)
    (hq : ∀ q ∈ ([.harmonic, .eventList] : List Part), q ∈ ps) :
    SameBut ps s₀ (harmonicReport r s) ↔ SameBut ps s₀ s :=
  (harmonicReport_sameBut r s).iff hq

theorem harmonicFoundDamaged_sameBut (i : Fin 15) (s : State) :
    SameBut [.harmonic, .eventList] s (harmonicFoundDamaged i s) := by
  unfold harmonicFoundDamaged
  try dsimp only
  repeat' first
    | simp (disch := decide) only [SameBut.refl_iff, reformNextCount_iff, zeroSustain_iff, removeElements_iff, implies_true, and_self]
    | split

theorem harmonicFoundDamaged_iff {ps : List Part} {s₀ : State} (i : Fin 15) (s : State)
    (hq : ∀ q ∈ ([.harmonic, .eventList] : List Part), q ∈ ps) :
    SameBut ps s₀ (harmonicFoundDamaged i s) ↔ SameBut ps s₀ s :=
  (harmonicFoundDamaged_sameBut i s).iff hq

theorem defer_sameBut (k : CmdKind) (c : Condition) (s : State) : SameBut [.eventList] s (defer k c s) := by
  unfold defer
  try dsimp only
  repeat' first
    | simp (disch := decide) only [SameBut.refl_iff, logEvent_iff, implies_true, and_self]
    | split

theorem defer_iff {ps : List Part} {s₀ : State} (k : CmdKind) (c : Condition) (s : State)
    (hq : ∀ q ∈ ([.eventList] : List Part), q ∈ ps) :
    SameBut ps s₀ (defer k c s) ↔ SameBut ps s₀ s :=
  (defer_sameBut k c s).iff hq

theorem refuse_sameBut (t : Fin 9) (c : Condition) (s : State) : SameBut [.eventList] s (refuse t c s) := by
  unfold refuse
  try dsimp only
  repeat' first
    | simp (disch := decide) only [SameBut.refl_iff, logEvent_iff, implies_true, and_self]
    | split

theorem refuse_iff {ps : List Part} {s₀ : State} (t : Fin 9) (c : Condition) (s : State)
    (hq : ∀ q ∈ ([.eventList] : List Part), q ∈ ps) :
    SameBut ps s₀ (refuse t c s) ↔ SameBut ps s₀ s :=
  (refuse_sameBut t c s).iff hq

theorem withdrawAuto_sameBut (c : Condition) (s : State) : SameBut [.switching, .eventList] s (withdrawAuto c s) := by
  unfold withdrawAuto
  try dsimp only
  repeat' first
    | simp (disch := decide) only [SameBut.refl_iff, defer_iff, State.updSwitching_iff, implies_true, and_self]
    | split

theorem withdrawAuto_iff {ps : List Part} {s₀ : State} (c : Condition) (s : State)
    (hq : ∀ q ∈ ([.switching, .eventList] : List Part), q ∈ ps) :
    SameBut ps s₀ (withdrawAuto c s) ↔ SameBut ps s₀ s :=
  (withdrawAuto_sameBut c s).iff hq

theorem stopBandTimers_sameBut (s : State) : SameBut [.switching] s (stopBandTimers s) := by
  unfold stopBandTimers
  try dsimp only
  repeat' first
    | simp (disch := decide) only [SameBut.refl_iff, State.updSwitching_iff, implies_true, and_self]
    | split

theorem stopBandTimers_iff {ps : List Part} {s₀ : State} (s : State)
    (hq : ∀ q ∈ ([.switching] : List Part), q ∈ ps) :
    SameBut ps s₀ (stopBandTimers s) ↔ SameBut ps s₀ s :=
  (stopBandTimers_sameBut s).iff hq

theorem startSettle_sameBut (s : State) : SameBut [.switching] s (startSettle s) := by
  unfold startSettle
  try dsimp only
  repeat' first
    | simp (disch := decide) only [SameBut.refl_iff, stopBandTimers_iff, State.updSwitching_iff, implies_true, and_self]
    | split

theorem startSettle_iff {ps : List Part} {s₀ : State} (s : State)
    (hq : ∀ q ∈ ([.switching] : List Part), q ∈ ps) :
    SameBut ps s₀ (startSettle s) ↔ SameBut ps s₀ s :=
  (startSettle_sameBut s).iff hq

theorem startOperation_sameBut (t : Fin 9) (k : CmdKind) (cause : Cause) (s : State) :
    SameBut [.mail, .supervisor, .eventList] s (startOperation t k cause s) := by
  unfold startOperation
  try dsimp only
  repeat' first
    | simp (disch := decide) only [SameBut.refl_iff, closeStart_iff, openStart_iff, hand_iff, implies_true, and_self]
    | split

theorem startOperation_iff {ps : List Part} {s₀ : State} (t : Fin 9) (k : CmdKind) (cause : Cause) (s : State)
   
    (hq : ∀ q ∈ ([.mail, .supervisor, .eventList] : List Part), q ∈ ps) :
    SameBut ps s₀ (startOperation t k cause s) ↔ SameBut ps s₀ s :=
  (startOperation_sameBut t k cause s).iff hq

theorem grantTo_sameBut (t : Fin 9) (k : CmdKind) (reason : Option Reason) (s : State) :
    SameBut [.mail, .supervisor, .switching, .eventList] s (grantTo t k reason s) := by
  unfold grantTo
  try dsimp only
  repeat' first
    | simp (disch := decide) only [SameBut.refl_iff, startOperation_iff, State.updSwitching_iff, implies_true, and_self]
    | split

theorem grantTo_iff {ps : List Part} {s₀ : State} (t : Fin 9) (k : CmdKind) (reason : Option Reason)
    (s : State)
    (hq : ∀ q ∈ ([.mail, .supervisor, .switching, .eventList] : List Part), q ∈ ps) :
    SameBut ps s₀ (grantTo t k reason s) ↔ SameBut ps s₀ s :=
  (grantTo_sameBut t k reason s).iff hq

theorem dropAuto_sameBut (k : CmdKind) (c : Condition) (s : State) :
    SameBut [.switching, .eventList] s (dropAuto k c s) := by
  unfold dropAuto
  try dsimp only
  repeat' first
    | simp (disch := decide) only [SameBut.refl_iff, startSettle_iff, defer_iff, implies_true, and_self]
    | split

theorem dropAuto_iff {ps : List Part} {s₀ : State} (k : CmdKind) (c : Condition) (s : State)
    (hq : ∀ q ∈ ([.switching, .eventList] : List Part), q ∈ ps) :
    SameBut ps s₀ (dropAuto k c s) ↔ SameBut ps s₀ s :=
  (dropAuto_sameBut k c s).iff hq

theorem grantManual_sameBut (t : Fin 9) (k : CmdKind) (s : State) :
    SameBut [.mail, .supervisor, .switching, .eventList] s (grantManual t k s) := by
  unfold grantManual
  try dsimp only
  repeat' first
    | simp (disch := decide) only [SameBut.refl_iff, refuse_iff, grantTo_iff, implies_true, and_self]
    | split

theorem grantManual_iff {ps : List Part} {s₀ : State} (t : Fin 9) (k : CmdKind) (s : State)
    (hq : ∀ q ∈ ([.mail, .supervisor, .switching, .eventList] : List Part), q ∈ ps) :
    SameBut ps s₀ (grantManual t k s) ↔ SameBut ps s₀ s :=
  (grantManual_sameBut t k s).iff hq

theorem grantAutoClose_sameBut (reason : Reason) (s : State) :
    SameBut [.mail, .supervisor, .switching, .eventList] s (grantAutoClose reason s) := by
  unfold grantAutoClose
  try dsimp only
  repeat' first
    | simp (disch := decide) only [SameBut.refl_iff, dropAuto_iff, grantTo_iff, implies_true, and_self]
    | split

theorem grantAutoClose_iff {ps : List Part} {s₀ : State} (reason : Reason) (s : State)
    (hq : ∀ q ∈ ([.mail, .supervisor, .switching, .eventList] : List Part), q ∈ ps) :
    SameBut ps s₀ (grantAutoClose reason s) ↔ SameBut ps s₀ s :=
  (grantAutoClose_sameBut reason s).iff hq

theorem grantAutoOpen_sameBut (reason : Reason) (s : State) :
    SameBut [.mail, .supervisor, .switching, .eventList] s (grantAutoOpen reason s) := by
  unfold grantAutoOpen
  try dsimp only
  repeat' first
    | simp (disch := decide) only [SameBut.refl_iff, SameBut.ite_iff, grantTo_iff, dropAuto_iff, implies_true, and_self]
    | split

theorem grantAutoOpen_iff {ps : List Part} {s₀ : State} (reason : Reason) (s : State)
    (hq : ∀ q ∈ ([.mail, .supervisor, .switching, .eventList] : List Part), q ∈ ps) :
    SameBut ps s₀ (grantAutoOpen reason s) ↔ SameBut ps s₀ s :=
  (grantAutoOpen_sameBut reason s).iff hq

theorem grantEntry_sameBut (e : QueueEntry) (s : State) :
    SameBut [.mail, .supervisor, .switching, .eventList] s (grantEntry e s) := by
  unfold grantEntry
  try dsimp only
  repeat' first
    | simp (disch := decide) only [SameBut.refl_iff, grantManual_iff, grantAutoClose_iff, grantAutoOpen_iff, implies_true, and_self]
    | split

theorem grantEntry_iff {ps : List Part} {s₀ : State} (e : QueueEntry) (s : State)
    (hq : ∀ q ∈ ([.mail, .supervisor, .switching, .eventList] : List Part), q ∈ ps) :
    SameBut ps s₀ (grantEntry e s) ↔ SameBut ps s₀ s :=
  (grantEntry_sameBut e s).iff hq

theorem grantLoop_sameBut (n : Nat) (s : State) :
    SameBut [.mail, .supervisor, .switching, .eventList] s (grantLoop n s) := by
  induction n generalizing s with
  | zero => exact .refl _ _
  | succ n ih =>
    unfold grantLoop
    split
    · exact (ih _).after (by simp (disch := decide) only [grantEntry_iff, State.updSwitching_iff, SameBut.refl_iff])
    · exact .refl _ _

theorem grantLoop_iff {ps : List Part} {s₀ : State} (n : Nat) (s : State)
    (hq : ∀ q ∈ ([.mail, .supervisor, .switching, .eventList] : List Part), q ∈ ps) :
    SameBut ps s₀ (grantLoop n s) ↔ SameBut ps s₀ s :=
  (grantLoop_sameBut n s).iff hq

theorem grantWaiting_sameBut (s : State) : SameBut [.mail, .supervisor, .switching, .eventList] s (grantWaiting s) := by
  unfold grantWaiting
  try dsimp only
  repeat' first
    | simp (disch := decide) only [SameBut.refl_iff, grantLoop_iff, implies_true, and_self]
    | split

theorem grantWaiting_iff {ps : List Part} {s₀ : State} (s : State)
    (hq : ∀ q ∈ ([.mail, .supervisor, .switching, .eventList] : List Part), q ∈ ps) :
    SameBut ps s₀ (grantWaiting s) ↔ SameBut ps s₀ s :=
  (grantWaiting_sameBut s).iff hq

theorem enqueue_sameBut (k : CmdKind) (o : Origin) (s : State) : SameBut [.switching] s (enqueue k o s) := by
  unfold enqueue
  try dsimp only
  repeat' first
    | simp (disch := decide) only [SameBut.refl_iff, SameBut.ite_iff, State.updSwitching_iff, implies_true, and_self]
    | split

theorem enqueue_iff {ps : List Part} {s₀ : State} (k : CmdKind) (o : Origin) (s : State)
    (hq : ∀ q ∈ ([.switching] : List Part), q ∈ ps) :
    SameBut ps s₀ (enqueue k o s) ↔ SameBut ps s₀ s :=
  (enqueue_sameBut k o s).iff hq

theorem arrive_sameBut (k : CmdKind) (o : Origin) (s : State) :
    SameBut [.mail, .supervisor, .switching, .eventList] s (arrive k o s) := by
  unfold arrive
  try dsimp only
  repeat' first
    | simp (disch := decide) only [SameBut.refl_iff, grantWaiting_iff, enqueue_iff, implies_true, and_self]
    | split

theorem arrive_iff {ps : List Part} {s₀ : State} (k : CmdKind) (o : Origin) (s : State)
    (hq : ∀ q ∈ ([.mail, .supervisor, .switching, .eventList] : List Part), q ∈ ps) :
    SameBut ps s₀ (arrive k o s) ↔ SameBut ps s₀ s :=
  (arrive_sameBut k o s).iff hq

theorem goPending_sameBut (s : State) : SameBut [.switching] s (goPending s) := by
  unfold goPending
  try dsimp only
  repeat' first
    | simp (disch := decide) only [SameBut.refl_iff, SameBut.ite_iff, stopBandTimers_iff, State.updSwitching_iff, implies_true, and_self]
    | split

theorem goPending_iff {ps : List Part} {s₀ : State} (s : State)
    (hq : ∀ q ∈ ([.switching] : List Part), q ∈ ps) :
    SameBut ps s₀ (goPending s) ↔ SameBut ps s₀ s :=
  (goPending_sameBut s).iff hq

theorem arriveAuto_sameBut (k : CmdKind) (reason : Reason) (s : State) :
    SameBut [.mail, .supervisor, .switching, .eventList] s (arriveAuto k reason s) := by
  unfold arriveAuto
  try dsimp only
  repeat' first
    | simp (disch := decide) only [SameBut.refl_iff, arrive_iff, goPending_iff, implies_true, and_self]
    | split

theorem arriveAuto_iff {ps : List Part} {s₀ : State} (k : CmdKind) (reason : Reason) (s : State)
    (hq : ∀ q ∈ ([.mail, .supervisor, .switching, .eventList] : List Part), q ∈ ps) :
    SameBut ps s₀ (arriveAuto k reason s) ↔ SameBut ps s₀ s :=
  (arriveAuto_sameBut k reason s).iff hq

theorem judgeHigh_sameBut (rise : Nat) (s : State) : SameBut [.mail, .supervisor, .switching, .eventList] s (judgeHigh rise s) := by
  unfold judgeHigh
  try dsimp only
  repeat' first
    | simp (disch := decide) only [SameBut.refl_iff, startSettle_iff, defer_iff, arriveAuto_iff, implies_true, and_self]
    | split

theorem judgeHigh_iff {ps : List Part} {s₀ : State} (rise : Nat) (s : State)
    (hq : ∀ q ∈ ([.mail, .supervisor, .switching, .eventList] : List Part), q ∈ ps) :
    SameBut ps s₀ (judgeHigh rise s) ↔ SameBut ps s₀ s :=
  (judgeHigh_sameBut rise s).iff hq

theorem judgeLow_sameBut (rise : Nat) (s : State) : SameBut [.mail, .supervisor, .switching, .eventList] s (judgeLow rise s) := by
  unfold judgeLow
  try dsimp only
  repeat' first
    | simp (disch := decide) only [SameBut.refl_iff, startSettle_iff, defer_iff, arriveAuto_iff, implies_true, and_self]
    | split

theorem judgeLow_iff {ps : List Part} {s₀ : State} (rise : Nat) (s : State)
    (hq : ∀ q ∈ ([.mail, .supervisor, .switching, .eventList] : List Part), q ∈ ps) :
    SameBut ps s₀ (judgeLow rise s) ↔ SameBut ps s₀ s :=
  (judgeLow_sameBut rise s).iff hq

theorem judgeHeld_sameBut (s : State) : SameBut [.mail, .supervisor, .switching, .eventList] s (judgeHeld s) := by
  unfold judgeHeld
  try dsimp only
  repeat' first
    | simp (disch := decide) only [SameBut.refl_iff, SameBut.ite_iff, judgeHigh_iff, judgeLow_iff, implies_true, and_self]
    | split

theorem judgeHeld_iff {ps : List Part} {s₀ : State} (s : State)
    (hq : ∀ q ∈ ([.mail, .supervisor, .switching, .eventList] : List Part), q ∈ ps) :
    SameBut ps s₀ (judgeHeld s) ↔ SameBut ps s₀ s :=
  (judgeHeld_sameBut s).iff hq

theorem highExpiry_sameBut (s : State) : SameBut [.mail, .supervisor, .switching, .eventList] s (highExpiry s) := by
  unfold highExpiry
  try dsimp only
  repeat' first
    | simp (disch := decide) only [SameBut.refl_iff, SameBut.ite_iff, State.updSwitching_iff, judgeHigh_iff, implies_true, and_self]
    | split

theorem highExpiry_iff {ps : List Part} {s₀ : State} (s : State)
    (hq : ∀ q ∈ ([.mail, .supervisor, .switching, .eventList] : List Part), q ∈ ps) :
    SameBut ps s₀ (highExpiry s) ↔ SameBut ps s₀ s :=
  (highExpiry_sameBut s).iff hq

theorem lowExpiry_sameBut (s : State) : SameBut [.mail, .supervisor, .switching, .eventList] s (lowExpiry s) := by
  unfold lowExpiry
  try dsimp only
  repeat' first
    | simp (disch := decide) only [SameBut.refl_iff, SameBut.ite_iff, State.updSwitching_iff, judgeLow_iff, implies_true, and_self]
    | split

theorem lowExpiry_iff {ps : List Part} {s₀ : State} (s : State)
    (hq : ∀ q ∈ ([.mail, .supervisor, .switching, .eventList] : List Part), q ∈ ps) :
    SameBut ps s₀ (lowExpiry s) ↔ SameBut ps s₀ s :=
  (lowExpiry_sameBut s).iff hq

theorem settleExpiry_sameBut (s : State) : SameBut [.switching] s (settleExpiry s) := by
  unfold settleExpiry
  try dsimp only
  repeat' first
    | simp (disch := decide) only [SameBut.refl_iff, SameBut.ite_iff, State.updSwitching_iff, implies_true, and_self]
    | split

theorem settleExpiry_iff {ps : List Part} {s₀ : State} (s : State)
    (hq : ∀ q ∈ ([.switching] : List Part), q ∈ ps) :
    SameBut ps s₀ (settleExpiry s) ↔ SameBut ps s₀ s :=
  (settleExpiry_sameBut s).iff hq

theorem restoreExpiry_sameBut (s : State) : SameBut [.switching, .eventList] s (restoreExpiry s) := by
  unfold restoreExpiry
  try dsimp only
  repeat' first
    | simp (disch := decide) only [SameBut.refl_iff, SameBut.ite_iff, logEvent_iff, State.updSwitching_iff, implies_true, and_self]
    | split

theorem restoreExpiry_iff {ps : List Part} {s₀ : State} (s : State)
    (hq : ∀ q ∈ ([.switching, .eventList] : List Part), q ∈ ps) :
    SameBut ps s₀ (restoreExpiry s) ↔ SameBut ps s₀ s :=
  (restoreExpiry_sameBut s).iff hq

theorem dropSelection_sameBut (s : State) : SameBut [.mail, .supervisor, .switching, .eventList] s (dropSelection s) := by
  unfold dropSelection
  try dsimp only
  repeat' first
    | simp (disch := decide) only [SameBut.refl_iff, judgeHeld_iff, State.updSwitching_iff, implies_true, and_self]
    | split

theorem dropSelection_iff {ps : List Part} {s₀ : State} (s : State)
    (hq : ∀ q ∈ ([.mail, .supervisor, .switching, .eventList] : List Part), q ∈ ps) :
    SameBut ps s₀ (dropSelection s) ↔ SameBut ps s₀ s :=
  (dropSelection_sameBut s).iff hq

theorem removeSelection_sameBut (k : EventKind) (value : Option Nat) (s : State) :
    SameBut [.mail, .supervisor, .switching, .eventList] s (removeSelection k value s) := by
  unfold removeSelection
  try dsimp only
  repeat' first
    | simp (disch := decide) only [SameBut.refl_iff, judgeHeld_iff, logEvent_iff, State.updSwitching_iff, implies_true, and_self]
    | split

theorem removeSelection_iff {ps : List Part} {s₀ : State} (k : EventKind) (value : Option Nat) (s : State)
   
    (hq : ∀ q ∈ ([.mail, .supervisor, .switching, .eventList] : List Part), q ∈ ps) :
    SameBut ps s₀ (removeSelection k value s) ↔ SameBut ps s₀ s :=
  (removeSelection_sameBut k value s).iff hq

theorem settleAtRelease_sameBut (s : State) : SameBut [.switching, .eventList] s (settleAtRelease s) := by
  unfold settleAtRelease
  try dsimp only
  repeat' first
    | simp (disch := decide) only [SameBut.refl_iff, startSettle_iff, withdrawAuto_iff, implies_true, and_self]
    | split

theorem settleAtRelease_iff {ps : List Part} {s₀ : State} (s : State)
    (hq : ∀ q ∈ ([.switching, .eventList] : List Part), q ∈ ps) :
    SameBut ps s₀ (settleAtRelease s) ↔ SameBut ps s₀ s :=
  (settleAtRelease_sameBut s).iff hq

theorem settleAtMove_sameBut (s : State) : SameBut [.switching, .eventList] s (settleAtMove s) := by
  unfold settleAtMove
  try dsimp only
  repeat' first
    | simp (disch := decide) only [SameBut.refl_iff, SameBut.ite_iff, startSettle_iff, withdrawAuto_iff, implies_true, and_self]
    | split

theorem settleAtMove_iff {ps : List Part} {s₀ : State} (s : State)
    (hq : ∀ q ∈ ([.switching, .eventList] : List Part), q ∈ ps) :
    SameBut ps s₀ (settleAtMove s) ↔ SameBut ps s₀ s :=
  (settleAtMove_sameBut s).iff hq

theorem forceManual_sameBut (s : State) : SameBut [.switching, .eventList] s (forceManual s) := by
  unfold forceManual
  try dsimp only
  repeat' first
    | simp (disch := decide) only [SameBut.refl_iff, SameBut.ite_iff, withdrawAuto_iff, stopBandTimers_iff, State.updSwitching_iff,
     implies_true, and_self]
    | split

theorem forceManual_iff {ps : List Part} {s₀ : State} (s : State)
    (hq : ∀ q ∈ ([.switching, .eventList] : List Part), q ∈ ps) :
    SameBut ps s₀ (forceManual s) ↔ SameBut ps s₀ s :=
  (forceManual_sameBut s).iff hq

theorem yardFoundDamaged_sameBut (s : State) : SameBut [.switching, .eventList] s (yardFoundDamaged s) := by
  unfold yardFoundDamaged
  try dsimp only
  repeat' first
    | simp (disch := decide) only [SameBut.refl_iff, forceManual_iff, State.updSwitching_iff, implies_true, and_self]
    | split

theorem yardFoundDamaged_iff {ps : List Part} {s₀ : State} (s : State)
    (hq : ∀ q ∈ ([.switching, .eventList] : List Part), q ∈ ps) :
    SameBut ps s₀ (yardFoundDamaged s) ↔ SameBut ps s₀ s :=
  (yardFoundDamaged_sameBut s).iff hq

theorem deadLineTrip_sameBut (i : Fin 8) (s : State) : SameBut [.mail] s (deadLineTrip i s) := by
  unfold deadLineTrip
  try dsimp only
  repeat' first
    | simp (disch := decide) only [SameBut.refl_iff, hand_iff, implies_true, and_self]
    | split

theorem deadLineTrip_iff {ps : List Part} {s₀ : State} (i : Fin 8) (s : State)
    (hq : ∀ q ∈ ([.mail] : List Part), q ∈ ps) :
    SameBut ps s₀ (deadLineTrip i s) ↔ SameBut ps s₀ s :=
  (deadLineTrip_sameBut i s).iff hq

theorem tripEnergised_sameBut (s : State) : SameBut [.mail] s (tripEnergised s) := by
  unfold tripEnergised
  try dsimp only
  repeat' first
    | simp (disch := decide) only [SameBut.refl_iff, SameBut.ite_iff, deadLineTrip_iff, implies_true, and_self]
    | with_reducible refine .foldl_of ?_ fun s a => ?_
    | with_reducible refine And.intro ?_ ?_
    | intro _
    | split

theorem tripEnergised_iff {ps : List Part} {s₀ : State} (s : State)
    (hq : ∀ q ∈ ([.mail] : List Part), q ∈ ps) :
    SameBut ps s₀ (tripEnergised s) ↔ SameBut ps s₀ s :=
  (tripEnergised_sameBut s).iff hq

theorem logRemoved_sameBut (s : State) (e : QueueEntry) : SameBut [.eventList] s (logRemoved s e) := by
  unfold logRemoved
  try dsimp only
  repeat' first
    | simp (disch := decide) only [SameBut.refl_iff, refuse_iff, defer_iff, implies_true, and_self]
    | split

theorem logRemoved_iff {ps : List Part} {s₀ : State} (s : State) (e : QueueEntry)
    (hq : ∀ q ∈ ([.eventList] : List Part), q ∈ ps) :
    SameBut ps s₀ (logRemoved s e) ↔ SameBut ps s₀ s :=
  (logRemoved_sameBut s e).iff hq

theorem removeCloses_sameBut (s : State) : SameBut [.switching, .eventList] s (removeCloses s) := by
  unfold removeCloses
  try dsimp only
  repeat' first
    | simp (disch := decide) only [SameBut.refl_iff, logRemoved_iff, State.updSwitching_iff, implies_true, and_self]
    | with_reducible refine .foldl_of ?_ fun s a => ?_
    | with_reducible refine And.intro ?_ ?_
    | intro _
    | split

theorem removeCloses_iff {ps : List Part} {s₀ : State} (s : State)
    (hq : ∀ q ∈ ([.switching, .eventList] : List Part), q ∈ ps) :
    SameBut ps s₀ (removeCloses s) ↔ SameBut ps s₀ s :=
  (removeCloses_sameBut s).iff hq

theorem enterDead_sameBut (s : State) : SameBut [.mail, .switching, .eventList] s (enterDead s) := by
  unfold enterDead
  try dsimp only
  repeat' first
    | simp (disch := decide) only [SameBut.refl_iff, SameBut.ite_iff, logEvent_iff, State.updSwitching_iff, hand_iff, tripEnergised_iff, implies_true, and_self]
    | split

theorem enterDead_iff {ps : List Part} {s₀ : State} (s : State)
    (hq : ∀ q ∈ ([.mail, .switching, .eventList] : List Part), q ∈ ps) :
    SameBut ps s₀ (enterDead s) ↔ SameBut ps s₀ s :=
  (enterDead_sameBut s).iff hq

theorem goDead_sameBut (s : State) : SameBut [.mail, .supervisor, .switching, .eventList] s (goDead s) := by
  unfold goDead
  try dsimp only
  repeat' first
    | simp (disch := decide) only [SameBut.refl_iff, State.updSwitching_iff, enterDead_iff, removeSelection_iff,
     removeCloses_iff, stopBandTimers_iff, implies_true, and_self]
    | split

theorem goDead_iff {ps : List Part} {s₀ : State} (s : State)
    (hq : ∀ q ∈ ([.mail, .supervisor, .switching, .eventList] : List Part), q ∈ ps) :
    SameBut ps s₀ (goDead s) ↔ SameBut ps s₀ s :=
  (goDead_sameBut s).iff hq

theorem lineRules_sameBut (s : State) : SameBut [.mail, .supervisor, .switching, .eventList] s (lineRules s) := by
  unfold lineRules
  try dsimp only
  repeat' first
    | simp (disch := decide) only [SameBut.refl_iff, SameBut.ite_iff, State.updSwitching_iff, goDead_iff, logEvent_iff, implies_true,
     and_self]
    | split

theorem lineRules_iff {ps : List Part} {s₀ : State} (s : State)
    (hq : ∀ q ∈ ([.mail, .supervisor, .switching, .eventList] : List Part), q ∈ ps) :
    SameBut ps s₀ (lineRules s) ↔ SameBut ps s₀ s :=
  (lineRules_sameBut s).iff hq

theorem bandRules_sameBut (s : State) : SameBut [.switching] s (bandRules s) := by
  unfold bandRules
  try dsimp only
  repeat' first
    | simp (disch := decide) only [SameBut.refl_iff, SameBut.ite_iff, State.updSwitching_iff, implies_true, and_self]
    | split

theorem bandRules_iff {ps : List Part} {s₀ : State} (s : State)
    (hq : ∀ q ∈ ([.switching] : List Part), q ∈ ps) :
    SameBut ps s₀ (bandRules s) ↔ SameBut ps s₀ s :=
  (bandRules_sameBut s).iff hq

theorem formControlQuantity_sameBut (s : State) : SameBut [.switching, .eventList] s (formControlQuantity s) := by
  unfold formControlQuantity
  try dsimp only
  repeat' first
    | simp (disch := decide) only [SameBut.refl_iff, SameBut.ite_iff, State.updSwitching_iff, logEvent_iff, implies_true, and_self]
    | split

theorem formControlQuantity_iff {ps : List Part} {s₀ : State} (s : State)
    (hq : ∀ q ∈ ([.switching, .eventList] : List Part), q ∈ ps) :
    SameBut ps s₀ (formControlQuantity s) ↔ SameBut ps s₀ s :=
  (formControlQuantity_sameBut s).iff hq

theorem takeLimits_sameBut (s : State) : SameBut [.switching] s (takeLimits s) := by
  unfold takeLimits
  repeat' first
    | simp (disch := decide) only [SameBut.refl_iff, SameBut.ite_iff, State.updSwitching_iff, implies_true, and_self]
    | split

theorem takeLimits_iff {ps : List Part} {s₀ : State} (s : State) (hq : ∀ q ∈ ([.switching] : List Part), q ∈ ps) :
    SameBut ps s₀ (takeLimits s) ↔ SameBut ps s₀ s :=
  (takeLimits_sameBut s).iff hq

theorem controlEvaluation_sameBut (s : State) :
    SameBut [.mail, .supervisor, .switching, .eventList] s (controlEvaluation s) := by
  unfold controlEvaluation
  try dsimp only
  repeat' first
    | simp (disch := decide) only [SameBut.refl_iff, SameBut.ite_iff, formControlQuantity_iff, takeLimits_iff, lineRules_iff, bandRules_iff,
     implies_true, and_self]
    | split

theorem controlEvaluation_iff {ps : List Part} {s₀ : State} (s : State)
    (hq : ∀ q ∈ ([.mail, .supervisor, .switching, .eventList] : List Part), q ∈ ps) :
    SameBut ps s₀ (controlEvaluation s) ↔ SameBut ps s₀ s :=
  (controlEvaluation_sameBut s).iff hq

theorem releaseSlot_sameBut (t : Fin 9) (s : State) : SameBut [.switching] s (releaseSlot t s) := by
  unfold releaseSlot
  try dsimp only
  repeat' first
    | simp (disch := decide) only [SameBut.refl_iff, SameBut.ite_iff, State.updSwitching_iff, implies_true, and_self]
    | split

theorem releaseSlot_iff {ps : List Part} {s₀ : State} (t : Fin 9) (s : State)
    (hq : ∀ q ∈ ([.switching] : List Part), q ∈ ps) :
    SameBut ps s₀ (releaseSlot t s) ↔ SameBut ps s₀ s :=
  (releaseSlot_sameBut t s).iff hq

theorem releaseByReport_sameBut (r : StepReport) (s : State) :
    SameBut [.switching, .eventList] s (releaseByReport r s) := by
  unfold releaseByReport
  try dsimp only
  repeat' first
    | simp (disch := decide) only [SameBut.refl_iff, SameBut.ite_iff, releaseSlot_iff, logEvent_iff, settleAtRelease_iff, implies_true,
     and_self]
    | split

theorem releaseByReport_iff {ps : List Part} {s₀ : State} (r : StepReport) (s : State)
    (hq : ∀ q ∈ ([.switching, .eventList] : List Part), q ∈ ps) :
    SameBut ps s₀ (releaseByReport r s) ↔ SameBut ps s₀ s :=
  (releaseByReport_sameBut r s).iff hq

theorem selectionByReport_sameBut (r : StepReport) (s : State) :
    SameBut [.mail, .supervisor, .switching, .eventList] s (selectionByReport r s) := by
  unfold selectionByReport
  try dsimp only
  repeat' first
    | simp (disch := decide) only [SameBut.refl_iff, SameBut.ite_iff, removeSelection_iff, implies_true, and_self]
    | split

theorem selectionByReport_iff {ps : List Part} {s₀ : State} (r : StepReport) (s : State)
    (hq : ∀ q ∈ ([.mail, .supervisor, .switching, .eventList] : List Part), q ∈ ps) :
    SameBut ps s₀ (selectionByReport r s) ↔ SameBut ps s₀ s :=
  (selectionByReport_sameBut r s).iff hq

theorem settleByReport_sameBut (r : StepReport) (s : State) : SameBut [.switching, .eventList] s (settleByReport r s) := by
  unfold settleByReport
  try dsimp only
  repeat' first
    | simp (disch := decide) only [SameBut.refl_iff, SameBut.ite_iff, releaseByReport_iff, settleAtMove_iff, implies_true, and_self]
    | split

theorem settleByReport_iff {ps : List Part} {s₀ : State} (r : StepReport) (s : State)
    (hq : ∀ q ∈ ([.switching, .eventList] : List Part), q ∈ ps) :
    SameBut ps s₀ (settleByReport r s) ↔ SameBut ps s₀ s :=
  (settleByReport_sameBut r s).iff hq

theorem tripInDead_sameBut (r : StepReport) (s : State) : SameBut [.mail] s (tripInDead r s) := by
  unfold tripInDead
  try dsimp only
  repeat' first
    | simp (disch := decide) only [SameBut.refl_iff, SameBut.ite_iff, deadLineTrip_iff, implies_true, and_self]
    | split

theorem tripInDead_iff {ps : List Part} {s₀ : State} (r : StepReport) (s : State)
    (hq : ∀ q ∈ ([.mail] : List Part), q ∈ ps) :
    SameBut ps s₀ (tripInDead r s) ↔ SameBut ps s₀ s :=
  (tripInDead_sameBut r s).iff hq

theorem controlReport_sameBut (r : StepReport) (s : State) :
    SameBut [.mail, .supervisor, .switching, .eventList] s (controlReport r s) := by
  unfold controlReport
  try dsimp only
  repeat' first
    | simp (disch := decide) only [SameBut.refl_iff, SameBut.ite_iff, settleByReport_iff, selectionByReport_iff,
     tripInDead_iff, grantWaiting_iff, implies_true, and_self]
    | split

theorem controlReport_iff {ps : List Part} {s₀ : State} (r : StepReport) (s : State)
    (hq : ∀ q ∈ ([.mail, .supervisor, .switching, .eventList] : List Part), q ∈ ps) :
    SameBut ps s₀ (controlReport r s) ↔ SameBut ps s₀ s :=
  (controlReport_sameBut r s).iff hq

theorem switchEvent_sameBut (i : Fin 8) (k : CmdKind) (r : SwitchResult) (s : State) :
    SameBut [.eventList] s (switchEvent i k r s) := by
  unfold switchEvent
  try dsimp only
  repeat' first
    | simp (disch := decide) only [SameBut.refl_iff, SameBut.ite_iff, logEvent_iff, implies_true, and_self]
    | split

theorem switchEvent_iff {ps : List Part} {s₀ : State} (i : Fin 8) (k : CmdKind) (r : SwitchResult) (s : State)
   
    (hq : ∀ q ∈ ([.eventList] : List Part), q ∈ ps) :
    SameBut ps s₀ (switchEvent i k r s) ↔ SameBut ps s₀ s :=
  (switchEvent_sameBut i k r s).iff hq

theorem incomerEvent_sameBut (k : CmdKind) (r : IncomerResult) (s : State) :
    SameBut [.eventList] s (incomerEvent k r s) := by
  unfold incomerEvent
  try dsimp only
  repeat' first
    | simp (disch := decide) only [SameBut.refl_iff, logEvent_iff, refuse_iff, implies_true, and_self]
    | split

theorem incomerEvent_iff {ps : List Part} {s₀ : State} (k : CmdKind) (r : IncomerResult) (s : State)
   
    (hq : ∀ q ∈ ([.eventList] : List Part), q ∈ ps) :
    SameBut ps s₀ (incomerEvent k r s) ↔ SameBut ps s₀ s :=
  (incomerEvent_sameBut k r s).iff hq

theorem endIncomer_sameBut (k : CmdKind) (r : IncomerResult) (s : State) : SameBut [.switching, .eventList] s (endIncomer k r s) := by
  unfold endIncomer
  try dsimp only
  repeat' first
    | simp (disch := decide) only [SameBut.refl_iff, SameBut.ite_iff, incomerEvent_iff, releaseSlot_iff, settleAtRelease_iff, implies_true, and_self]
    | split

theorem endIncomer_iff {ps : List Part} {s₀ : State} (k : CmdKind) (r : IncomerResult) (s : State)
    (hq : ∀ q ∈ ([.switching, .eventList] : List Part), q ∈ ps) :
    SameBut ps s₀ (endIncomer k r s) ↔ SameBut ps s₀ s :=
  (endIncomer_sameBut k r s).iff hq

theorem takeIncomerOutcome_sameBut (k : CmdKind) (r : IncomerResult) (s : State) :
    SameBut [.mail, .supervisor, .switching, .eventList] s (takeIncomerOutcome k r s) := by
  unfold takeIncomerOutcome
  try dsimp only
  repeat' first
    | simp (disch := decide) only [SameBut.refl_iff, SameBut.ite_iff, endIncomer_iff, grantWaiting_iff, implies_true, and_self]
    | split

theorem takeIncomerOutcome_iff {ps : List Part} {s₀ : State} (k : CmdKind) (r : IncomerResult) (s : State)
   
    (hq : ∀ q ∈ ([.mail, .supervisor, .switching, .eventList] : List Part), q ∈ ps) :
    SameBut ps s₀ (takeIncomerOutcome k r s) ↔ SameBut ps s₀ s :=
  (takeIncomerOutcome_sameBut k r s).iff hq

theorem takeDetune_sameBut (s : State) : SameBut [.mail, .supervisor, .switching, .eventList] s (takeDetune s) := by
  unfold takeDetune
  try dsimp only
  repeat' first
    | simp (disch := decide) only [SameBut.refl_iff, SameBut.ite_iff, arriveAuto_iff, implies_true, and_self]
    | split

theorem takeDetune_iff {ps : List Part} {s₀ : State} (s : State)
    (hq : ∀ q ∈ ([.mail, .supervisor, .switching, .eventList] : List Part), q ∈ ps) :
    SameBut ps s₀ (takeDetune s) ↔ SameBut ps s₀ s :=
  (takeDetune_sameBut s).iff hq

theorem expireReached_sameBut (s : State) : SameBut [.mail, .supervisor, .switching, .eventList] s (expireReached s) := by
  unfold expireReached
  try dsimp only
  repeat' first
    | simp (disch := decide) only [SameBut.refl_iff, SameBut.ite_iff, highExpiry_iff, lowExpiry_iff, settleExpiry_iff, restoreExpiry_iff,
     implies_true, and_self]
    | split

theorem expireReached_iff {ps : List Part} {s₀ : State} (s : State)
    (hq : ∀ q ∈ ([.mail, .supervisor, .switching, .eventList] : List Part), q ∈ ps) :
    SameBut ps s₀ (expireReached s) ↔ SameBut ps s₀ s :=
  (expireReached_sameBut s).iff hq

theorem actOnPublication_sameBut (m : Fin 38) (s : State) :
    SameBut [.mail, .harmonic, .unbalance, .duty, .supervisor, .switching, .memory, .eventList] s (actOnPublication m s) := by
  unfold actOnPublication
  try dsimp only
  repeat' first
    | simp (disch := decide) only [SameBut.refl_iff, SameBut.ite_iff, harmonicPublication_iff, unbalanceEvaluate_iff, heatUpdate_iff,
     controlEvaluation_iff, implies_true, and_self]
    | split

theorem actOnPublication_iff {ps : List Part} {s₀ : State} (m : Fin 38) (s : State)
    (hq : ∀ q ∈ ([.mail, .harmonic, .unbalance, .duty, .supervisor, .switching, .memory, .eventList] : List Part), q ∈ ps) :
    SameBut ps s₀ (actOnPublication m s) ↔ SameBut ps s₀ s :=
  (actOnPublication_sameBut m s).iff hq

theorem markChange_sameBut (before s : State) : SameBut [.reports] s (markChange before s) := by
  unfold markChange; split
  · constructor; intro p hp; cases p <;> simp_all [Part.same]
  · exact SameBut.refl _ s

theorem markChange_iff {ps : List Part} {s₀ : State} (before s : State)
    (hq : ∀ q ∈ ([.reports] : List Part), q ∈ ps) :
    SameBut ps s₀ (markChange before s) ↔ SameBut ps s₀ s :=
  (markChange_sameBut before s).iff hq

theorem publish_sameBut (m : Fin 38) (record : ResultRecord) (s : State) :
    SameBut publishParts s (publish m record s) := by
  unfold publish
  try dsimp only
  repeat' first
    | simp (disch := decide) only [SameBut.refl_iff, markChange_iff, actOnPublication_iff, engine_iff, implies_true, and_self]
    | split

theorem publish_iff {ps : List Part} {s₀ : State} (m : Fin 38) (record : ResultRecord) (s : State)
    (hq : ∀ q ∈ publishParts, q ∈ ps) :
    SameBut ps s₀ (publish m record s) ↔ SameBut ps s₀ s :=
  (publish_sameBut m record s).iff hq

theorem publishInvalid_sameBut (m : Fin 38) (s : State) :
    SameBut publishParts s (publishInvalid m s) := by
  unfold publishInvalid
  try dsimp only
  repeat' first
    | simp (disch := decide) only [SameBut.refl_iff, publish_iff, implies_true, and_self]
    | split

theorem publishInvalid_iff {ps : List Part} {s₀ : State} (m : Fin 38) (s : State)
    (hq : ∀ q ∈ publishParts, q ∈ ps) :
    SameBut ps s₀ (publishInvalid m s) ↔ SameBut ps s₀ s :=
  (publishInvalid_sameBut m s).iff hq

theorem setWindow_sameBut (m : Fin 38) (w : Fin 2) (x : Window) (s : State) :
    SameBut [.acceptance] s (setWindow m w x s) := by
  unfold setWindow
  try dsimp only
  repeat' first
    | simp (disch := decide) only [SameBut.refl_iff, State.updInput_iff, implies_true, and_self]
    | split

theorem setWindow_iff {ps : List Part} {s₀ : State} (m : Fin 38) (w : Fin 2) (x : Window) (s : State)
   
    (hq : ∀ q ∈ ([.acceptance] : List Part), q ∈ ps) :
    SameBut ps s₀ (setWindow m w x s) ↔ SameBut ps s₀ s :=
  (setWindow_sameBut m w x s).iff hq

theorem setNotice_sameBut (m : Fin 38) (x : Option (Vector Bool 2)) (s : State) :
    SameBut [.engine] s (setNotice m x s) := by
  unfold setNotice
  try dsimp only
  repeat' first
    | simp (disch := decide) only [SameBut.refl_iff, engine_iff, implies_true, and_self]
    | split

theorem setNotice_iff {ps : List Part} {s₀ : State} (m : Fin 38) (x : Option (Vector Bool 2)) (s : State)
   
    (hq : ∀ q ∈ ([.engine] : List Part), q ∈ ps) :
    SameBut ps s₀ (setNotice m x s) ↔ SameBut ps s₀ s :=
  (setNotice_sameBut m x s).iff hq

theorem settleNotice_sameBut (m : Fin 38) (s : State) :
    SameBut publishParts s (settleNotice m s) := by
  unfold settleNotice
  try dsimp only
  repeat' first
    | simp (disch := decide) only [SameBut.refl_iff, SameBut.ite_iff, publishInvalid_iff, setNotice_iff, implies_true, and_self]
    | split

theorem settleNotice_iff {ps : List Part} {s₀ : State} (m : Fin 38) (s : State)
    (hq : ∀ q ∈ publishParts, q ∈ ps) :
    SameBut ps s₀ (settleNotice m s) ↔ SameBut ps s₀ s :=
  (settleNotice_sameBut m s).iff hq

theorem endWait_sameBut (m : Fin 38) (w : Fin 2) (s : State) :
    SameBut publishParts s (endWait m w s) := by
  unfold endWait
  try dsimp only
  repeat' first
    | simp (disch := decide) only [SameBut.refl_iff, settleNotice_iff, setNotice_iff, implies_true, and_self]
    | split

theorem endWait_iff {ps : List Part} {s₀ : State} (m : Fin 38) (w : Fin 2) (s : State)
    (hq : ∀ q ∈ publishParts, q ∈ ps) :
    SameBut ps s₀ (endWait m w s) ↔ SameBut ps s₀ s :=
  (endWait_sameBut m w s).iff hq

theorem handNotice_sameBut (m : Fin 38) (s : State) :
    SameBut publishParts s (handNotice m s) := by
  unfold handNotice
  try dsimp only
  repeat' first
    | simp (disch := decide) only [SameBut.refl_iff, settleNotice_iff, setNotice_iff, implies_true, and_self]
    | split

theorem handNotice_iff {ps : List Part} {s₀ : State} (m : Fin 38) (s : State)
    (hq : ∀ q ∈ publishParts, q ∈ ps) :
    SameBut ps s₀ (handNotice m s) ↔ SameBut ps s₀ s :=
  (handNotice_sameBut m s).iff hq

theorem engineTake_sameBut (s : State) : SameBut [.acceptance, .engine] s (engineTake s) := by
  unfold engineTake
  try dsimp only
  repeat' first
    | simp (disch := decide) only [SameBut.refl_iff, setWindow_iff, engine_iff, implies_true, and_self]
    | split

theorem engineTake_iff {ps : List Part} {s₀ : State} (s : State)
    (hq : ∀ q ∈ ([.acceptance, .engine] : List Part), q ∈ ps) :
    SameBut ps s₀ (engineTake s) ↔ SameBut ps s₀ s :=
  (engineTake_sameBut s).iff hq

theorem enqueueWindow_sameBut (m : Fin 38) (s : State) : SameBut [.acceptance, .engine] s (enqueueWindow m s) := by
  unfold enqueueWindow
  try dsimp only
  repeat' first
    | simp (disch := decide) only [SameBut.refl_iff, engineTake_iff, engine_iff, implies_true, and_self]
    | split

theorem enqueueWindow_iff {ps : List Part} {s₀ : State} (m : Fin 38) (s : State)
    (hq : ∀ q ∈ ([.acceptance, .engine] : List Part), q ∈ ps) :
    SameBut ps s₀ (enqueueWindow m s) ↔ SameBut ps s₀ s :=
  (enqueueWindow_sameBut m s).iff hq

theorem computationEnds_sameBut (s : State) :
    SameBut breakParts s (computationEnds s) := by
  unfold computationEnds
  try dsimp only
  repeat' first
    | simp (disch := decide) only [SameBut.refl_iff, SameBut.ite_iff, setWindow_iff, publish_iff, engineTake_iff, endWait_iff, engine_iff,
     implies_true, and_self]
    | split

theorem computationEnds_iff {ps : List Part} {s₀ : State} (s : State)
    (hq : ∀ q ∈ breakParts, q ∈ ps) :
    SameBut ps s₀ (computationEnds s) ↔ SameBut ps s₀ s :=
  (computationEnds_sameBut s).iff hq

theorem withdrawWindow_sameBut (m : Fin 38) (s : State) (w : Fin 2) :
    SameBut breakParts s (withdrawWindow m s w) := by
  unfold withdrawWindow
  try dsimp only
  repeat' first
    | simp (disch := decide) only [SameBut.refl_iff, setWindow_iff, endWait_iff, engine_iff, implies_true, and_self]
    | split

theorem withdrawWindow_iff {ps : List Part} {s₀ : State} (m : Fin 38) (s : State) (w : Fin 2)
    (hq : ∀ q ∈ breakParts, q ∈ ps) :
    SameBut ps s₀ (withdrawWindow m s w) ↔ SameBut ps s₀ s :=
  (withdrawWindow_sameBut m s w).iff hq

theorem withdrawInput_sameBut (m : Fin 38) (s : State) :
    SameBut breakParts s (withdrawInput m s) := by
  unfold withdrawInput
  try dsimp only
  repeat' first
    | simp (disch := decide) only [SameBut.refl_iff, withdrawWindow_iff, implies_true, and_self]
    | with_reducible refine .foldl_of ?_ fun s a => ?_
    | with_reducible refine And.intro ?_ ?_
    | intro _
    | split

theorem withdrawInput_iff {ps : List Part} {s₀ : State} (m : Fin 38) (s : State)
    (hq : ∀ q ∈ breakParts, q ∈ ps) :
    SameBut ps s₀ (withdrawInput m s) ↔ SameBut ps s₀ s :=
  (withdrawInput_sameBut m s).iff hq

theorem ageTick_sameBut (s : State) : SameBut [.engine] s (ageTick s) := by
  unfold ageTick
  try dsimp only
  repeat' first
    | simp (disch := decide) only [SameBut.refl_iff, SameBut.ite_iff, engine_iff, implies_true, and_self]
    | split

theorem ageTick_iff {ps : List Part} {s₀ : State} (s : State)
    (hq : ∀ q ∈ ([.engine] : List Part), q ∈ ps) :
    SameBut ps s₀ (ageTick s) ↔ SameBut ps s₀ s :=
  (ageTick_sameBut s).iff hq

theorem takeHold_sameBut (s : State) : SameBut [.engine] s (takeHold s) := by
  unfold takeHold
  try dsimp only
  repeat' first
    | simp (disch := decide) only [SameBut.refl_iff, engine_iff, implies_true, and_self]
    | split

theorem takeHold_iff {ps : List Part} {s₀ : State} (s : State)
    (hq : ∀ q ∈ ([.engine] : List Part), q ∈ ps) :
    SameBut ps s₀ (takeHold s) ↔ SameBut ps s₀ s :=
  (takeHold_sameBut s).iff hq

theorem endHold_sameBut (s : State) : SameBut [.engine] s (endHold s) := by
  unfold endHold
  try dsimp only
  repeat' first
    | simp (disch := decide) only [SameBut.refl_iff, engine_iff, implies_true, and_self]
    | split

theorem endHold_iff {ps : List Part} {s₀ : State} (s : State)
    (hq : ∀ q ∈ ([.engine] : List Part), q ∈ ps) :
    SameBut ps s₀ (endHold s) ↔ SameBut ps s₀ s :=
  (endHold_sameBut s).iff hq

theorem setFill_sameBut (m : Fin 38) (x : FillState) (s : State) : SameBut [.acceptance] s (setFill m x s) := by
  unfold setFill
  try dsimp only
  repeat' first
    | simp (disch := decide) only [SameBut.refl_iff, State.updInput_iff, implies_true, and_self]
    | split

theorem setFill_iff {ps : List Part} {s₀ : State} (m : Fin 38) (x : FillState) (s : State)
    (hq : ∀ q ∈ ([.acceptance] : List Part), q ∈ ps) :
    SameBut ps s₀ (setFill m x s) ↔ SameBut ps s₀ s :=
  (setFill_sameBut m x s).iff hq

theorem discardTo_sameBut (x : FillState) (m : Fin 38) (s : State) : SameBut [.acceptance] s (discardTo x m s) := by
  unfold discardTo
  try dsimp only
  repeat' first
    | simp (disch := decide) only [SameBut.refl_iff, State.updInput_iff, implies_true, and_self]
    | split

theorem discardTo_iff {ps : List Part} {s₀ : State} (x : FillState) (m : Fin 38) (s : State)
    (hq : ∀ q ∈ ([.acceptance] : List Part), q ∈ ps) :
    SameBut ps s₀ (discardTo x m s) ↔ SameBut ps s₀ s :=
  (discardTo_sameBut x m s).iff hq

theorem breakInput_sameBut (m : Fin 38) (s : State) :
    SameBut breakParts s (breakInput m s) := by
  unfold breakInput
  try dsimp only
  repeat' first
    | simp (disch := decide) only [SameBut.refl_iff, handNotice_iff, discardTo_iff, implies_true, and_self]
    | split

theorem breakInput_iff {ps : List Part} {s₀ : State} (m : Fin 38) (s : State)
    (hq : ∀ q ∈ breakParts, q ∈ ps) :
    SameBut ps s₀ (breakInput m s) ↔ SameBut ps s₀ s :=
  (breakInput_sameBut m s).iff hq

theorem abandonInput_sameBut (s : State) (m : Fin 38) :
    SameBut breakParts s (abandonInput s m) := by
  unfold abandonInput
  try dsimp only
  repeat' first
    | simp (disch := decide) only [SameBut.refl_iff, SameBut.ite_iff, breakInput_iff, implies_true, and_self]
    | split

theorem abandonInput_iff {ps : List Part} {s₀ : State} (s : State) (m : Fin 38)
    (hq : ∀ q ∈ breakParts, q ∈ ps) :
    SameBut ps s₀ (abandonInput s m) ↔ SameBut ps s₀ s :=
  (abandonInput_sameBut s m).iff hq

theorem abandonRow_sameBut (i : Fin 16) (s : State) :
    SameBut breakParts s (abandonRow i s) := by
  unfold abandonRow
  try dsimp only
  repeat' first
    | simp (disch := decide) only [SameBut.refl_iff, State.updStream_iff, abandonInput_iff, implies_true, and_self]
    | with_reducible refine .foldl_of ?_ fun s a => ?_
    | with_reducible refine And.intro ?_ ?_
    | intro _
    | split

theorem abandonRow_iff {ps : List Part} {s₀ : State} (i : Fin 16) (s : State)
    (hq : ∀ q ∈ breakParts, q ∈ ps) :
    SameBut ps s₀ (abandonRow i s) ↔ SameBut ps s₀ s :=
  (abandonRow_sameBut i s).iff hq

theorem countOverrun_sameBut (m : Fin 38) (s : State) : SameBut [.acceptance] s (countOverrun m s) := by
  unfold countOverrun
  try dsimp only
  repeat' first
    | simp (disch := decide) only [SameBut.refl_iff, State.updInput_iff, implies_true, and_self]
    | split

theorem countOverrun_iff {ps : List Part} {s₀ : State} (m : Fin 38) (s : State)
    (hq : ∀ q ∈ ([.acceptance] : List Part), q ∈ ps) :
    SameBut ps s₀ (countOverrun m s) ↔ SameBut ps s₀ s :=
  (countOverrun_sameBut m s).iff hq

theorem windowBoundary_sameBut (m : Fin 38) (w : Fin 2) (s : State) :
    SameBut breakParts s (windowBoundary m w s) := by
  unfold windowBoundary
  try dsimp only
  repeat' first
    | simp (disch := decide) only [SameBut.refl_iff, setWindow_iff, endWait_iff, countOverrun_iff, enqueueWindow_iff, setFill_iff,
     implies_true, and_self]
    | split

theorem windowBoundary_iff {ps : List Part} {s₀ : State} (m : Fin 38) (w : Fin 2) (s : State)
    (hq : ∀ q ∈ breakParts, q ∈ ps) :
    SameBut ps s₀ (windowBoundary m w s) ↔ SameBut ps s₀ s :=
  (windowBoundary_sameBut m w s).iff hq

theorem storeValue_sameBut (m : Fin 38) (c : Nat) (value : Int) (doubtful : Bool) (w : Fin 2) (s : State) :
    SameBut breakParts s (storeValue m c value doubtful w s) := by
  unfold storeValue
  try dsimp only
  repeat' first
    | simp (disch := decide) only [SameBut.refl_iff, SameBut.ite_iff, setWindow_iff, windowBoundary_iff, implies_true, and_self]
    | split

theorem storeValue_iff {ps : List Part} {s₀ : State} (m : Fin 38) (c : Nat) (value : Int) (doubtful : Bool)
    (w : Fin 2) (s : State)
    (hq : ∀ q ∈ breakParts, q ∈ ps) :
    SameBut ps s₀ (storeValue m c value doubtful w s) ↔ SameBut ps s₀ s :=
  (storeValue_sameBut m c value doubtful w s).iff hq

theorem placeReceived_sameBut (m : Fin 38) (c : Nat) (value : Int) (doubtful : Bool) (s : State) :
    SameBut frameParts s (placeReceived m c value doubtful s) := by
  unfold placeReceived
  try dsimp only
  repeat' first
    | simp (disch := decide) only [SameBut.refl_iff, SameBut.ite_iff, handSample_iff, setFill_iff, setWindow_iff, countOverrun_iff,
     storeValue_iff, implies_true, and_self]
    | split

theorem placeReceived_iff {ps : List Part} {s₀ : State} (m : Fin 38) (c : Nat) (value : Int) (doubtful : Bool)
    (s : State)
    (hq : ∀ q ∈ frameParts, q ∈ ps) :
    SameBut ps s₀ (placeReceived m c value doubtful s) ↔ SameBut ps s₀ s :=
  (placeReceived_sameBut m c value doubtful s).iff hq

theorem placeFilled_sameBut (m : Fin 38) (c : Nat) (value : Int) (s : State) :
    SameBut frameParts s (placeFilled m c value s) := by
  unfold placeFilled
  try dsimp only
  repeat' first
    | simp (disch := decide) only [SameBut.refl_iff, SameBut.ite_iff, handSample_iff, storeValue_iff, implies_true, and_self]
    | split

theorem placeFilled_iff {ps : List Part} {s₀ : State} (m : Fin 38) (c : Nat) (value : Int) (s : State)
   
    (hq : ∀ q ∈ frameParts, q ∈ ps) :
    SameBut ps s₀ (placeFilled m c value s) ↔ SameBut ps s₀ s :=
  (placeFilled_sameBut m c value s).iff hq

theorem fillCounter_sameBut (i : Fin 16) (c : Nat) (s : State) :
    SameBut frameParts s (fillCounter i c s) := by
  unfold fillCounter
  try dsimp only
  repeat' first
    | simp (disch := decide) only [SameBut.refl_iff, placeFilled_iff, implies_true, and_self]
    | with_reducible refine .foldl_of ?_ fun s a => ?_
    | with_reducible refine And.intro ?_ ?_
    | intro _
    | split

theorem fillCounter_iff {ps : List Part} {s₀ : State} (i : Fin 16) (c : Nat) (s : State)
    (hq : ∀ q ∈ frameParts, q ∈ ps) :
    SameBut ps s₀ (fillCounter i c s) ↔ SameBut ps s₀ s :=
  (fillCounter_sameBut i c s).iff hq

theorem enterCounter_sameBut (i : Fin 16) (c : Nat) (s : State) : SameBut [.acceptance] s (enterCounter i c s) := by
  unfold enterCounter
  try dsimp only
  repeat' first
    | simp (disch := decide) only [SameBut.refl_iff, State.updStream_iff, implies_true, and_self]
    | split

theorem enterCounter_iff {ps : List Part} {s₀ : State} (i : Fin 16) (c : Nat) (s : State)
    (hq : ∀ q ∈ ([.acceptance] : List Part), q ∈ ps) :
    SameBut ps s₀ (enterCounter i c s) ↔ SameBut ps s₀ s :=
  (enterCounter_sameBut i c s).iff hq

theorem fillGap_sameBut (i : Fin 16) (n c : Nat) (s : State) :
    SameBut frameParts s (fillGap i n c s) := by
  induction n generalizing c s with
  | zero => exact .refl _ _
  | succ n ih =>
    unfold fillGap
    dsimp only
    split
    · simp (disch := decide) only [abandonRow_iff, enterCounter_iff, SameBut.refl_iff]
    · exact (ih _ _).after (by
        simp (disch := decide) only [fillCounter_iff, State.updStream_iff, enterCounter_iff, SameBut.refl_iff])

theorem fillGap_iff {ps : List Part} {s₀ : State} (i : Fin 16) (n c : Nat) (s : State)
    (hq : ∀ q ∈ frameParts, q ∈ ps) :
    SameBut ps s₀ (fillGap i n c s) ↔ SameBut ps s₀ s :=
  (fillGap_sameBut i n c s).iff hq

theorem takeChannel_sameBut (i : Fin 16) (c : Nat) (j : Fin 12) (m : Fin 38) (ch : Channel) (s : State) :
    SameBut frameParts s (takeChannel i c j m ch s) := by
  unfold takeChannel
  try dsimp only
  repeat' first
    | simp (disch := decide) only [SameBut.refl_iff, abandonInput_iff, State.updStream_iff, placeReceived_iff, implies_true, and_self]
    | split

theorem takeChannel_iff {ps : List Part} {s₀ : State} (i : Fin 16) (c : Nat) (j : Fin 12) (m : Fin 38)
    (ch : Channel) (s : State)
    (hq : ∀ q ∈ frameParts, q ∈ ps) :
    SameBut ps s₀ (takeChannel i c j m ch s) ↔ SameBut ps s₀ s :=
  (takeChannel_sameBut i c j m ch s).iff hq

theorem takeChannels_sameBut (i : Fin 16) (c : Nat) (channels : List Channel) (s : State) :
    SameBut frameParts s (takeChannels i c channels s) := by
  unfold takeChannels
  try dsimp only
  repeat' first
    | simp (disch := decide) only [SameBut.refl_iff, takeChannel_iff, implies_true, and_self]
    | with_reducible refine .foldl_of ?_ fun s a => ?_
    | with_reducible refine And.intro ?_ ?_
    | intro _
    | split

theorem takeChannels_iff {ps : List Part} {s₀ : State} (i : Fin 16) (c : Nat) (channels : List Channel)
    (s : State)
    (hq : ∀ q ∈ frameParts, q ∈ ps) :
    SameBut ps s₀ (takeChannels i c channels s) ↔ SameBut ps s₀ s :=
  (takeChannels_sameBut i c channels s).iff hq

theorem takeFrame_sameBut (i : Fin 16) (f : SampleFrame) (s : State) :
    SameBut frameParts s (takeFrame i f s) := by
  unfold takeFrame
  try dsimp only
  repeat' first
    | simp (disch := decide) only [SameBut.refl_iff, SameBut.ite_iff, State.updStream_iff, logEvent_iff, takeChannels_iff, enterCounter_iff,
     implies_true, and_self]
    | split

theorem takeFrame_iff {ps : List Part} {s₀ : State} (i : Fin 16) (f : SampleFrame) (s : State)
    (hq : ∀ q ∈ frameParts, q ∈ ps) :
    SameBut ps s₀ (takeFrame i f s) ↔ SameBut ps s₀ s :=
  (takeFrame_sameBut i f s).iff hq

theorem countGap_sameBut (i : Fin 16) (s : State) : SameBut [.acceptance] s (countGap i s) := by
  unfold countGap
  try dsimp only
  repeat' first
    | simp (disch := decide) only [SameBut.refl_iff, State.updStream_iff, implies_true, and_self]
    | split

theorem countGap_iff {ps : List Part} {s₀ : State} (i : Fin 16) (s : State)
    (hq : ∀ q ∈ ([.acceptance] : List Part), q ∈ ps) :
    SameBut ps s₀ (countGap i s) ↔ SameBut ps s₀ s :=
  (countGap_sameBut i s).iff hq

theorem judgeCounter_sameBut (i : Fin 16) (f : SampleFrame) (s : State) :
    SameBut frameParts s (judgeCounter i f s) := by
  unfold judgeCounter
  try dsimp only
  repeat' first
    | simp (disch := decide) only [SameBut.refl_iff, SameBut.ite_iff, takeFrame_iff, countGap_iff, fillGap_iff, abandonRow_iff, implies_true,
     and_self]
    | split

theorem judgeCounter_iff {ps : List Part} {s₀ : State} (i : Fin 16) (f : SampleFrame) (s : State)
    (hq : ∀ q ∈ frameParts, q ∈ ps) :
    SameBut ps s₀ (judgeCounter i f s) ↔ SameBut ps s₀ s :=
  (judgeCounter_sameBut i f s).iff hq

theorem acceptFrame_sameBut (f : SampleFrame) (s : State) :
    SameBut frameParts s (acceptFrame f s) := by
  unfold acceptFrame
  try dsimp only
  repeat' first
    | simp (disch := decide) only [SameBut.refl_iff, SameBut.ite_iff, State.updStream_iff, judgeCounter_iff, implies_true, and_self]
    | split

theorem acceptFrame_iff {ps : List Part} {s₀ : State} (f : SampleFrame) (s : State)
    (hq : ∀ q ∈ frameParts, q ∈ ps) :
    SameBut ps s₀ (acceptFrame f s) ↔ SameBut ps s₀ s :=
  (acceptFrame_sameBut f s).iff hq

theorem loseInput_sameBut (s : State) (m : Fin 38) :
    SameBut breakParts s (loseInput s m) := by
  unfold loseInput
  try dsimp only
  repeat' first
    | simp (disch := decide) only [SameBut.refl_iff, SameBut.ite_iff, breakInput_iff, implies_true, and_self]
    | split

theorem loseInput_iff {ps : List Part} {s₀ : State} (s : State) (m : Fin 38)
    (hq : ∀ q ∈ breakParts, q ∈ ps) :
    SameBut ps s₀ (loseInput s m) ↔ SameBut ps s₀ s :=
  (loseInput_sameBut s m).iff hq

theorem streamLost_sameBut (i : Fin 16) (s : State) :
    SameBut breakParts s (streamLost i s) := by
  unfold streamLost
  try dsimp only
  repeat' first
    | simp (disch := decide) only [SameBut.refl_iff, SameBut.ite_iff, logEvent_iff, State.updStream_iff, loseInput_iff, implies_true,
     and_self]
    | with_reducible refine .foldl_of ?_ fun s a => ?_
    | with_reducible refine And.intro ?_ ?_
    | intro _
    | split

theorem streamLost_iff {ps : List Part} {s₀ : State} (i : Fin 16) (s : State)
    (hq : ∀ q ∈ breakParts, q ∈ ps) :
    SameBut ps s₀ (streamLost i s) ↔ SameBut ps s₀ s :=
  (streamLost_sameBut i s).iff hq

theorem unmapInput_sameBut (s : State) (m : Fin 38) :
    SameBut breakParts s (unmapInput s m) := by
  unfold unmapInput
  try dsimp only
  repeat' first
    | simp (disch := decide) only [SameBut.refl_iff, handNotice_iff, withdrawInput_iff, discardTo_iff, implies_true, and_self]
    | split

theorem unmapInput_iff {ps : List Part} {s₀ : State} (s : State) (m : Fin 38)
    (hq : ∀ q ∈ breakParts, q ∈ ps) :
    SameBut ps s₀ (unmapInput s m) ↔ SameBut ps s₀ s :=
  (unmapInput_sameBut s m).iff hq

theorem streamFoundDamaged_sameBut (i : Fin 16) (inputs : List (Fin 38)) (s : State) :
    SameBut breakParts s (streamFoundDamaged i inputs s) := by
  unfold streamFoundDamaged
  try dsimp only
  repeat' first
    | simp (disch := decide) only [SameBut.refl_iff, unmapInput_iff, State.updStream_iff, implies_true, and_self]
    | with_reducible refine .foldl_of ?_ fun s a => ?_
    | with_reducible refine And.intro ?_ ?_
    | intro _
    | split

theorem streamFoundDamaged_iff {ps : List Part} {s₀ : State} (i : Fin 16) (inputs : List (Fin 38)) (s : State)
   
    (hq : ∀ q ∈ breakParts, q ∈ ps) :
    SameBut ps s₀ (streamFoundDamaged i inputs s) ↔ SameBut ps s₀ s :=
  (streamFoundDamaged_sameBut i inputs s).iff hq

theorem inputFoundDamaged_sameBut (m : Fin 38) (s : State) :
    SameBut breakParts s (inputFoundDamaged m s) := by
  unfold inputFoundDamaged
  try dsimp only
  repeat' first
    | simp (disch := decide) only [SameBut.refl_iff, unmapInput_iff, implies_true, and_self]
    | split

theorem inputFoundDamaged_iff {ps : List Part} {s₀ : State} (m : Fin 38) (s : State)
    (hq : ∀ q ∈ breakParts, q ∈ ps) :
    SameBut ps s₀ (inputFoundDamaged m s) ↔ SameBut ps s₀ s :=
  (inputFoundDamaged_sameBut m s).iff hq

theorem alignInput_sameBut (s : State) (m : Fin 38) : SameBut [.acceptance] s (alignInput s m) := by
  unfold alignInput
  try dsimp only
  repeat' first
    | simp (disch := decide) only [SameBut.refl_iff, SameBut.ite_iff, discardTo_iff, implies_true, and_self]
    | split

theorem alignInput_iff {ps : List Part} {s₀ : State} (s : State) (m : Fin 38)
    (hq : ∀ q ∈ ([.acceptance] : List Part), q ∈ ps) :
    SameBut ps s₀ (alignInput s m) ↔ SameBut ps s₀ s :=
  (alignInput_sameBut s m).iff hq

theorem dropInput_sameBut (s : State) (m : Fin 38) :
    SameBut breakParts s (dropInput s m) := by
  unfold dropInput
  try dsimp only
  repeat' first
    | simp (disch := decide) only [SameBut.refl_iff, SameBut.ite_iff, withdrawInput_iff, discardTo_iff, implies_true, and_self]
    | split

theorem dropInput_iff {ps : List Part} {s₀ : State} (s : State) (m : Fin 38)
    (hq : ∀ q ∈ breakParts, q ∈ ps) :
    SameBut ps s₀ (dropInput s m) ↔ SameBut ps s₀ s :=
  (dropInput_sameBut s m).iff hq

theorem streamRewritten_sameBut (i : Fin 16) (old : Held StreamRow) (s : State) :
    SameBut breakParts s (streamRewritten i old s) := by
  unfold streamRewritten
  try dsimp only
  repeat' first
    | simp (disch := decide) only [SameBut.refl_iff, SameBut.ite_iff, State.updStream_iff, dropInput_iff, alignInput_iff, implies_true,
     and_self]
    | with_reducible refine .foldl_of ?_ fun s a => ?_
    | with_reducible refine And.intro ?_ ?_
    | intro _
    | split

theorem streamRewritten_iff {ps : List Part} {s₀ : State} (i : Fin 16) (old : Held StreamRow) (s : State)
   
    (hq : ∀ q ∈ breakParts, q ∈ ps) :
    SameBut ps s₀ (streamRewritten i old s) ↔ SameBut ps s₀ s :=
  (streamRewritten_sameBut i old s).iff hq

theorem inputRewritten_sameBut (m : Fin 38) (wasDamaged : Bool) (s : State) :
    SameBut [.acceptance] s (inputRewritten m wasDamaged s) := by
  unfold inputRewritten
  try dsimp only
  repeat' first
    | simp (disch := decide) only [SameBut.refl_iff, SameBut.ite_iff, discardTo_iff, implies_true, and_self]
    | split

theorem inputRewritten_iff {ps : List Part} {s₀ : State} (m : Fin 38) (wasDamaged : Bool) (s : State)
   
    (hq : ∀ q ∈ ([.acceptance] : List Part), q ∈ ps) :
    SameBut ps s₀ (inputRewritten m wasDamaged s) ↔ SameBut ps s₀ s :=
  (inputRewritten_sameBut m wasDamaged s).iff hq

theorem fillStates_sameBut (s : State) : SameBut [.acceptance] s (fillStates s) := by
  unfold fillStates
  try dsimp only
  repeat' first
    | simp (disch := decide) only [SameBut.refl_iff, SameBut.ite_iff, setFill_iff, implies_true, and_self]
    | with_reducible refine .foldl_of ?_ fun s a => ?_
    | with_reducible refine And.intro ?_ ?_
    | intro _
    | split

theorem fillStates_iff {ps : List Part} {s₀ : State} (s : State)
    (hq : ∀ q ∈ ([.acceptance] : List Part), q ∈ ps) :
    SameBut ps s₀ (fillStates s) ↔ SameBut ps s₀ s :=
  (fillStates_sameBut s).iff hq

theorem periodicReport_sameBut (s : State) : SameBut [.mail, .ports, .reports] s (periodicReport s) := by
  unfold periodicReport
  try dsimp only
  repeat' first
    | simp (disch := decide) only [SameBut.refl_iff, SameBut.ite_iff, sendReport_iff, reports_iff, implies_true, and_self]
    | split

theorem periodicReport_iff {ps : List Part} {s₀ : State} (s : State)
    (hq : ∀ q ∈ ([.mail, .ports, .reports] : List Part), q ∈ ps) :
    SameBut ps s₀ (periodicReport s) ↔ SameBut ps s₀ s :=
  (periodicReport_sameBut s).iff hq

theorem changeReport_sameBut (s : State) : SameBut [.mail, .ports, .reports] s (changeReport s) := by
  unfold changeReport
  try dsimp only
  repeat' first
    | simp (disch := decide) only [SameBut.refl_iff, SameBut.ite_iff, sendChange_iff, implies_true, and_self]
    | split

theorem changeReport_iff {ps : List Part} {s₀ : State} (s : State)
    (hq : ∀ q ∈ ([.mail, .ports, .reports] : List Part), q ∈ ps) :
    SameBut ps s₀ (changeReport s) ↔ SameBut ps s₀ s :=
  (changeReport_sameBut s).iff hq

theorem recordError_sameBut (r : RowRef) (c : ErrorClass) (s : State) : SameBut [.memory] s (recordError r c s) := by
  unfold recordError
  try dsimp only
  repeat' first
    | simp (disch := decide) only [SameBut.refl_iff, State.updMemory_iff, implies_true, and_self]
    | split

theorem recordError_iff {ps : List Part} {s₀ : State} (r : RowRef) (c : ErrorClass) (s : State)
    (hq : ∀ q ∈ ([.memory] : List Part), q ∈ ps) :
    SameBut ps s₀ (recordError r c s) ↔ SameBut ps s₀ s :=
  (recordError_sameBut r c s).iff hq

theorem correctRow_sameBut (r : RowRef) (s : State) : SameBut [.memory] s (correctRow r s) := by
  unfold correctRow
  try dsimp only
  repeat' first
    | simp (disch := decide) only [SameBut.refl_iff, recordError_iff, State.updMemory_iff, implies_true, and_self]
    | split

theorem correctRow_iff {ps : List Part} {s₀ : State} (r : RowRef) (s : State)
    (hq : ∀ q ∈ ([.memory] : List Part), q ∈ ps) :
    SameBut ps s₀ (correctRow r s) ↔ SameBut ps s₀ s :=
  (correctRow_sameBut r s).iff hq

theorem markDamaged_sameBut (r : RowRef) (s : State) : SameBut [.memory, .eventList] s (markDamaged r s) := by
  unfold markDamaged
  try dsimp only
  repeat' first
    | simp (disch := decide) only [SameBut.refl_iff, recordError_iff, State.updMemory_iff, logEvent_iff, implies_true, and_self]
    | split

theorem markDamaged_iff {ps : List Part} {s₀ : State} (r : RowRef) (s : State)
    (hq : ∀ q ∈ ([.memory, .eventList] : List Part), q ∈ ps) :
    SameBut ps s₀ (markDamaged r s) ↔ SameBut ps s₀ s :=
  (markDamaged_sameBut r s).iff hq

theorem ownerActs_sameBut (r : RowRef) (mapped : List (Fin 38)) (s : State) :
    SameBut readParts s (ownerActs r mapped s) := by
  unfold ownerActs
  try dsimp only
  repeat' first
    | simp (disch := decide) only [SameBut.refl_iff, streamFoundDamaged_iff, inputFoundDamaged_iff, settingsFault_iff, abandonNull_iff,
     harmonicFoundDamaged_iff, reformNextCount_iff, yardFoundDamaged_iff, unitFoundDamaged_iff, implies_true,
     and_self]
    | split

theorem ownerActs_iff {ps : List Part} {s₀ : State} (r : RowRef) (mapped : List (Fin 38)) (s : State)
   
    (hq : ∀ q ∈ readParts, q ∈ ps) :
    SameBut ps s₀ (ownerActs r mapped s) ↔ SameBut ps s₀ s :=
  (ownerActs_sameBut r mapped s).iff hq

theorem readAt_sameBut (n : Nat) (s : State) (r : RowRef) : SameBut readParts s (readAt n s r) := by
  induction n generalizing s r with
  | zero => exact SameBut.refl _ s
  | succ n ih =>
    unfold readAt
    split
    · exact SameBut.refl _ s
    · split
      · exact SameBut.refl _ s
      · exact (correctRow_iff (ps := readParts) _ _ (by decide)).2 (SameBut.refl _ s)
      · simp (disch := decide) only [markChange_iff, ownerActs_iff]
        exact readAlong_keeps (P := SameBut readParts s) (fun _ _ _ h => ((ih _ _).iff fun _ h => h).2 h) _ _
          ((markDamaged_iff (ps := readParts) _ _ (by decide)).2 (SameBut.refl _ s))

theorem readRow_sameBut (s : State) (r : RowRef) : SameBut readParts s (readRow s r) := readAt_sameBut 97 s r

theorem readRow_iff {ps : List Part} {s₀ : State} (s : State) (r : RowRef)
    (hq : ∀ q ∈ readParts, q ∈ ps) :
    SameBut ps s₀ (readRow s r) ↔ SameBut ps s₀ s :=
  (readRow_sameBut s r).iff hq

theorem readRows_sameBut (rs : List RowRef) (s : State) :
    SameBut readParts s (readRows rs s) := by
  unfold readRows
  try dsimp only
  repeat' first
    | simp (disch := decide) only [SameBut.refl_iff, readRow_iff, implies_true, and_self]
    | with_reducible refine .foldl_of ?_ fun s a => ?_
    | with_reducible refine And.intro ?_ ?_
    | intro _
    | split

theorem readRows_iff {ps : List Part} {s₀ : State} (rs : List RowRef) (s : State)
    (hq : ∀ q ∈ readParts, q ∈ ps) :
    SameBut ps s₀ (readRows rs s) ↔ SameBut ps s₀ s :=
  (readRows_sameBut rs s).iff hq

theorem copyRows_sameBut (n : Nat) (s : State) : SameBut readParts s (copyRows n s) := by
  refine SameBut.foldl (fun s r => ?_) _ s
  exact (State.updMemory_iff _ _ (by decide)).2 (readRow_sameBut s r)

theorem copyRows_iff {ps : List Part} {s₀ : State} (n : Nat) (s : State) (hq : ∀ q ∈ readParts, q ∈ ps) :
    SameBut ps s₀ (copyRows n s) ↔ SameBut ps s₀ s :=
  (copyRows_sameBut n s).iff hq

theorem readUsed_sameBut (uses : State → List RowRef) (s : State) : SameBut readParts s (readUsed uses s) :=
  readAlong_keeps (P := SameBut readParts s) (fun _ _ _ h => ((readRow_sameBut _ _).iff fun _ h => h).2 h) _ _
    (SameBut.refl _ s)

theorem readUsed_iff {ps : List Part} {s₀ : State} (uses : State → List RowRef) (s : State)
    (hq : ∀ q ∈ readParts, q ∈ ps) :
    SameBut ps s₀ (readUsed uses s) ↔ SameBut ps s₀ s :=
  (readUsed_sameBut uses s).iff hq

theorem strikeRows_sameBut (xs : List Strike) (s : State) : SameBut [.memory] s (strikeRows xs s) := by
  unfold strikeRows
  try dsimp only
  repeat' first
    | simp (disch := decide) only [SameBut.refl_iff, State.updMemory_iff, implies_true, and_self]
    | with_reducible refine .foldl_of ?_ fun s a => ?_
    | with_reducible refine And.intro ?_ ?_
    | intro _
    | split

theorem strikeRows_iff {ps : List Part} {s₀ : State} (xs : List Strike) (s : State)
    (hq : ∀ q ∈ ([.memory] : List Part), q ∈ ps) :
    SameBut ps s₀ (strikeRows xs s) ↔ SameBut ps s₀ s :=
  (strikeRows_sameBut xs s).iff hq

end Sys2Proof.Machine
end

