-- ==== Sys2Proof/WellFormed.lean ====
section
/-! DEFINITION. The commands that the outside world and the part's own blocks can send: operands within the ranges that
the frame layouts and the rules give. `exec` gives every command a meaning, well-formed or not; a requested value out of
its range is for the request's own checks (R160, R162), so only what its bytes can carry is asked of a request. -/

namespace Sys2Proof

/-- A 16-bit field of a frame (9.5). -/
def fits16 (n : Nat) : Bool := n < mod16

/-- A 32-bit item (R158). -/
def fits32 (n : Nat) : Bool := n < mod32

/-- 9.5: the value of a channel is a signed 24-bit number. -/
def Channel.wf (c : Channel) : Bool := -8388608 ≤ c.value && c.value ≤ 8388607

/-- 9.5: a sample frame carries 1 to 12 channels, a 16-bit stream number and a 16-bit counter. -/
def SampleFrame.wf (f : SampleFrame) : Bool :=
  fits16 f.streamNumber && fits16 f.counter && 1 ≤ f.channels.length && f.channels.length ≤ 12 && f.channels.all Channel.wf

/-- Chapter 8: a trip is always of kind OPEN. -/
def CmdRequest.wf (r : CmdRequest) : Bool :=
  match r.cls with
  | .trip => r.kind = .opn
  | .control => true

/-- R93: a report tells of a change from one state to another. -/
def StepReport.wf (r : StepReport) : Bool := r.old ≠ r.new

/-- The held content of a strike is of the table of its row. -/
def Strike.wf (x : Strike) : Bool :=
  match x.row, x.held with
  | .stream _, .stream _ => true
  | .input _, .input _ => true
  | .step _, .step _ => true
  | .harmonic _, .harmonic _ => true
  | .resonance _, .resonance _ => true
  | .yard, .yard _ => true
  | .unit _, .unit _ => true
  | .link, .link _ => true
  | _, _ => false

/-- R172: a trigger names its step, apart from the line going DEAD, which has none. -/
def triggerWf (k : TriggerKind) (step : Option (Fin 8)) : Bool :=
  match k with
  | .lineDead => step.isNone
  | _ => step.isSome

/-- A request carries a 16-bit identifier (9.5). -/
def Requester.wf (q : Requester) : Bool := fits16 q.identifier

/-- A WRITE_ROWS request carries at most 8 rows (R160). -/
def RawRows.wf : RawRows → Bool
  | .stream rows => rows.length ≤ 8
  | .input rows => rows.length ≤ 8
  | .step rows => rows.length ≤ 8
  | .harmonic rows => rows.length ≤ 8
  | .resonance rows => rows.length ≤ 8
  | .yard rows => rows.length ≤ 8
  | .unit rows => rows.length ≤ 8
  | .link rows => rows.length ≤ 8

/-- Whether a command's operands are within their ranges. -/
def Instr.wf : Instr → Bool
  | .coldReset => true
  | .startUp strikes => strikes.all Strike.wf
  | .restartReset => true
  | .keylockChange _ => true
  | .portDown _ => true
  | .portUp _ => true
  | .frameReceived _ _ _ => true
  | .transmissionEnd _ => true
  | .sampleFrame f => f.wf
  | .lossTimerExpiry _ => true
  | .computationEnd => true
  | .ageClockTick => true
  | .holdTimerExpiry => true
  | .secondsClockTick => true
  | .dischargeTimerExpiry _ => true
  | .decayTimerExpiry _ => true
  | .heatModeChange r => r.wf
  | .positionReport _ _ => true
  | .unitSupervisionNotice _ _ => true
  | .tripStart _ _ => true
  | .unitBusyRefusal _ => true
  | .unbalanceLockoutNotice _ => true
  | .closeOutcome _ _ => true
  | .openOutcome _ _ => true
  | .dischargedReport _ => true
  | .unbalanceStepReport r => r.wf
  | .harmonicStepReport r => r.wf
  | .controlStepReport r => r.wf
  | .statusFrame _ => true
  | .commandRequest r => r.wf
  | .nextSendTime _ => true
  | .operateDeadline _ => true
  | .supervisionTimerExpiry _ => true
  | .switchOutcome _ _ _ => true
  | .incomerOutcome _ _ => true
  | .detuneRequest => true
  | .highTimerExpiry => true
  | .lowTimerExpiry => true
  | .settleTimerExpiry => true
  | .restoreHoldExpiry => true
  | .selectExpiry => true
  | .readRows q _ first count => q.wf && fits32 first && fits32 count
  | .writeRows q first rows => q.wf && fits32 first && rows.wf
  | .readResults q inputs => q.wf && inputs.length ≤ 255 && inputs.all fits32
  | .readStatus q _ => q.wf
  | .hold q => q.wf
  | .release q => q.wf
  | .select q target _ token => q.wf && fits32 target && fits32 token
  | .operate q token => q.wf && fits32 token
  | .cancel q => q.wf
  | .withdraw q step => q.wf && fits32 step
  | .restore q step => q.wf && fits32 step
  | .resetLockout q step => q.wf && fits32 step
  | .null q step => q.wf && fits32 step
  | .setMode q _ => q.wf
  | .readEvents q first => q.wf && fits32 first
  | .ackEvents q n => q.wf && fits32 n
  | .readCapture q _ offset => q.wf && fits32 offset
  | .freeCapture q _ => q.wf
  | .store q => q.wf
  | .storeCompletion rows _ => rows ≤ 97
  | .restart q => q.wf
  | .clearTableError q => q.wf
  | .scrubPass before after => before.all Strike.wf && after.all Strike.wf
  | .reportTimerExpiry => true
  | .changeReportDue => true
  | .captureTrigger kind step => triggerWf kind step
  | .captureComplete _ => true

end Sys2Proof
end

