-- ==== Sys2Proof/Tests/Slice0.lean ====
section
/-! SUPPORT. Small tests: what WellFormed refuses, single steps against figures that the manual gives, and for every statement
with hypotheses a state and operands that meet them, clause by clause. -/

set_option maxRecDepth 100000

namespace Sys2Proof.Tests

open Sys2Proof Sys2Proof.Machine

/-! ## WellFormed refuses an ill-formed term of each check -/

def asker : Requester := { port := .a, address := 5, identifier := 7 }
def chan (v : Int) : Channel := { value := v, quality := 0 }
def frameOf (count : Nat) : SampleFrame :=
  { port := .a, sender := 1, streamNumber := 0, counter := 0, simulated := false, channels := List.replicate count (chan 1) }

theorem test_wf_channel_value : Channel.wf (chan 8388608) = false ∧ Channel.wf (chan (-8388608)) = true := by decide
theorem test_wf_sample_empty : Instr.wf (.sampleFrame (frameOf 0)) = false := by decide
theorem test_wf_sample_thirteen : Instr.wf (.sampleFrame (frameOf 13)) = false := by decide
theorem test_wf_sample_counter : Instr.wf (.sampleFrame { frameOf 1 with counter := 65536 }) = false := by decide
theorem test_wf_sample_number : Instr.wf (.sampleFrame { frameOf 1 with streamNumber := 65536 }) = false := by decide
theorem test_wf_trip_close :
    Instr.wf (.commandRequest { unit := 0, kind := .close, cls := .trip, cause := .unbalance }) = false := by decide
def report (old new : StepState) (cause : StateCause) (held : Bool) : StepReport :=
  { step := 0, old := old, new := new, cause := cause, slotHeld := held }
theorem test_wf_report_same : Instr.wf (.heatModeChange (report .ready .ready .grant false)) = false := by decide
theorem test_wf_strike : Strike.wf { row := .yard, double := true, held := .link defaultLink } = false := by decide
theorem test_wf_trigger_dead : Instr.wf (.captureTrigger .lineDead (some 0)) = false := by decide
theorem test_wf_trigger_heat : Instr.wf (.captureTrigger .heatTrip none) = false := by decide
theorem test_wf_identifier : Instr.wf (.hold { asker with identifier := 65536 }) = false := by decide
theorem test_wf_rows : Instr.wf (.writeRows asker 0 (.input (List.replicate 9 { nominal := 1, kind := 1 }))) = false := by
  decide
theorem test_wf_argument : Instr.wf (.withdraw asker 4294967296) = false := by decide
theorem test_wf_store_rows : Instr.wf (.storeCompletion 98 none) = false := by decide
theorem test_wf_results : Instr.wf (.readResults asker (List.replicate 256 0)) = false := by decide

/-- The table gives no row bits, so no word spells a command. -/
theorem test_decode_none : decodeTableWord 8 0 = none ∧ decodeTableWord 32 4294967295 = none := by decide

/-! ## A running part -/

/-- Rows in use: stream 0 feeds MI 0 and MI 1, every step, the units at addresses 100 to 108, one supervised order. -/
def testTables : Tables :=
  { Tables.defaults with
    stream := Tables.defaults.stream.set 0 (Held.fresh
      { defaultStream with
        inUse := true, address := 1, channelCount := 2, map := (defaultStream.map.set 0 (some 0)).set 1 (some 1) })
    step := Vector.replicate 8 (Held.fresh { defaultStep with inUse := true, neutralPresent := true })
    harmonic := Tables.defaults.harmonic.set 3 (Held.fresh { defaultHarm 3 with supervise := true })
    resonance := Tables.defaults.resonance.set 2 (Held.fresh { orders := [5] })
    unit := Vector.ofFn fun u => Held.fresh { defaultUnit with address := BitVec.ofNat 48 (100 + u.val) } }

def base : State :=
  { State.reset with
    phase := .running
    ports := { State.reset.ports with link := some defaultLink }
    memory := { State.reset.memory with tables := testTables } }

theorem testTables_intact : ∀ r ∈ allRows, testTables.damagedAt r = true ∨ testTables.upsetAt r = .clean := by decide

/-- A running part with these tables is Ready. -/
theorem ready_of {s : State} (h₁ : s.phase = .running) (h₂ : s.memory.tables = testTables) : Ready s :=
  ⟨h₁, fun r hr => by rw [h₂]; exact testTables_intact r hr⟩

theorem ready_base : Ready base := ready_of rfl rfl
theorem heard_base : Heard asker base := ⟨by decide, by decide⟩

/-- `base` with step `i` in a state. -/
def inState (i : Fin 8) (x : StepState) : State := base.updStep i fun y => { y with state := x }

/-- The state a command gives. -/
def after (s : State) (c : Instr) : Option State :=
  match exec c s with
  | .next t => some t
  | _ => none

/-! ## Single steps, against figures of the manual -/

/-- 4.2: the reset thresholds 187 and 468 of the default levels 200 and 500 (R60). -/
theorem test_reset_thresholds : resetThreshold 200 = 187 ∧ resetThreshold 500 = 468 := by decide
/-- 00_scope.md: isqrt of 15 is 3 and of 16 is 4. -/
theorem test_isqrt : isqrt 15 = 3 ∧ isqrt 16 = 4 ∧ isqrt 0 = 0 := by decide
/-- R23: 64 equal samples have no component of any order. -/
theorem test_steady : dftRe (List.replicate 64 8388607) 1 = 0 ∧ dftIm (List.replicate 64 8388607) 15 = 0 := by decide
/-- R171: the newest entry of an empty list after COLD is the one before 1. -/
theorem test_newest : newestSequence base = 0 := by decide
/-- R35: a hold lasts 2 s. -/
theorem test_hold : (after base (.hold asker)).map (fun t => t.engine.hold) = some (some 2000) := by decide
/-- R127: a SELECT of a close of a step that is not READY is refused with condition 1. -/
theorem test_select_state : manualCheck 0 .close base = some .state := by decide
/-- R134, 8.1: status timeouts are clamped to 100 to 5,000 ms. -/
theorem test_unit_clamp :
    (unitTaken { address := 1, retry := 0, attempts := 17, operateTime := 501, statusTimeout := 99 }) =
      ({ address := 1, retry := 1, attempts := 16, operateTime := 500, statusTimeout := 100 }, true) := by decide
/-- R168: start-up without an image takes the Defaults, with STORE_INVALID and START_UP in the event list. -/
theorem test_start_up :
    (after State.reset (.startUp [])).map (fun t => (t.memory.storeInvalid, t.events.entries.map fun e => e.kind)) =
      some (true, [.storeInvalid, .startUp]) := by decide
/-- R102: an unbalance lockout notice locks out a step in READY. -/
theorem test_lockout_notice :
    (after (inState 2 .ready) (.unbalanceLockoutNotice 2)).map (fun t => t.stepState 2) = some .lockout := by decide
/-- R119: the restore hold runs out without an evaluation: the line stays in RESTORE and the timer stops. -/
theorem test_restore_without_evaluation :
    (after (base.updSwitching fun w => { w with restore := some 60000 }) .restoreHoldExpiry).map
      (fun t => (t.switching.line, t.switching.restore)) = some (.restore, none) := by decide

/-! ## States and operands that meet the hypotheses of each statement -/

/-- A unit in a given state of its command, and a supervision timer `n` ms short of its end. -/
def unitAt (c : CommandContext) (n : Nat) : UnitLive :=
  { UnitLive.reset with context := c, timer := some { elapsed := 100, limit := 100 + n } }

def lostStream : StreamLive := { StreamLive.reset with status := .running, loss := some { elapsed := 10, limit := 10 } }

/-- `base` with every timer at its end that can run beside the others. -/
def allDue : State :=
  { base with
    agent := { base.agent with restartWait := some 100 },
    acceptance := { base.acceptance with streams := base.acceptance.streams.set 0 lostStream },
    engine := { base.engine with ageLeft := 0, hold := some 0 },
    duty :=
      { base.duty with
        steps := base.duty.steps.set 7 { DutyLive.reset with discharge := some 0, decay := some 0 }, secondsLeft := 0 },
    commands :=
      ((base.commands.set 0 (unitAt { CommandContext.idle with state := .sending, nextSend := some 0 } 1)).set 1
        (unitAt { CommandContext.idle with state := .awaitingMove, deadline := some 0 } 1)).set 8
        (unitAt CommandContext.idle 0),
    switching :=
      { base.switching with
        control := .autoHigh, high := .running 30000, restore := some 60000,
        selection := some { target := 0, action := .opn, token := 0, expiry := 0, requester := 0 } },
    memory := { base.memory with scrubLeft := 0 },
    events :=
      { base.events with
        reportTimer := 60000, changePending := true,
        buffers := base.events.buffers.set 1 { CaptureBuffer.free with status := .recording, elapsed := 400 } } }

theorem witness_StepTakesFront :
    ({ base with pending := [.hold asker] } : State).pending = [.hold asker] ∧ base.pending = [] ∧ base.mail = [] ∧
      dueTimers base = [] ∧ State.reset.phase ≠ .running ∧
      ({ base with mail := [.computationEnd] } : State).mail = [.computationEnd] ∧
      dueTimers { base with engine := { base.engine with ageLeft := 0 } } = [.ageClockTick] := by decide

/-- R33, R36, R78, R83, R85, R121, R131, R136, R141, R143, R164, R166, R171, R173: what is due, and what is not when a count
is one short. -/
theorem test_due :
    dueTimers allDue = [.restartReset, .lossTimerExpiry 0, .ageClockTick, .holdTimerExpiry, .secondsClockTick,
      .dischargeTimerExpiry 7, .decayTimerExpiry 7, .nextSendTime 0, .operateDeadline 1, .supervisionTimerExpiry 8,
      .highTimerExpiry, .restoreHoldExpiry, .selectExpiry, .scrubPass [] [], .reportTimerExpiry, .captureComplete 1] ∧
    dueTimers (base.updSwitching fun w => { w with control := .autoLow, low := .running 29999 }) = [] ∧
    dueTimers (base.updSwitching fun w => { w with control := .autoSettle, settle := some 60000 }) =
      [.settleTimerExpiry] := by decide

def sample (counter count : Nat) (sim : Bool) : SampleFrame :=
  { port := .a, sender := 1, streamNumber := 0, counter := counter, simulated := sim
    channels := List.replicate count (chan 1) }

/-- `base` with stream 0 RUNNING at a last counter. -/
def streaming (last : Nat) : State :=
  base.updStream 0 fun x =>
    { x with status := .running, lastCounter := some last, loss := some { elapsed := 0, limit := 10 } }

theorem matches_sample (n k : Nat) (b : Bool) (s : State) (h : s.memory.tables = testTables) : Matches (sample n k b) s 0 := by
  refine ⟨?_, fun j hj => absurd hj (by omega)⟩
  simp only [CarriesTag, streamHeld, h]
  exact ⟨rfl, rfl, rfl, rfl⟩

theorem witness_SampleFrameNotTaken :
    Ready base ∧ Ready (streaming 65535) ∧ (∀ i, ¬ CarriesTag { sample 0 2 false with sender := 2 } base i) ∧
      (∀ n k b, Matches (sample n k b) base 0 ∧ Matches (sample n k b) (streaming 65535) 0) ∧
      ¬ PassesSimulated (sample 0 2 true) base 0 ∧ PassesSimulated (sample 0 3 false) base 0 ∧
      (sample 0 3 false).channels.length ≠ (streamHeld 0 base).row.channelCount ∧
      (sample 65535 2 false).channels.length = (streamHeld 0 (streaming 65535)).row.channelCount ∧
      (streaming 65535).acceptance.streams[0].lastCounter = some 65535 ∧ counterDistance 65535 65535 = 0 := by
  refine ⟨ready_base, ready_of rfl rfl, ?_, fun n k b => ⟨matches_sample _ _ _ _ rfl, matches_sample _ _ _ _ rfl⟩, ?_,
    Or.inl rfl, by decide⟩
  · unfold CarriesTag; decide
  · unfold PassesSimulated; decide

/-- `base` with MI 0 at a filling state and its two windows in given states. -/
def filling (f : FillState) (a b : WindowState) : State :=
  base.updInput 0 fun x =>
    { x with fill := f, windows := #v[{ Window.empty with state := a }, { Window.empty with state := b }] }

theorem witness_SampleFrameTaken :
    Ready base ∧ Ready (streaming 65535) ∧ (∀ n, Matches (sample n 2 false) base 0 ∧ Matches (sample n 2 false) (streaming 65535) 0) ∧
      PassesSimulated (sample 0 2 false) base 0 ∧
      (sample 0 2 false).channels.length = (streamHeld 0 base).row.channelCount ∧
      base.acceptance.streams[0].lastCounter = none ∧ (streaming 65535).acceptance.streams[0].lastCounter = some 65535 ∧
      counterDistance 0 65535 = 1 ∧ counterDistance 1 65535 = 2 ∧ counterDistance 2 65535 = 3 ∧ counterDistance 3 65535 = 4 ∧
      counterDistance 65534 65535 = 65535 ∧
      (chan 1).quality = 0 ∧ ({ chan 1 with quality := 2 } : Channel).quality ≠ 0 ∧
      ({ chan 1 with quality := 2 } : Channel).quality ≠ 1 ∧
      (2 ≤ if 65535 % 64 = 0 then 0 else 2) ∧ (if 0 % 64 = 0 then 0 else 2) < 2 :=
  ⟨ready_base, ready_of rfl rfl, fun n => ⟨matches_sample _ _ _ _ rfl, matches_sample _ _ _ _ rfl⟩, Or.inl rfl, by decide⟩

/-- R11: a BAD channel is counted, gives no last value, and breaks an input in COLLECTING off to ALIGNING. -/
theorem test_bad_channel :
    let t := takeChannel 0 1 0 0 { chan 1 with quality := 3 } (filling .collecting .filling .free)
    t.acceptance.streams[0].badQuality = 1 ∧ t.acceptance.streams[0].lastValues[0] = none ∧
      t.acceptance.inputs[0].fill = .aligning ∧ (t.window 0 0).state = .free := by decide +kernel

theorem witness_LossTimerExpiry :
    Ready (streaming 0) ∧ Ready base ∧ (streaming 0).acceptance.streams[0].status = .running ∧
      base.acceptance.streams[0].status ≠ .running := ⟨ready_of rfl rfl, ready_base, by decide⟩

/-- `filling` with a notice of MI 0 that waits for some of its windows. -/
def noticed (waits : Vector Bool 2) (s : State) : State :=
  { s with engine := { s.engine with notices := s.engine.notices.set 0 (some waits) } }

theorem witness_ValuesAndWindows :
    base.acceptance.inputs[0].fill = .unmapped ∧ (filling .aligning .free .free).acceptance.inputs[0].fill = .aligning ∧
      63 % 64 ≠ 0 ∧ 64 % 64 = 0 ∧ ((filling .aligning .queued .free).window 0 1).state = .free ∧
      ((filling .aligning .queued .free).window 0 0).state ≠ .free ∧
      (∀ w : Fin 2, ((filling .aligning .queued (.computing false)).window 0 w).state ≠ .free) ∧
      (filling .collecting .filling .free).acceptance.inputs[0].fill = .collecting ∧
      ((filling .collecting .filling .free).window 0 0).state = .filling ∧
      (62 + 65536 - ((filling .collecting .filling .free).window 0 0).start) % 65536 ≠ 63 ∧
      (63 + 65536 - ((filling .collecting .filling .free).window 0 0).start) % 65536 = 63 ∧
      ((filling .collecting .filling .free).window 0 1).state = .free ∧
      ((filling .collecting .filling .queued).window 0 1).state = .queued ∧
      (filling .collecting .filling .queued).engine.notices[0] = none ∧
      (noticed #v[false, true] (filling .collecting .filling .queued)).engine.notices[0] ≠ none ∧
      ((filling .collecting .filling (.computing true)).window 0 1).state = .computing true := by decide

/-- `base` with the engine at work on window 0 of MI 0. -/
def computing (withdrawn : Bool) : State :=
  let s := filling .collecting (.computing withdrawn) .filling
  { s with engine := { s.engine with computing := some (0, 0) } }

/-- An idle engine with input `m` ahead of MI 5 in its queue, and window 1 of MI 0 QUEUED. -/
def queueing (m : Fin 38) : State :=
  let s := filling .collecting .filling .queued
  { s with engine := { s.engine with queue := [m, 5] } }

theorem witness_EngineQueue :
    Ready (computing true) ∧ Ready base ∧ (computing false).engine.computing ≠ none ∧ base.engine.computing = none ∧
      base.engine.queue = [] ∧ ((filling .collecting .filling .queued).window 0 1).state = .queued ∧
      ((filling .collecting .filling .queued).window 0 0).state ≠ .queued ∧
      (computing true).engine.computing = some (0, 0) ∧ (queueing 0).engine.computing = none ∧
      (queueing 0).engine.queue = 0 :: [5] ∧ ((queueing 0).window 0 1).state = .queued ∧
      ((queueing 0).window 0 0).state ≠ .queued ∧ (∀ w : Fin 2, ((queueing 1).window 1 w).state ≠ .queued) ∧
      (queueing 1).engine.queue = 1 :: [5] :=
  ⟨ready_of rfl rfl, ready_base, by decide⟩

theorem witness_PublicationAndNotice :
    (0 : Fin 38).val = 0 ∧ (2 : Fin 3).val = (2 : Fin 38).val ∧ (2 : Fin 3).val ≠ 0 ∧ (3 : Fin 6).val = (3 : Fin 38).val ∧
      stepInput 7 3 = 37 ∧ base.engine.notices[(0 : Fin 38)] = none ∧
      (∀ w : Fin 2, (base.window 0 w).state ≠ .queued ∧ (base.window 0 w).state ≠ .computing false) ∧
      (computing false).engine.notices[(0 : Fin 38)] = none ∧ ((computing false).window 0 0).state = .computing false ∧
      (noticed #v[true, true] (computing false)).engine.notices[(0 : Fin 38)] = some #v[true, true] ∧
      (∃ w' : Fin 2, w' ≠ 0 ∧ #v[true, true][w'] = true) ∧
      (noticed #v[true, false] (computing false)).engine.notices[(0 : Fin 38)] = some #v[true, false] ∧
      (∀ w' : Fin 2, w' ≠ 0 → #v[true, false][w'] = false) := by decide

/-- R31, R115: a publication of MI 0 reaches switching control: three GOOD bus records make the evaluation valid. -/
theorem test_publication_reaches_control :
    let r : ResultRecord := { ResultRecord.reset with quality := .good, age := 0, rms := ResultRecord.reset.rms.set 0 200000 }
    let s : State := { base with engine := { base.engine with results := (base.engine.results.set 1 r).set 2 r } }
    let t := publish 0 r s
    (t.switching.vctrl, t.switching.uHi, t.events.entries.map fun e => e.kind) =
      (some 200000, 205000, [.resonanceBlockOn].drop 1 ++ [.measValid]) := by decide

theorem witness_EngineArithmetic :
    (List.replicate 64 (-8388608 : Int)).length = 64 ∧
      (∀ x ∈ List.replicate 64 (-8388608 : Int), x.natAbs ≤ 8388608) := by decide

/-- A window of one cycle of a square wave, with a fundamental. -/
def square : Window :=
  { Window.empty with values := List.replicate 32 1000 ++ List.replicate 32 (-1000) }

theorem witness_HarmonicRatios : (computeRecord square 1 ResultRecord.reset).lowFundamental = false := by decide

theorem witness_AgeTickAndHoldExpiry : Ready base := ready_base

theorem witness_AlarmElementMoves :
    (setElement 0 3 (some (.picking 49)) base).harmonic.elements[(0 : Fin 6)][(3 : Fin 15)] = some (.picking 49) ∧
      (1 ≤ 50 ∧ 50 ≤ 50) := by decide

theorem witness_HarmonicAnswers :
    base.memory.tables.harmonic[(3 : Fin 15)].damaged = false ∧ ((0 : Fin 9).val = base.inCount) ∧
      ((1 : Fin 9).val = (inState 0 .inService).inCount) := by decide

theorem witness_HarmonicStepReport :
    Ready base ∧ (∃ r : StepReport, r.old = .closing ∧ r.new = .inService) ∧
      ∃ r : StepReport, ¬ (r.old = .inService ∨ r.old = .closing ∨ r.new = .inService ∨ r.new = .closing) :=
  ⟨ready_base, ⟨⟨0, .closing, .inService, .grant, false⟩, rfl, rfl⟩, ⟨⟨0, .cooling, .ready, .grant, false⟩, by decide⟩⟩

theorem witness_StageCounters :
    200 ≤ 200 ∧ (200 * 15 / 16 ≤ 187 ∧ 187 < 200) ∧ 186 < 200 * 15 / 16 ∧ (1 ≤ 16 ∧ 16 ≤ 16) := by decide

/-- Step 0 in IN with a null capture of it, and a record of its neutral input. -/
def nulling (counted : Nat) (q : Quality) (r1 : Int) : State :=
  { inState 0 .inService with
    unbalance := { base.unbalance with context := some { step := 0, counted := counted, sumR := 0, sumI := 0 } }
    engine := { base.engine with
      results := base.engine.results.set 9 { ResultRecord.reset with quality := q, r1 := r1 } } }

theorem witness_UnbalanceEvaluation :
    ¬ (base.stepState 0 = .inService) ∧ (nulling 0 .good 0).stepState 0 = .inService ∧
      ((nulling 0 .good 0).stepRow 0).neutralPresent = true ∧ (nulling 0 .good 0).stepDamaged 0 = false ∧
      base.unbalance.context = none ∧
      (nulling 30 .good 0).unbalance.context = some { step := 0, counted := 30, sumR := 0, sumI := 0 } ∧
      (nulling 31 .invalid 0).engine.results[stepInput 0 3].quality = .invalid ∧
      (nulling 31 .doubtful 0).engine.results[stepInput 0 3].quality = .doubtful ∧
      (nulling 31 .good 3200000).engine.results[stepInput 0 3].r1 = 3200000 ∧
      ((0 + 3200000 : Int).tdiv 32).natAbs ≤ 100000 ∧ ¬ ((0 + 3200032 : Int).tdiv 32).natAbs ≤ 100000 := by decide

/-- R68 to R70 at an evaluation: the 32nd GOOD record stores K, an INVALID one abandons the capture, and a trip, at the
10th record at the trip level, abandons it too. -/
theorem test_null_endings :
    let kinds (s : State) := (unbalanceEvaluate 0 s).events.entries.map fun e => (e.kind, e.value)
    ((unbalanceEvaluate 0 (nulling 31 .good 64)).stepRow 0).kr = 2 ∧
      kinds (nulling 5 .invalid 0) = [(.unbalanceInputInvalid, none), (.nullAborted, some 5)] ∧
      kinds ((nulling 5 .good 500).updUnbalance 0 fun x => { x with tripCount := 9 }) =
        [(.unbalanceTrip, some 500), (.nullAborted, some 5)] := by decide

theorem witness_NullCaptureAndStepReport :
    Ready base ∧ Ready (nulling 0 .invalid 0) ∧ ((nulling 0 .invalid 0).stepRow 0).neutralPresent = true ∧
      (nulling 0 .invalid 0).engine.results[stepInput 0 3].quality = .invalid ∧
      (nulling 0 .invalid 0).unbalance.steps[(0 : Fin 8)].inputInvalid = false ∧
      (nulling 31 .good 0).engine.results[stepInput 0 3].quality ≠ .invalid ∧
      (nulling 31 .good 0).unbalance.context = some { step := 0, counted := 31, sumR := 0, sumI := 0 } ∧
      ({ ResultRecord.reset with quality := .good, r1 := 3200000 } : ResultRecord).quality = .good ∧
      (((0 : Int) + 3200000).tdiv 32).natAbs ≤ 100000 ∧ ¬ ((((0 : Int) + 3200032).tdiv 32).natAbs ≤ 100000) ∧
      (report .inService .opening .control true).new ≠ .inService ∧
      (report .closing .inService .closeDone true).old ≠ .inService := ⟨ready_base, ready_of rfl rfl, by decide⟩

/-- R61 to R63, R65: the report of an entry writes the event of an INVALID record once, and takes back no trip or alarm that
an evaluation since the entry has made. -/
theorem test_entry_report :
    let entered (s : State) := takeUnbalanceReport (report .closing .inService .closeDone true) s
    let evaluated := unbalanceEvaluate 0 ((nulling 0 .good 500).updUnbalance 0 fun x => { x with tripCount := 9 })
    ((entered (nulling 0 .invalid 0)).events.entries.map fun e => e.kind) = [.unbalanceInputInvalid] ∧
      entered (entered (nulling 0 .invalid 0)) = entered (nulling 0 .invalid 0) ∧
      evaluated.unbalance.steps[(0 : Fin 8)].tripOperated = true ∧ entered evaluated = evaluated := by decide

/-- Step 0 in IN and SERVICE mode, hot, its phases GOOD, with a null capture of it. -/
def hot (heat : Nat) : State :=
  let s := (nulling 3 .good 0).updDuty 0 fun d => { d with mode := .service, heat := heat }
  let good : ResultRecord := { ResultRecord.reset with quality := .good }
  { s with engine := { s.engine with results := ((s.engine.results.set 6 good).set 7 good).set 8 good } }

theorem witness_HeatUpdate :
    ¬ (base.duty.steps[(0 : Fin 8)].mode = .service) ∧ (hot 0).duty.steps[(0 : Fin 8)].mode = .service ∧
      (hot 0).stepDamaged 0 = false ∧ (∀ r ∈ phaseRecords 0 (hot 0), r.quality = .good) ∧
      ((hot 0).stepRow 0).heatTrip ≤ heatToward 1772526 0 ((hot 0).stepRow 0).thermalCode ∧
      ((hot 0).stepRow 0).heatTrip ≤ 1772093 ∧ (hot 0).unbalance.context = some { step := 0, counted := 3, sumR := 0, sumI := 0 } ∧
      base.unbalance.context = none := by decide

/-- R80, R81, R70: a step that cools slowly from above both levels alarms and trips, which abandons its null capture. -/
theorem test_heat_trip :
    ((heatUpdate 0 (hot 1772526)).events.entries.map fun e => e.kind) = [.heatAlarm, .heatTrip, .nullAborted] ∧
      ((heatUpdate 0 (hot 1772000)).events.entries.map fun e => e.kind) = [.heatAlarm] := by decide

theorem witness_SecondsTick : Ready base := ready_base

/-- R78, R80: two steps in COOLDOWN mode at a tick: an alarm that clears at the re-close level, and one that rises. -/
theorem test_cooldown_alarms :
    let s := (base.updDuty 6 fun d => { d with heat := 1600000 }).updDuty 1 fun d => { d with heat := 700000, heatAlarm := true }
    ((after s .secondsClockTick).map fun t => t.events.entries.map fun e => (e.kind, e.subject, e.value)) =
      some [(.heatAlarmClear, .step 1, some (700000 - 700000 / 64)), (.heatAlarm, .step 6, some (1600000 - 1600000 / 64))] := by
  decide

/-- `base` with both timers of step 0 at their end. -/
def timersOut : State := base.updDuty 0 fun d => { d with discharge := some 0, decay := some 0 }

theorem witness_StepTimersAndHeatMode :
    Ready timersOut ∧ Ready base ∧ timersOut.duty.steps[(0 : Fin 8)].discharge ≠ none ∧
      timersOut.duty.steps[(0 : Fin 8)].decay ≠ none ∧ base.duty.steps[(0 : Fin 8)].discharge = none ∧
      base.duty.steps[(0 : Fin 8)].decay = none :=
  ⟨ready_of rfl rfl, ready_base, by decide⟩

/-- `base` with an operations count and a duty bar of step 0. -/
def barred (n : Nat) (bar : Bool) : State := base.updDuty 0 fun d => { d with operations := n, dutyBar := bar }

/-- `base` with rows found DAMAGED. -/
def damaged (rs : List RowRef) : State :=
  { base with memory := { base.memory with tables := rs.foldl (fun t r => t.mapAt r Held.fail) testTables } }

theorem witness_OperationsAndDutyBar :
    base.stepDamaged 0 = false ∧ ((barred 4 false).stepRow 0).opsLimit ≤ (barred 4 false).duty.steps[(0 : Fin 8)].operations ∧
      (barred 3 true).duty.steps[(0 : Fin 8)].operations < ((barred 3 true).stepRow 0).opsLimit ∧
      ((barred 3 true).stepRow 0).opsBase < (barred 3 true).duty.steps[(0 : Fin 8)].operations ∧
      (barred 2 true).duty.steps[(0 : Fin 8)].operations ≤ ((barred 2 true).stepRow 0).opsBase ∧
      (damaged [.step 0]).stepDamaged 0 = true := by decide

theorem witness_Discharge :
    Ready (inState 0 .cooling) ∧ (inState 0 .ready).stepState 0 = .ready ∧ base.stepState 0 ≠ .ready ∧
      (inState 0 .cooling).stepState 0 = .cooling ∧ dischargeRemaining 0 (inState 0 .cooling) = 0 ∧
      0 < dischargeRemaining 0 timersOut :=
  ⟨ready_of rfl rfl, by decide⟩

/-- `base` with step 0 in a state and a last position, due for resolution or not. -/
def placed (x : StepState) (last : Option Position) (due : Bool) : State :=
  base.updStep 0 fun y =>
    { y with state := x, lastPosition := last, settledPosition := last, resolutionDue := due }

theorem witness_PositionResolves :
    Ready (placed .inService (some .closed) false) ∧ Ready (placed .unresolved none true) ∧
      (placed .inService (some .closed) false).supervisor.steps[(0 : Fin 8)].lastPosition = some .closed ∧
      (placed .inService (some .closed) false).supervisor.steps[(0 : Fin 8)].resolutionDue = false ∧
      (placed .unresolved none true).supervisor.steps[(0 : Fin 8)].resolutionDue = true :=
  ⟨ready_of rfl rfl, ready_of rfl rfl, by decide⟩

theorem witness_PositionMoves :
    (∀ x ∈ [StepState.inService, .cooling, .ready, .failed, .lockout, .withdrawn, .closing],
      Ready (placed x (some .intermediate) false) ∧
      (placed x (some .intermediate) false).supervisor.steps[(0 : Fin 8)].resolutionDue = false ∧
      (placed x (some .intermediate) false).supervisor.steps[(0 : Fin 8)].lastPosition ≠ some .opened ∧
      (placed x (some .intermediate) false).supervisor.steps[(0 : Fin 8)].lastPosition ≠ some .closed ∧
      (placed x (some .intermediate) false).stepState 0 = x) ∧
    (placed .inService (some .closed) false).supervisor.steps[(0 : Fin 8)].lockoutPending = none ∧
    ((placed .inService (some .closed) false).updStep 0 fun y =>
      { y with lockoutPending := some .unbalance }).supervisor.steps[(0 : Fin 8)].lockoutPending = some .unbalance :=
  ⟨fun x _ => ⟨ready_of rfl rfl, rfl, by simp [placed, State.updStep, upd], by simp [placed, State.updStep, upd], rfl⟩,
    by decide⟩

/-- `base` with step 0 in a control-class operation. -/
def operating (x : StepState) (cls : CmdClass) (slot : Bool) : State :=
  base.updStep 0 fun y => { y with state := x, opClass := some cls, opCause := some .grant, slotHeld := slot }

theorem ready_operating (x : StepState) (cls : CmdClass) (slot : Bool) : Ready (operating x cls slot) := ready_of rfl rfl

theorem witness_UnitNotices :
    Ready base ∧ (∀ x cls slot, Ready (operating x cls slot)) ∧ (operating .closing .control true).stepState 0 = .closing ∧
      (operating .opening .control true).supervisor.steps[(0 : Fin 8)].opClass = some .control ∧
      (operating .opening .control true).supervisor.steps[(0 : Fin 8)].slotHeld = true ∧
      (operating .opening .trip false).supervisor.steps[(0 : Fin 8)].opClass ≠ some .control :=
  ⟨ready_base, ready_operating, by decide⟩

theorem witness_TripStartAndLockoutNotice :
    (∀ x : StepState, Ready (inState 0 x) ∧ (inState 0 x).stepState 0 = x) ∧
      (operating .opening .control true).supervisor.steps[(0 : Fin 8)].opClass ≠ some .trip ∧
      (operating .opening .trip false).supervisor.steps[(0 : Fin 8)].opClass = some .trip :=
  ⟨fun x => ⟨ready_of rfl rfl, by simp [inState, State.updStep, State.stepState, upd]⟩, by decide⟩

theorem witness_CloseOutcome :
    Ready base ∧ Ready (operating .closing .control true) ∧ (operating .closing .control true).stepState 0 = .closing ∧
      base.stepState 0 ≠ .closing ∧ CmdOutcome.unanswered ≠ .done :=
  ⟨ready_base, ready_operating _ _ _, by decide⟩

theorem witness_OpenOutcome :
    Ready base ∧ Ready (operating .opening .control true) ∧
      (operating .opening .control true).supervisor.steps[(0 : Fin 8)].state = .opening ∧
      (operating .opening .control true).supervisor.steps[(0 : Fin 8)].lockoutPending = none ∧
      (operating .opening .control true).supervisor.steps[(0 : Fin 8)].opClass ≠ some .trip ∧
      ((operating .opening .trip true).updStep 0 fun y =>
        { y with lockoutPending := some .closeFail }).supervisor.steps[(0 : Fin 8)].lockoutPending = some .closeFail ∧
      base.supervisor.steps[(0 : Fin 8)].state ≠ .opening :=
  ⟨ready_base, ready_operating _ _ _, by decide⟩

def sw (f : SwitchingState → SwitchingState) : State := base.updSwitching f

/-- `base` with the RMS_1 of the three bus phases. -/
def volts (v : Nat) (s : State) : State :=
  let r : ResultRecord := { ResultRecord.reset with rms := (Vector.replicate 15 0).set 0 v }
  { s with engine := { s.engine with results := ((s.engine.results.set 0 r).set 1 r).set 2 r } }

/-- The band limits of the Default row in force. -/
def band (w : SwitchingState) : SwitchingState := { w with uLo := 193000, uHi := 205000 }

theorem witness_EvaluationRules :
    base.yardDamaged = false ∧ (damaged [.yard]).yardDamaged = true ∧
      (∀ v ∈ busFundamentals (volts 59999 base), v < base.yard.deadLevel) ∧
      (∀ v ∈ busFundamentals (volts 60000 base), base.yard.deadLevel ≤ v) ∧
      (sw fun w => { w with valid := true, line := .live, deadCount := 5 }).switching.valid = true ∧
      (sw fun w => { w with line := .live }).switching.line = .live ∧ base.switching.line = .restore ∧
      (sw fun w => { w with line := .dead }).switching.line = .dead ∧ base.switching.valid = false ∧
      (sw fun w => { w with vctrl := some 205001, control := .autoWatch }).switching.vctrl = some 205001 ∧
      (sw band).switching.uHi < 205001 ∧ 205000 ≤ (sw band).switching.uHi ∧ 192999 < (sw band).switching.uLo ∧
      (sw band).switching.uLo ≤ 193000 := by decide

/-- Automatic control with a band timer at its delay, a selection or none, and a queue. -/
def banded (c : ControlState) (sel : Option Selection) (q : List QueueEntry) : State :=
  sw fun w => { band w with
    control := c, high := .running 30000, low := .running 30000, selection := sel, queue := q, vctrl := some 205001 }

theorem ready_banded (c : ControlState) (sel : Option Selection) (q : List QueueEntry) : Ready (banded c sel q) :=
  ready_of rfl rfl

def pick : Selection := { target := 0, action := .opn, token := 5117, expiry := 30000, requester := 5 }
def entry (k : CmdKind) (o : Origin) : QueueEntry := { kind := k, origin := o, arrival := 0 }
def fullQueue : List QueueEntry := List.replicate 4 (entry .opn (.manual 8))

/-- `banded` with an expiry held with the ΔV `rise`, 3 V above the lower limit and `rise`, and a slot that is HELD. -/
def heldBack (rise : Nat) : State :=
  (banded .autoHigh (some pick) [entry .close (.manual 8)]).updSwitching fun w =>
    { w with
      expiryHeld := some rise, vctrl := some (w.uLo + rise + 3), holder := some { target := 8, kind := .opn, reason := none } }

theorem witness_LineGoesDead :
    base.switching.expiryHeld = none ∧ base.switching.selection = none ∧ (heldBack 1).switching.expiryHeld = some 1 ∧
      (heldBack 1).switching.selection = some pick ∧ (heldBack 1).switching.control = .autoHigh := by decide

/-- R114, R121: a held expiry is judged with the ΔV of the expiry, whatever has been written since; R117: before the CLOSE
entries go. -/
theorem test_held_expiry :
    let s := { heldBack 1 with supervisor := (inState 0 .inService).supervisor }
    let t := s.putTables { s.memory.tables with yard := Held.fresh { s.yard with stepRise := 100000 } }
    (dropSelection t).switching.control = .autoPending ∧ (goDead t).switching.queue = [entry .opn (.auto .high)] ∧
      ((goDead t).events.entries.map fun e => e.kind) = [.lineDead, .selectionRemoved, .manualRefused] := by decide

/-- R117: the events of the line going DEAD, in their order: the line, the selection, the CLOSE entries. -/
theorem test_dead_events :
    ((goDead (banded .autoPending (some pick) [entry .close (.manual 8), entry .close (.auto .low)])).events.entries.map
      fun e => (e.kind, e.subject, e.value)) =
      [(.lineDead, .none, none), (.selectionRemoved, .step 0, some 16), (.manualRefused, .unit 8, some 16),
        (.closeDeferred, .none, some 16)] := by decide

/-- R114: a write of U_hi changes no judgement before the next evaluation. -/
theorem test_limits_in_force :
    let s := banded .autoHigh none []
    let t := s.putTables { s.memory.tables with yard := Held.fresh { s.yard with uLo := 1, uHi := 2 } }
    judgeLow 4000 s = judgeLow 4000 { t with memory := s.memory } ∧ t.switching.uLo = 193000 ∧
      (controlEvaluation t).switching.uLo = 1 := by decide

theorem witness_SwitchingTimers :
    Ready (sw fun w => { w with control := .autoSettle, settle := some 60000, restore := some 60000 }) ∧
      (∀ c sel q, Ready (banded c sel q)) ∧
      (197000 ≤ (sw band).switching.uLo + 4000 ∧ (sw band).switching.uLo + 4000 < 197001) ∧
      base.inCount = 0 ∧ 0 < (inState 0 .inService).inCount ∧
      4 ≤ (banded .autoHigh none fullQueue).switching.queue.length ∧
      (banded .autoHigh none []).switching.queue.length < 4 ∧
      ((sw band).switching.uHi ≤ 201000 + 4000 ∧ 200999 + 4000 < (sw band).switching.uHi) ∧
      base.energisedCount < base.yard.maxSteps ∧
      (allSteps.foldl (fun s i => s.updStep i fun y => { y with state := .inService }) base).energisedCount = 8 ∧
      (banded .autoHigh none []).switching.control = .autoHigh ∧
      (banded .autoHigh none []).switching.high = .running 30000 ∧
      (banded .autoHigh none []).switching.selection = none ∧
      (banded .autoLow (some pick) []).switching.selection ≠ none ∧ (heldBack 4000).switching.expiryHeld = some 4000 ∧ base.switching.control ≠ .autoHigh ∧
      base.switching.settle = none ∧ base.switching.restore = none ∧ base.switching.selection = none :=
  ⟨ready_of rfl rfl, ready_banded, by decide⟩

/-- R114: a timer whose count a written delay has reached expires, and one that is a millisecond short does not. -/
theorem test_reached_delay :
    let settling (n : Nat) := sw fun w => { w with control := .autoSettle, settle := some n, line := .live }
    (expireReached (settling 60000)).switching.control = .autoWatch ∧ expireReached (settling 59999) = settling 59999 ∧
      (expireReached (banded .autoHigh (some pick) [])).switching.expiryHeld = some 4000 := by decide

/-- `base` with step 0 READY, its unit's mechanism ready, and the line LIVE. -/
def closable (f : SwitchingState → SwitchingState) : State :=
  let s := (inState 0 .ready).updUnit 0 fun x => { x with ready := true }
  { s with
    switching := f { s.switching with line := .live }
    supervisor := { s.supervisor with openList := [0] } }

theorem witness_ManualGrants :
    fullQueue.Pairwise (fun a b => b.ahead a = false) ∧
      (sw fun w => { w with holder := some { target := 8, kind := .opn, reason := none } }).switching.holder ≠ none ∧
      base.switching.holder = none ∧ (sw fun w => { w with queue := fullQueue }).switching.queue = fullQueue ∧
      manualCheck 0 .close base = some .state ∧ manualCheck 0 .close (closable id) = none ∧
      (inState 0 .inService).stepState 0 = .inService := by decide

/-- An AUTO CLOSE that can be granted at 192,999 V, one volt below U_lo. -/
def lowVolts (v : Nat) : State := closable fun w => { band w with valid := true, vctrl := some v }

theorem witness_AutoGrants :
    ((lowVolts 192999).switching.valid = true ∧ (lowVolts 192999).switching.vctrl = some 192999 ∧
      192999 < (lowVolts 192999).switching.uLo) ∧ ¬ (193000 < (lowVolts 193000).switching.uLo) ∧
      (lowVolts 192999).switching.line = .live ∧ base.switching.line ≠ .live ∧
      (lowVolts 192999).energisedCount < (lowVolts 192999).yard.maxSteps ∧
      countBlocked ((lowVolts 192999).energisedCount + 1) (lowVolts 192999) = false ∧
      (lowVolts 192999).supervisor.openList = [] ++ 0 :: [] ∧ eligible (lowVolts 192999) 0 = true ∧
      eligible (inState 0 .cooling) 0 = false ∧
      openReasonStands .high (lowVolts 205001) = true ∧ openReasonStands .high (lowVolts 205000) = false ∧
      openReasonStands .detune base = false ∧ openChoice base = none ∧
      openChoice { inState 0 .inService with supervisor := { base.supervisor with closedList := [0] } } = some 0 := by
  decide

theorem witness_OutcomesAndDetune :
    Ready base ∧ Ready (banded .autoWatch none []) ∧ base.switching.holder = none ∧
      (sw fun w => { w with holder := some { target := 8, kind := .opn, reason := none } }).switching.holder =
        some { target := 8, kind := .opn, reason := none } ∧
      (banded .autoWatch none []).switching.control = .autoWatch ∧
      ¬ ((banded .autoWatch none fullQueue).switching.queue.length < 4) ∧ base.switching.control = .manual :=
  ⟨ready_base, ready_banded _ _ _, by decide⟩

theorem witness_ControlStepReport :
    Ready base ∧ base.switching.control = .manual ∧ (banded .autoWatch none []).switching.control ≠ .manual ∧
      (banded .autoPending none fullQueue).switching.control = .autoPending ∧
      (∀ e ∈ fullQueue, e.isAuto = false) ∧
      (banded .autoPending none [entry .opn (.manual 8), entry .close (.auto .low)]).switching.queue =
        [entry .opn (.manual 8)] ++ entry .close (.auto .low) :: [] ∧
      (entry .close (.auto .low)).isAuto = true := ⟨ready_base, by decide⟩

def statusOf (sender : Addr) (pos : Byte) (seq kind : Byte) : StatusFrame :=
  { port := .a, sender := sender, position := pos, ready := true, echoSeq := seq, echoKind := kind }

/-- `base` with a command of unit 0 in flight. -/
def inFlight (x : ContextState) (k : CmdKind) (cls : CmdClass) (attempts : Nat) : State :=
  base.updUnit 0 fun y => { y with
    timer := some { elapsed := 1000, limit := 1000 }
    context := { CommandContext.idle with
      state := x, kind := some k, cls := some cls, sequence := some 1, attempts := attempts } }

theorem ready_inFlight (x : ContextState) (k : CmdKind) (cls : CmdClass) (n : Nat) : Ready (inFlight x k cls n) :=
  ready_of rfl rfl

theorem witness_StatusFrameTaken :
    Ready base ∧ Ready (inFlight .sending .opn .control 1) ∧
      (∀ u, base.unitDamaged u = false ∧ (base.unitRow u).address ≠ 1) ∧
      (base.unitRow 0).address = (statusOf 100 1 1 1).sender ∧ (base.unitRow 8).address = 108 ∧
      (∀ v : Fin 9, v < 8 → (base.unitRow v).address ≠ 108) ∧
      (inFlight .sending .opn .control 1).commands[(0 : Fin 9)].context.state = .sending ∧
      (inFlight .sending .opn .control 1).commands[(0 : Fin 9)].context.kind = some .opn ∧
      (inFlight .sending .opn .control 1).commands[(0 : Fin 9)].context.sequence = some (statusOf 100 2 1 1).echoSeq.toNat ∧
      base.commands[(0 : Fin 9)].context.state = .idle :=
  ⟨ready_base, ready_inFlight _ _ _ _, by decide⟩

/-- A flip that strikes the row of the Yard Table, or of unit 0. -/
def yardFlip (double : Bool) : Strike := { row := .yard, double := double, held := .yard defaultYard }
def unitFlip : Strike := { row := .unit 0, double := true, held := .unit defaultUnit }

theorem witness_CommandRequest :
    (∀ x k cls n, Ready (inFlight x k cls n)) ∧ (strikeRows [unitFlip] (inFlight .sending .close .control 1)).phase = .running ∧
      (inFlight .awaitingMove .close .control 1).commands[(0 : Fin 9)].context.state = .awaitingMove ∧
      (inFlight .sending .opn .trip 1).commands[(0 : Fin 9)].context.cls = some .trip ∧
      base.commands[(8 : Fin 9)].context.state = .idle ∧ base.unitDamaged 0 = false ∧ stepUnit 0 = 0 ∧
      (damaged [.unit 0]).unitDamaged 0 = true ∧ (damaged [.unit 0]).commands[(0 : Fin 9)].context.state = .idle :=
  ⟨ready_inFlight, by decide⟩

/-- R137: a trip whose own event finds the unit's row DAMAGED hands the trip start before the outcome of the command that
the damage ends. -/
theorem test_trip_start_first :
    (after (strikeRows [unitFlip] (inFlight .sending .close .control 1))
      (.commandRequest { unit := 0, kind := .opn, cls := .trip, cause := .overheat })).map (fun t => t.mail.take 2) =
      some [.tripStart 0 .overheat, .closeOutcome 0 .unanswered] := by decide

theorem witness_CommandEnds :
    (inFlight .sending .opn .control 4).commands[(0 : Fin 9)].context.kind = some .opn ∧
      (inFlight .sending .close .control 4).commands[(0 : Fin 9)].context.kind = some .close ∧
      (base.updUnit 8 fun y => { y with context := { y.context with
        kind := some .opn, cls := some .trip } }).commands[(8 : Fin 9)].context.cls = some .trip := by decide

theorem witness_UnitTimers :
    Ready (inFlight .sending .opn .trip 4) ∧
      (inFlight .sending .opn .trip 4).commands[(0 : Fin 9)].context.cls = some .trip ∧
      (inFlight .sending .opn .trip 4).commands[(0 : Fin 9)].context.state = .sending ∧
      ((inFlight .sending .opn .trip 4).unitRow 0).attempts = 4 ∧
      (inFlight .awaitingMove .opn .trip 1).commands[(0 : Fin 9)].context.state = .awaitingMove ∧
      (inFlight .sending .opn .trip 4).commands[(0 : Fin 9)].timer ≠ none ∧
      (inFlight .sending .opn .trip 4).commands[(0 : Fin 9)].supervision = .alive ∧
      base.commands[(0 : Fin 9)].timer = none := ⟨ready_inFlight _ _ _ _, by decide⟩

def own (c : OriginClass) : OriginFrame :=
  { cls := c, frame := { destination := 1, source := 2, linkType := 0x88B5, body := .report true false 0 [] } }
def waiting (q : List OriginFrame) (f : List (List Byte)) (run : Nat) : PortState :=
  { PortState.reset with origin := q, forward := f, originRun := run }

theorem witness_OriginQueue :
    PortState.reset.tx = none ∧ PortState.reset.linkUp = true ∧ (waiting [own (.command 3)] [[1]] 2).originRun = 2 ∧
      (own (.command 3)).isCommand = true ∧ (waiting [own .report] [[1]] 1).originRun < 2 ∧
      (own .report).isCommand = false ∧ (waiting [own .report] [[1]] 2).forward = [[1]] ∧
      (waiting (List.replicate 16 (own (.reply false))) [] 0).origin.length = 16 ∧
      (waiting (List.replicate 15 (own .report)) [] 0).origin.length < 16 ∧ (own (.reply true)).isReply = true ∧
      (waiting [own (.command 0), own .report] [] 0).origin = [own (.command 0)] ++ own .report :: [] ∧
      (List.replicate 16 (own (.command 1))).all (fun g => g.cls ≠ .command 2 && g.cls ≠ .report && !g.isReply) = true := by
  decide

/-- A frame of 64 bytes: destination, source, link type, kind, version, and the rest zero. -/
def bytesOf (dest source : List Byte) (linkType : List Byte) (kind : Byte) (body : List Byte) : List Byte :=
  let bs := dest ++ source ++ linkType ++ [kind, 1] ++ body
  bs ++ List.replicate (64 - bs.length) 0

def stationBytes : List Byte := [2, 0, 0, 0, 0x59, 0xD8]
def otherBytes : List Byte := [2, 0, 0, 0, 0, 1]
def holdBytes : List Byte := bytesOf stationBytes otherBytes [0x88, 0xB5] 4 [0, 7, 0, 5]

/-- A request frame for the part with a name code and an argument length. -/
def requestBytes (code length : Byte) : List Byte :=
  bytesOf stationBytes otherBytes [0x88, 0xB5] 4 [0, 7, 0, code, 0, length]

theorem witness_FrameStages :
    Ready base ∧ base.ports.link = some defaultLink ∧ State.reset.phase = .inReset .cold ∧ State.reset.ports.link = none ∧
      holdBytes.length = 64 ∧ frameLinkType (content holdBytes) = defaultLink.linkType ∧
      frameLinkType (content (bytesOf stationBytes otherBytes [8, 0] 4 [])) ≠ defaultLink.linkType ∧
      stageThree (content holdBytes) = true ∧
      stageThree (content (bytesOf stationBytes otherBytes [0x88, 0xB5] 7 [])) = false ∧
      frameKind (content holdBytes) = 4 ∧ frameDestination (content holdBytes) = defaultLink.station ∧
      argumentsOf (content holdBytes) = some [] ∧ readRequest asker 5 [] = some (.hold asker) ∧
      frameKind (content (bytesOf stationBytes otherBytes [0x88, 0xB5] 1 [0, 0, 0, 0, 0, 1])) = 1 ∧
      stageThree (content (bytesOf stationBytes otherBytes [0x88, 0xB5] 1 [0, 0, 0, 0, 0, 1])) = true ∧
      stageThree (content (bytesOf stationBytes otherBytes [0x88, 0xB5] 2 [])) = true ∧
      stageThree (content (bytesOf otherBytes otherBytes [0x88, 0xB5] 4 [])) = true ∧ readRequest asker 5 [] ≠ none ∧
      readRequest asker 10 [0, 0, 0, 7] ≠ none ∧ readRequest asker 3 [1, 0, 0, 0, 5] ≠ none ∧
      readRequest asker 5 [0] = none ∧ readRequest asker 22 [] = none ∧
      argumentsOf (content (requestBytes 5 255)) = none ∧ stageThree (content (requestBytes 5 255)) = true :=
  ⟨ready_base, by decide⟩

/-- 9.5: the bytes of a HOLD request, addressed to the Default station address, are read as that request (code 5). -/
theorem test_hold_frame :
    (after base (.frameReceived .a holdBytes true)).map (fun t => t.mail) =
      some [.hold { port := .a, address := 0x020000000001, identifier := 7 }] := by decide

/-- R160: a frame that names no request is answered UNKNOWN_REQUEST, one with an argument too many RANGE. -/
theorem test_unread_requests :
    let code (bs : List Byte) : Option Nat := (after base (.frameReceived .a bs true)).bind fun t =>
      match t.ports.lineA.tx with
      | some (.origin f) => match f.frame.body with
        | .reply _ c _ _ _ => some c
        | _ => none
      | _ => none
    code (requestBytes 22 0) = some (codeNumber .unknownRequest) ∧ code (requestBytes 5 1) = some (codeNumber .range) ∧
      code (requestBytes 5 0) = none := by decide

theorem witness_PortEvents :
    Ready base ∧
      Ready (base.setPort .a { base.ports.lineA with tx := some (.origin (own (.reply true))), linkUp := false }) ∧
      base.ports.lineA.tx = none ∧ base.ports.lineA.linkUp = true ∧
      (base.setPort .b { base.ports.lineB with tx := some (.forward [1]) }).ports.lineB.tx = some (.forward [1]) ∧
      State.reset.phase = .inReset .cold ∧ State.reset.ports.lineA.tx = none ∧
      (State.reset.setPort .a { State.reset.ports.lineA with tx := some (.forward [1]) }).ports.lineA.tx =
        some (.forward [1]) := ⟨ready_base, ready_of rfl rfl, by decide⟩

theorem witness_RequestsAndReads :
    Ready base ∧ Heard asker base ∧ requesterOf (.hold asker) = some asker ∧ base.agent.restartWait = none ∧
      permitted 5 { base with ports := { base.ports with link := some { defaultLink with requesters := [6] } } } = false ∧
      ({ base with agent := { base.agent with restartWait := some 0 } } : State).agent.restartWait ≠ none ∧
      (addressed .harmonic 2 8).isSome = true ∧ (addressed .harmonic 16 1).isSome = true ∧ addressed .harmonic 1 1 = none ∧
      addressed .unit 8 2 = none ∧ addressed .yard 0 0 = none ∧
      ([0, 37] : List (Fin 38)).length ≤ 8 ∧ 38 ≤ 38 ∧ 1023 < 1024 ∧ 1023 ≤ 1023 ∧
      base.events.buffers[(0 : Fin 2)].status ≠ .ready ∧
      (base.updBuffer 0 fun b => { b with status := .ready }).events.buffers[(0 : Fin 2)].status = .ready :=
  ⟨ready_base, heard_base, by decide⟩

/-- R170: from the number named on; from the oldest for a number before it; none for one after the newest. -/
theorem test_events_read :
    let s := logEvent .lineLive .none none (logEvent .lineDead .none none { base with events := { base.events with next := 5 } })
    ((eventsRead 6 s).map fun e => e.sequence) = [6] ∧ ((eventsRead 3 s).map fun e => e.sequence) = [5, 6] ∧
      eventsRead 7 s = [] := by decide

theorem witness_SelectBeforeOperate :
    Ready base ∧ Heard asker base ∧ (∀ c sel q, Ready (banded c sel q) ∧ Heard asker (banded c sel q)) ∧
      (∀ r ∈ allRows, (damaged [.yard]).memory.tables.damagedAt r = true ∨
        (damaged [.yard]).memory.tables.upsetAt r = .clean) ∧
      (damaged [.yard]).yardDamaged = true ∧ base.switching.selection = none ∧ manualCheck 0 .close base = some .state ∧
      manualCheck 8 .opn base = none ∧ pick.requester = asker.address ∧ pick.token = 5117 % 65536 ∧
      pick.token ≠ 5118 % 65536 ∧ 4 ≤ fullQueue.length ∧
      4 ≤ (entry .opn (.auto .detune) :: fullQueue.drop 1).length ∧ (entry .opn (.auto .detune)).isAuto = true :=
  ⟨ready_base, heard_base, fun _ _ _ => ⟨ready_banded _ _ _, heard_base⟩, by decide⟩

/-- R129: with the Yard Table DAMAGED a SELECT of a close fails SETTINGS, though the step is not READY either. -/
theorem test_select_settings :
    selectCheck 0 .close (damaged [.yard]) = some .settings ∧ selectCheck 0 .close base = some .state ∧
      selectCheck 8 .opn (damaged [.yard]) = none := by decide

theorem witness_StepRequests :
    Ready base ∧ Heard asker base ∧ Ready (inState 0 .inService) ∧ base.keylock = false ∧
      (base.stepRow 0).inUse = true ∧ base.stepDamaged 0 = false ∧
      (inState 0 .lockout).stepState 0 = .lockout ∧ base.stepState 0 = .withdrawn ∧
      (placed .lockout (some .opened) false).supervisor.steps[(0 : Fin 8)].unitSupervision = .alive ∧
      (placed .lockout (some .opened) false).supervisor.steps[(0 : Fin 8)].lastPosition = some .opened ∧
      (base.stepRow 0).neutralPresent = true ∧ base.unbalance.context = none ∧
      (nulling 0 .good 0).unbalance.context ≠ none ∧ base.engine.results[stepInput 0 3].quality ≠ .good ∧
      stepInput 0 3 = 9 :=
  ⟨ready_base, heard_base, ready_of rfl rfl, by decide⟩

def listed : State := logEvent .lineLive .none none (logEvent .lineDead .none none base)

theorem witness_OtherRequests :
    Ready base ∧ Heard asker base ∧ base.switching.control = .manual ∧
      (sw fun w => { w with control := .autoLow }).switching.control ≠ .manual ∧ base.yardDamaged = false ∧
      (damaged [.yard]).yardDamaged = true ∧ (listed.events.entries.map fun e => e.sequence) = [1, 2] ∧
      (listed.events.entries.all fun e => e.sequence ≠ 3) = true ∧ afterNewest 3 listed = true ∧
      afterNewest 0 listed = false ∧ base.keylock = false ∧ base.memory.storing = false ∧
      base.events.buffers[(0 : Fin 2)].status ≠ .ready := ⟨ready_base, heard_base, by decide⟩

def rawYard : RawYard :=
  { frequency := 50, uLo := 193000, uHi := 197001, stepRise := 4000, highDelay := 1, lowDelay := 600, settleTime := 5,
    deadLevel := 192999, deadDelay := 100, restoreHold := 5, maxSteps := 8, startMode := 1, selectTimeout := 120 }

/-- A Stream Table row as written: in use or not, sender 2, and one channel that feeds an input or none. -/
def rawStream (inUse : Nat) (m : Option Int) : RawStream :=
  { inUse := inUse, address := 2, streamNumber := 0, channelCount := 1, map := (Vector.replicate 12 none).set 0 m
    lossTimeout := 50, acceptSimulated := 1 }

def rawStep : RawStep :=
  { inUse := 2, neutralPresent := 2, alarmLevel := 200, tripLevel := 500, alarmDelay := 250, tripDelay := 10, compMode := 1
    kr := 0, ki := 0, rated := 100000, thermalCode := 12, heatAlarm := 1509949, heatTrip := 1772093, heatReclose := 786432
    dischargeTime := 300, opsLimit := 4, opsBase := 2, decayPeriod := 15 }

def rawUnit (a : Addr) : RawUnit := { address := a, retry := 4, attempts := 4, operateTime := 100, statusTimeout := 1000 }

def rawLink (station : Addr) (requesters : List Addr) : RawLink :=
  { station := station, linkType := 0x88B5, destination := 6, period := 60, requesters := requesters }

/-- How a write to `s` is judged: its refusal, or whether a field was clamped. -/
def judged (s : State) (first : Nat) (rows : RawRows) : Code ⊕ Bool :=
  match writeTable first rows s with
  | .error c => .inl c
  | .ok x => .inr x.1

theorem witness_TableWrites :
    Ready base ∧ Heard asker base ∧ addressed .yard 0 1 = some [.yard] ∧ addressed .yard 1 1 = none ∧
      (yardTaken rawYard).uLo + (yardTaken rawYard).stepRise < (yardTaken rawYard).uHi ∧
      (yardTaken rawYard).deadLevel < (yardTaken rawYard).uLo ∧
      (yardTaken { rawYard with uHi := 197000 }).uHi ≤ (yardTaken rawYard).uLo + (yardTaken rawYard).stepRise ∧
      (yardTaken rawYard).uLo ≤ (yardTaken { rawYard with deadLevel := 193000 }).deadLevel ∧
      [((15 : Fin 16), rawStream 2 (some 37))].map (fun x => x.1.val) = List.range' 15 1 ∧
      (testTables.stream.set 15 (Held.fresh (streamTaken (rawStream 2 (some 37))).1))[(15 : Fin 16)] =
        Held.fresh (streamTaken (rawStream 2 (some 37))).1 :=
  ⟨ready_base, heard_base, by decide, by decide, by decide, by decide, by decide, by decide, rfl, rfl⟩

/-- `testTables` with a row in use at stream 15 that feeds MI 6, the phase A input of step 0. -/
def feeding : Tables :=
  { testTables with stream := testTables.stream.set 15 (Held.fresh (streamTaken (rawStream 2 (some 6))).1) }

/-- Stream 15 RUNNING and step 0 in READY. -/
def feedingReady : State :=
  ((inState 0 .ready).updStream 15 fun x => { x with status := .running }).putTables feeding

/-- R113: the Yard Table's checks and clamps. R2, R3: the Stream Table's checks in their order. -/
theorem test_yard_and_stream_writes :
    judged base 0 (.yard [rawYard]) = .inr false ∧ judged base 0 (.yard [{ rawYard with uLo := 0, deadLevel := 0 }]) = .inr true ∧
      judged base 0 (.yard [{ rawYard with maxSteps := 9 }]) = .inl .range ∧
      judged base 0 (.yard [{ rawYard with uHi := 197000 }]) = .inl .bandNarrow ∧
      judged base 15 (.stream [rawStream 2 (some 37)]) = .inr false ∧
      judged base 15 (.stream [{ rawStream 2 (some 37) with lossTimeout := 51 }]) = .inr true ∧
      judged base 15 (.stream [rawStream 2 (some 38)]) = .inl .range ∧
      judged base 14 (.stream [rawStream 2 none, rawStream 2 none]) = .inl .duplicate ∧
      judged base 15 (.stream [rawStream 1 (some 1)]) = .inl .duplicate ∧
      judged feedingReady 15 (.stream [rawStream 1 none]) = .inl .stepInService := by
  decide +kernel

/-- R5, R56, R74, R91: the Input and Step Tables' checks; those of a Step Table write go check by check over its rows. -/
theorem test_input_and_step_writes :
    judged base 2 (.input [{ nominal := 1, kind := 1 }, { nominal := 8388607, kind := 2 }]) = .inr false ∧
      judged base 2 (.input [{ nominal := 1, kind := 2 }]) = .inl .range ∧
      judged base 0 (.step [rawStep]) = .inr false ∧ judged base 0 (.step [{ rawStep with opsBase := 3, opsLimit := 16 }]) = .inr true ∧
      judged (inState 1 .inService) 0 (.step [{ rawStep with opsBase := 4 }, { rawStep with inUse := 1 }]) =
        .inl .stepInService ∧
      judged base 0 (.step [{ rawStep with alarmLevel := 500 }, { rawStep with kr := 100001 }]) = .inl .range ∧
      judged base 0 (.step [{ rawStep with rated := 0 }, { rawStep with alarmLevel := 500 }]) = .inl .order ∧
      judged base 0 (.step [{ rawStep with opsBase := 4 }, { rawStep with rated := 0 }]) = .inl .range ∧
      judged base 0 (.step [{ rawStep with heatReclose := 1509949 }]) = .inl .order ∧
      judged { damaged [.step 0] with supervisor := (inState 0 .lockout).supervisor } 0
        (.step [{ rawStep with inUse := 1 }]) = .inr false := by decide

/-- R39, R40, R134, R155: the checks of the other tables' writes. -/
theorem test_other_writes :
    judged base 16 (.harmonic [{ supervise := 2, alarmLevel := 10001, blockLevel := 1, pickup := 1, dropout := 600 }]) =
        .inr true ∧
      judged base 2 (.harmonic [{ supervise := 3, alarmLevel := 1, blockLevel := 1, pickup := 1, dropout := 1 }]) =
        .inl .range ∧
      judged base 0 (.resonance [{ orders := [2, 15] }, { orders := [] }]) = .inr false ∧
      judged base 0 (.resonance [{ orders := [3, 2] }, { orders := [16] }]) = .inl .order ∧
      judged base 0 (.resonance [{ orders := [3, 3, 2] }]) = .inl .duplicate ∧
      judged base 8 (.unit [rawUnit 108]) = .inr false ∧ judged base 8 (.unit [rawUnit 100]) = .inl .duplicate ∧
      judged (inFlight .sending .opn .trip 1) 0 (.unit [rawUnit 9]) = .inl .unitBusy ∧
      judged base 0 (.link [rawLink 2 [5, 7]]) = .inr false ∧ judged base 0 (.link [rawLink 0 []]) = .inl .range ∧
      judged base 0 (.link [rawLink 2 [5, 5]]) = .inl .duplicate := by decide

theorem witness_Resets :
    base.phase = .running ∧ ({ base with agent := { base.agent with restartWait := some 0 } } : State).agent.restartWait ≠ none ∧
      base.agent.restartWait = none ∧ State.reset.phase ≠ .running := by decide

/-- A part in reset with a VALID image of `testTables` and the rows of `rows` stored DAMAGED. -/
def imaged (rows : List RowRef) : State :=
  { State.reset with
    memory :=
      { State.reset.memory with
        imageValid := true, image := some (rows.foldl (fun t r => t.mapAt r Held.fail) testTables) } }

/-- What a RESTART has kept of the two buffers. -/
def kept (a b : BufferStatus) : State :=
  { State.reset with
    phase := .inReset .restart
    events :=
      { State.reset.events with
        buffers := #v[{ CaptureBuffer.free with status := a }, { CaptureBuffer.free with status := b }] } }

theorem witness_StartUp :
    base.phase = .running ∧ State.reset.phase = .inReset .cold ∧ (∀ i, State.reset.stepState i = .withdrawn) ∧
      State.reset.memory.imageValid = false ∧ (∀ r ∈ allRows, testTables.damagedAt r = false ∧ testTables.upsetAt r = .clean) ∧
      (∀ b : Fin 2, State.reset.events.buffers[b].status = .free) ∧ (imaged []).memory.imageValid = true ∧
      (imaged []).memory.image = some testTables ∧ (imaged []).phase = .inReset .cold ∧
      (∀ i, (imaged []).stepState i = .withdrawn) ∧
      (∀ m : Fin 38, (imaged []).acceptance.inputs[m].fill = .unmapped) ∧
      (∀ (n : Fin 6) (i : Fin 15), (imaged []).harmonic.elements[n][i] = none) ∧
      (kept .ready .armed).events.buffers[(1 : Fin 2)].status = .armed ∧
      (kept .ready .free).events.buffers[(1 : Fin 2)].status = .free ∧
      (∀ b : Fin 2, (kept .ready .free).events.buffers[b].status ≠ .armed) ∧
      (∀ b : Fin 2, (kept .ready .ready).events.buffers[b].status ≠ .free) := by decide

/-- R168: a row that fails its check bits as it is loaded is DAMAGED, with its event ahead of START_UP; R173: a RESTART that
kept a READY buffer arms the other one. -/
theorem test_damaged_at_start_up :
    (after (imaged []) (.startUp [yardFlip true])).map
        (fun t => (t.yardDamaged, t.memory.damaged, t.events.entries.map fun e => e.kind, t.switching.restore)) =
      some (true, 1, [.tableDamaged, .startUp], none) ∧
    (after (kept .ready .free) (.startUp [])).map (fun t => t.events.buffers.toList.map fun b => b.status) =
      some [.ready, .armed] := by decide

/-- `base` struck by flips. -/
def struck (xs : List Strike) : State := strikeRows xs base

/-- `struck` with stream 0 RUNNING at counter 9, MI 0 COLLECTING, and a MANUAL close that waits for a FREE slot. -/
def usesYard (queue : List QueueEntry) : State :=
  setFill 0 .collecting ({ struck [yardFlip true] with
    acceptance := (streaming 9).acceptance
    switching := { base.switching with queue := queue } }.updStep 0 fun x => { x with state := .ready })

/-- `base` with a STORE in progress that has copied the first `n` rows into `image`. -/
def copying (n : Nat) (image : Tables) : State :=
  { base with memory := { base.memory with storing := true, copied := n, image := some image } }

theorem witness_RowReadsAndStore :
    Ready base ∧ Ready (copying 55 testTables) ∧ (copying 55 testTables).memory.storing = true ∧
      55 + 41 < 97 ∧ 97 ≤ 55 + 42 ∧
      (∀ x : StepState, (inState 0 x).stepState 0 = x) ∧
      (damaged [.yard]).memory.tables.damagedAt .yard = true ∧
      (struck [yardFlip false]).memory.tables.damagedAt .yard = false ∧
      (struck [yardFlip false]).memory.tables.upsetAt .yard = .single ∧
      (struck [yardFlip true]).memory.tables.damagedAt .yard = false ∧
      (struck [yardFlip true]).memory.tables.upsetAt .yard = .double ∧
      (∀ r' ∈ allRows, r' ≠ .yard → (struck [yardFlip true]).memory.tables.upsetAt r' = .clean) ∧
      (nulling 5 .good 0).unbalance.context = some { step := 0, counted := 5, sumR := 0, sumI := 0 } ∧
      base.unbalance.context = none ∧ (∀ e ∈ fullQueue, e.isAuto = false) ∧
      (banded .autoPending none [entry .opn (.manual 8), entry .close (.auto .low)]).switching.queue =
        [entry .opn (.manual 8)] ++ entry .close (.auto .low) :: [] ∧
      (usesYard []).phase = .running ∧ (usesYard []).switching.selection = none ∧ (usesYard []).switching.queue = [] ∧
      (∀ i, (usesYard []).memory.tables.upsetAt (.stream i) = .clean) ∧
      (usesYard []).memory.tables.upsetAt .yard = .double ∧
      (∀ m : Fin 38, (acceptFrame (sample 10 2 false)
        ((usesYard []).dropMail (.sampleFrame (sample 10 2 false)))).engine.results[m].sequence =
          (usesYard []).engine.results[m].sequence) ∧
      [RowRef.link, .yard] = [.link] ++ .yard :: [] ∧ (usesYard []).memory.tables.upsetAt .link = .clean ∧
      base.memory.storing = false ∧ base.phase = .running ∧ State.reset.phase ≠ .running :=
  ⟨ready_base, ready_of rfl rfl, rfl, by decide, by decide, fun x => by simp [inState, State.updStep, State.stepState, upd], by decide⟩

/-- R165: a row that an act does not use is not read: neither by a frame that publishes nothing, nor by a step report that
grants nothing. A frame that abandons a window of MI 0, and a report that leads to the grant of a close, use the Yard
Table. -/
theorem test_only_used_rows_read :
    let report : Instr := .controlStepReport { step := 3, old := .cooling, new := .ready, cause := .discharged, slotHeld := false }
    let bad : Channel := { chan 1 with quality := 2 }
    [after (usesYard []) (.sampleFrame (sample 10 2 false)), after (usesYard []) report,
      after (usesYard []) (.sampleFrame { sample 10 2 false with channels := [bad, chan 1] }),
      after (usesYard [entry .close (.manual 0)]) report].map
        (fun t => t.map fun t => t.memory.damaged) = [some 0, some 0, some 1, some 1] := by decide +kernel

/-- R110, R133, R147: the acts of the owners of a Step, the Yard and a Breaker Unit row that a scrub finds DAMAGED. -/
theorem test_owner_acts :
    (after (inState 0 .inService) (.scrubPass [{ row := .step 0, double := true, held := .step defaultStep }] [])).map
        (fun t => (t.mail, t.supervisor.steps[(0 : Fin 8)].lockoutPending, t.memory.damaged)) =
      some ([.commandRequest { unit := 0, kind := .opn, cls := .trip, cause := .settingsFault }], some .settingsFault, 1) ∧
    (after (banded .autoHigh none []) (.scrubPass [yardFlip true] [])).map
        (fun t => (t.switching.control, t.switching.restore, t.memory.scrubLeft)) = some (.manual, none, 10000) ∧
    (after (inFlight .sending .close .control 1) (.scrubPass [unitFlip] [])).map
        (fun t => (t.mail, t.commands[(0 : Fin 9)].timer)) =
      some ([.closeOutcome 0 .unanswered, .unitSupervisionNotice 0 .silent], none) := by decide

/-- R167: a STORE that completes and verifies leaves its image VALID, with the event. The row of step 0, copied before the
end, stands as it was copied; that of step 1, which was left, as it stands now. -/
theorem test_store_done :
    (after (copying 55 Tables.defaults) (.storeCompletion 42 (some true))).map
        (fun t => (t.memory.storing, t.memory.imageValid, t.memory.storeInvalid, t.events.entries.map fun e => e.kind)) =
      some (false, true, false, [.storeDone]) ∧
    (after (copying 55 Tables.defaults) (.storeCompletion 42 (some true))).map
        (fun t => t.memory.image.map fun m => (m.step[(0 : Fin 8)].row.inUse, m.step[(1 : Fin 8)].row.inUse)) =
      some (some (false, true)) := by decide

/-- R165, R167: a row that fails its check bits as it is copied is copied DAMAGED, and the store goes on to the next. -/
theorem test_store_copies_damaged :
    (after (strikeRows [yardFlip true] (copying 86 Tables.defaults)) (.storeCompletion 1 (some true))).map
        (fun t => (t.memory.image.map fun m => m.yard.damaged, t.memory.copied, t.memory.damaged, t.memory.storing)) =
      some (some true, 87, 1, true) := by decide

/-- `base` with capture buffer 0 in a status. -/
def buffered (x : BufferStatus) : State := base.updBuffer 0 fun b => { b with status := x }

theorem witness_EventsAndCapture :
    Ready base ∧ Ready (buffered .armed) ∧ base.events.entries.length < 256 ∧
      256 ≤ (List.range 256).length ∧ (∀ b : Fin 2, base.events.buffers[b].status ≠ .armed) ∧
      (buffered .armed).events.buffers[(0 : Fin 2)].status = .armed ∧
      (buffered .recording).events.buffers[(0 : Fin 2)].status = .recording ∧
      (buffered .ready).events.buffers[(0 : Fin 2)].status = .ready ∧
      (buffered .ready).events.buffers[(1 : Fin 2)].status = .free :=
  ⟨ready_base, ready_of rfl rfl, by decide⟩

/-- R172: an ARMED buffer keeps the values of MI 6 and none of MI 3. -/
theorem test_capture_keeps :
    let x : CapSample := { value := 7, counter := 3, filled := false }
    (handSample 6 7 3 false (buffered .armed)).events.buffers[(0 : Fin 2)].kept[6] = [x] ∧
      (handSample 3 7 3 false (buffered .armed)).events.buffers[(0 : Fin 2)].kept[3] = [] := by decide

/-- `base` with a report destination, and a change that waits. -/
def reportingState (pending : Bool) (hold : Nat) : State :=
  { base with
    ports := { base.ports with link := some { defaultLink with destination := 6 } }
    events := { base.events with changePending := pending, changeHold := hold } }

/-- R165, R171: a change report reads the Link Table as it is made: damage found then is in the report. -/
theorem test_report_reads_link :
    let s := strikeRows [{ row := .link, double := true, held := .link defaultLink }] (reportingState false 0)
    (after s (.keylockChange true)).map (fun t => (t.memory.damaged, t.events.changePending, t.events.changeHold,
        t.events.entries.map fun e => e.kind)) = some (1, false, 100, [.tableDamaged]) := by decide

/-- 9.5: ready is sent as 0 while the mechanism is not charged. -/
theorem test_ready_number :
    (unitStatus base 0)[1]? = some (.name 0) ∧
      (unitStatus (base.updUnit 0 fun x => { x with ready := true }) 0)[1]? = some (.name 1) := by decide

/-- R18, R42: start-up with stream 0 mapping MI 0 and MI 1, the row of MI 1 DAMAGED, and order 5 supervised. -/
theorem test_start_up_blocks :
    (after (imaged [.input 1]) (.startUp [])).map (fun t =>
        ((t.acceptance.inputs.toList.take 3).map fun x => x.fill, t.harmonic.elements[(5 : Fin 6)][(3 : Fin 15)],
          t.harmonic.elements[(5 : Fin 6)][(2 : Fin 15)], t.engine.ageLeft)) =
      some ([.aligning, .unmapped, .unmapped], some .off, none, 20) := by decide

theorem witness_Reports :
    Ready base ∧ Ready (reportingState true 0) ∧ base.link.destination = 0 ∧
      (reportingState true 0).link.destination ≠ 0 ∧
      yardSummary base ≠ yardSummary { reportingState false 0 with keylock := true } ∧
      yardSummary (reportingState false 0) = yardSummary (reportingState true 1) ∧
      (reportingState false 0).events.changePending = false ∧ (reportingState true 0).events.changePending = true ∧
      (reportingState false 0).events.changeHold = 0 ∧ 0 < (reportingState true 1).events.changeHold :=
  ⟨ready_base, ready_of rfl rfl, by decide⟩

/-- An idle part steps to a next state from reset, so the premises of the invariants are met together. -/
theorem witness_Kept :
    (∃ t, step State.reset = .next t) ∧ EventsOk State.reset ∧ QueueOk State.reset ∧ DutyOk State.reset ∧
      ReadyDischarged State.reset := by
  refine ⟨⟨_, rfl⟩, ⟨by decide, by decide, fun k h => absurd h (by simp [State.reset, EventState.reset])⟩,
    ⟨fun _ => rfl, by decide, ⟨[], [], rfl, rfl, rfl, by decide⟩, by decide⟩, ?_, ?_⟩
  · unfold DutyOk; decide
  · unfold ReadyDischarged; decide

theorem witness_ListsKept : ListsOk State.reset := ⟨fun _ => by decide, by decide⟩

theorem witness_SlotKept : SlotOk State.reset :=
  ⟨by simp [State.reset], fun _ => by decide, by decide, by decide, by simp [State.reset], by decide⟩

theorem witness_EngineKept : EngineOk State.reset := by
  have free : ∀ (m : Fin 38) (w : Fin 2), (State.reset.window m w).state = .free := by decide
  have none : ∀ m : Fin 38, State.reset.engine.notices[m] = none := by decide
  refine ⟨fun _ => by decide, by decide, fun _ => rfl, by decide, fun m w => ⟨fun h => ?_, fun ⟨b, h⟩ => ?_⟩, by decide,
    by decide, fun m waits h => ?_⟩
  · exact absurd h (by simp [State.reset, EngineState.reset])
  · rw [free] at h; cases h
  · rw [none] at h; cases h

theorem witness_TablesKept : TablesOk State.reset :=
  ⟨fun _ => rfl, by decide, by decide, by simp [State.reset], by simp [State.reset]⟩

end Sys2Proof.Tests
end

namespace Sys2Proof.Machine

/-! ## Harmonic ratios (R27, R28) -/

/-- R27: the second condition of the mark keeps a zero fundamental out of every ratio's divisor. -/
theorem lowFundamentalOf_eq_false_iff (nominal rms1 : Nat) :
    lowFundamentalOf nominal rms1 = false ↔ nominal / 16 ≤ rms1 ∧ 0 < rms1 := by
  simp [lowFundamentalOf, Nat.pos_iff_ne_zero]

/-- R28: a ratio saturates exactly when the order's RMS value is at least 6.5535 times the fundamental. -/
theorem ratioOf_saturated_iff {rms1 : Nat} (hpos : 0 < rms1) (x : Nat) :
    65535 ≤ ratioOf rms1 x ↔ 65535 * rms1 ≤ 10000 * x := by
  calc 65535 ≤ ratioOf rms1 x
      ↔ 65535 ≤ x * 10000 / rms1 := by simp [ratioOf]
    _ ↔ 65535 * rms1 ≤ x * 10000 := Nat.le_div_iff_mul_le hpos
    _ ↔ 65535 * rms1 ≤ 10000 * x := by rw [Nat.mul_comm x]

section
variable {w : Window} {nominal : Nat} {old : ResultRecord}

theorem computeRecord_lowFundamental :
    (computeRecord w nominal old).lowFundamental =
      lowFundamentalOf nominal (computeRecord w nominal old).rms[0] := rfl

theorem computeRecord_fundamental_pos (hclear : (computeRecord w nominal old).lowFundamental = false) :
    0 < (computeRecord w nominal old).rms[0] := by
  rw [computeRecord_lowFundamental, lowFundamentalOf_eq_false_iff] at hclear
  exact hclear.2

theorem computeRecord_ratio (h : Fin 14) :
    (computeRecord w nominal old).ratios[h] =
      if (computeRecord w nominal old).lowFundamental then 0
      else ratioOf (computeRecord w nominal old).rms[0] (computeRecord w nominal old).rms[h.val + 1] :=
  Vector.getElem_ofFn h.isLt

theorem computeRecord_ratio_of_clear (hclear : (computeRecord w nominal old).lowFundamental = false) (h : Fin 14) :
    (computeRecord w nominal old).ratios[h] =
      ratioOf (computeRecord w nominal old).rms[0] (computeRecord w nominal old).rms[h.val + 1] := by
  rw [computeRecord_ratio, if_neg (by simp [hclear])]

end

/-- Settles O9: a clear mark makes each published ratio `ratioOf` of its order over a fundamental that is not zero. -/
theorem harmonicRatios : Obligations.HarmonicRatios := by
  intro w nominal old hclear h
  have hratio := computeRecord_ratio_of_clear hclear h
  refine ⟨hratio, fun hsat => ?_⟩
  rw [hratio] at hsat
  exact (ratioOf_saturated_iff (computeRecord_fundamental_pos hclear) _).mp hsat

end Sys2Proof.Machine

namespace Sys2Proof.Machine

/-! ## The alarm elements (R44, R45) -/

theorem limitNumber_eq (i : Fin 15) : limitNumber i = if i.val = 14 then 0 else i.val + 2 := by
  simp [limitNumber, Fin.ext_iff]

/-- R45: an event is written exactly when the standing of the element changes. -/
theorem logElement_eq (k : Fin 6) (i : Fin 15) (a b : Bool) (s : State) :
    logElement k i a b s =
      if !a && b then logEvent .harmonicAlarmOn (.input (supervisedInput k)) (some (limitNumber i)) s
      else if a && !b then logEvent .harmonicAlarmOff (.input (supervisedInput k)) (some (limitNumber i)) s
      else s := by
  simp [logElement]

theorem moveElement_of_some {k : Fin 6} {i : Fin 15} {s : State} {e : Element} (record : ResultRecord)
    (he : s.harmonic.elements[k][i] = some e) :
    let row := s.memory.tables.harmonic[i].row
    let e' := e.move (row.alarmLevel ≤ limitValue record.ratios record.thd i) row.pickup row.dropout
    moveElement k record s i = logElement k i e.standing e'.standing (setElement k i (some e') s) := by
  simp only [moveElement, he]

/-! The two movements that a delay governs: a first result starts the count, a later one raises it. -/

theorem move_off_above (p q : Nat) : Element.off.move true p q = if p ≤ 1 then .on else .picking 1 := rfl

theorem move_picking_above (p q c : Nat) :
    (Element.picking c).move true p q = if p ≤ c + 1 then .on else .picking (c + 1) := rfl

theorem move_on_below (p q : Nat) : Element.on.move false p q = if q ≤ 1 then .off else .dropping 1 := rfl

theorem move_dropping_below (p q c : Nat) :
    (Element.dropping c).move false p q = if q ≤ c + 1 then .off else .dropping (c + 1) := rfl

/-- R44: a movement that counts up to a delay `d` reaches its end state at the `d`-th consecutive result, and until
then stands at the number of results taken. -/
theorem iterate_counting {f : Element → Element} {start stop : Element} {counting : Nat → Element} {d : Nat}
    (hfirst : f start = if d ≤ 1 then stop else counting 1)
    (hnext : ∀ c, f (counting c) = if d ≤ c + 1 then stop else counting (c + 1))
    {n : Nat} (hpos : 1 ≤ n) (hn : n ≤ d) : f^[n] start = if n = d then stop else counting n := by
  induction n, hpos using Nat.le_induction with
  | base =>
    have hreached : d ≤ 1 ↔ 1 = d := by omega
    simp only [Function.iterate_one, hfirst, hreached]
  | succ n _ ih =>
    have hreached : d ≤ n + 1 ↔ n + 1 = d := by omega
    have hbefore : f^[n] start = counting n := by rw [ih (by omega), if_neg (by omega)]
    rw [Function.iterate_succ_apply', hbefore, hnext]
    simp only [hreached]

/-- Settles O12: the movement and its event from `moveElement` and `logElement`, the two delays from
`iterate_counting`. -/
theorem alarmElementMoves : Obligations.AlarmElementMoves := by
  refine ⟨fun k i record s e he => ?_, fun p q n => ?_, fun p q n => ?_⟩
  · have hmove := moveElement_of_some record he
    simp only [logElement_eq, limitNumber_eq] at hmove
    exact hmove
  · exact iterate_counting (move_off_above p q) (move_picking_above p q)
  · exact iterate_counting (move_on_below p q) (move_dropping_below p q)

end Sys2Proof.Machine

namespace Sys2Proof.Machine

/-! ## The counters of the unbalance stages (R60) -/

/-- R60: the threshold lies at or below the level, so a U below it is below the level too. -/
theorem resetThreshold_le (level : Nat) : resetThreshold level ≤ level := by
  unfold resetThreshold
  omega

theorem resetThreshold_of_le_sixteen {level : Nat} (hpos : 1 ≤ level) (hle : level ≤ 16) :
    resetThreshold level = level - 1 := by
  unfold resetThreshold
  omega

section
variable {u level : Nat} (count : Nat)

theorem stageCounter_good_of_level_le (h : level ≤ u) :
    stageCounter .good u level count = min 3000 (count + 1) := if_pos h

theorem stageCounter_good_of_between (hreset : resetThreshold level ≤ u) (hlevel : u < level) :
    stageCounter .good u level count = count := by
  simp only [stageCounter, if_neg hlevel.not_ge, if_pos hreset]

theorem stageCounter_good_of_lt_resetThreshold (h : u < resetThreshold level) :
    stageCounter .good u level count = 0 := by
  have hlevel : u < level := h.trans_le (resetThreshold_le level)
  simp only [stageCounter, if_neg hlevel.not_ge, if_neg h.not_ge]

end

section
variable (i : Fin 8) (s : State)

/-- A step's unbalance state after an update of that step. -/
@[simp] theorem State.updUnbalance_steps_same (f : UnbalanceLive → UnbalanceLive) :
    (s.updUnbalance i f).unbalance.steps[i] = f s.unbalance.steps[i] :=
  Vector.getElem_set_self i.isLt

/-- R70: abandoning a null capture ends the capture alone; every step's own unbalance state stays. -/
@[simp] theorem abandonNull_steps : (abandonNull i s).unbalance.steps = s.unbalance.steps := by
  unfold abandonNull
  split
  · split
    · rw [logEvent_unbalance]
    · rfl
  · rfl

/-- R62: of the step's own unbalance state a trip sets the mark and nothing else. -/
theorem unbalanceTrip_step (u : Nat) :
    (unbalanceTrip i u s).unbalance.steps[i] = { s.unbalance.steps[i] with tripOperated := true } := by
  simp only [unbalanceTrip, abandonNull_steps, hand_unbalance, logEvent_unbalance, State.updUnbalance_steps_same]

/-- R61: whether the alarm is raised, cleared or left, the stage's count is the one R60 gives for the alarm level. -/
theorem alarmStage_alarmCount (row : StepRow) (q : Quality) (u : Nat) :
    (alarmStage i row q u s).unbalance.steps[i].alarmCount =
      stageCounter q u row.alarmLevel s.unbalance.steps[i].alarmCount := by
  dsimp only [alarmStage]
  split
  case isTrue => simp only [logEvent_unbalance, State.updUnbalance_steps_same]
  case isFalse =>
    split
    case isTrue => simp only [logEvent_unbalance, State.updUnbalance_steps_same]
    case isFalse => simp only [State.updUnbalance_steps_same]

/-- R62: whether the stage operates or not, its count is the one R60 gives for the trip level. -/
theorem tripStage_tripCount (row : StepRow) (q : Quality) (u : Nat) :
    (tripStage i row q u s).unbalance.steps[i].tripCount =
      stageCounter q u row.tripLevel s.unbalance.steps[i].tripCount := by
  dsimp only [tripStage]
  split
  case isTrue => simp only [unbalanceTrip_step, State.updUnbalance_steps_same]
  case isFalse => simp only [State.updUnbalance_steps_same]

end

/-- Settles O15: the counter by the three ranges of U and by quality, the thresholds by arithmetic, and each stage's
own count from `alarmStage_alarmCount` and `tripStage_tripCount`. -/
theorem stageCounters : Obligations.StageCounters := by
  refine ⟨fun u level count => ⟨?atLevel, ?between, ?belowReset, rfl, rfl⟩, rfl, rfl,
    fun level => resetThreshold_of_le_sixteen,
    fun i row q u s => ⟨alarmStage_alarmCount i s row q u, tripStage_tripCount i s row q u⟩⟩
  case atLevel => exact stageCounter_good_of_level_le count
  case between => exact stageCounter_good_of_between count
  case belowReset => exact stageCounter_good_of_lt_resetThreshold count

end Sys2Proof.Machine


namespace Sys2Proof.Machine

/-! ## What a step can do

Every command moves the state by a chain of elementary moves. A move is one of the model's shared operations, with the
condition that the model checks before it uses it; the invariants that every step keeps are proved once for each move. -/

/-- R123, of a running part: what `QueueOk` says of the queue and the control state. -/
def QueueCore (w : SwitchingState) : Prop :=
  w.queue.length ≤ Config.queueCapacity ∧
    (∃ manual auto, w.queue = manual ++ auto ∧ manual.all (fun e => !e.isAuto) = true ∧
      auto.all QueueEntry.isAuto = true ∧ auto.length ≤ 1) ∧
    w.queue.Pairwise (fun a b => b.ahead a = false) ∧
    (w.queue.any QueueEntry.isAuto = true → w.control = .autoPending)

/-- R123, R130: a MANUAL entry finds room, or an AUTO entry to take the place of. -/
def Spare (w : SwitchingState) : Prop :=
  w.queue.length < Config.queueCapacity ∨ w.queue.any QueueEntry.isAuto = true

/-- A move of switching control that keeps what the queue must satisfy, and the room for a MANUAL entry. -/
def QueueMove (w w' : SwitchingState) : Prop := QueueCore w → QueueCore w' ∧ (Spare w → Spare w')

/-- R77, R79, R84 for one step. -/
def DutyFine (d : DutyLive) : Prop :=
  d.heat ≤ Config.heatMax ∧ d.lastP ≤ Config.heatMax ∧ d.operations ≤ Config.operationsMax

/-- The changes of the table memory that leave the store and the image as they stand. -/
inductive MemoryMove (m : MemoryState) : MemoryState → Prop
  /-- The tables and the image stand, the figures move. -/
  | figures (m' : MemoryState) (ht : m'.tables = m.tables) (hs : m'.storing = m.storing) (hc : m'.copied = m.copied)
      (hv : m'.imageValid = m.imageValid) (hi : m'.image = m.image) : MemoryMove m m'
  /-- R165: a read corrects a row. -/
  | correct (r : RowRef) (n : Nat) :
      MemoryMove m { m with tables := m.tables.mapAt r Held.correct, corrected := n }
  /-- R165: a read finds a row DAMAGED. -/
  | fail (r : RowRef) (n : Nat) : MemoryMove m { m with tables := m.tables.mapAt r Held.fail, damaged := n }
  /-- Bit flips strike rows. -/
  | strike (xs : List Strike) : MemoryMove m { m with tables := xs.foldl Tables.strikeAt m.tables }
  /-- R69: a null capture writes its step's row. -/
  | null (v : Vector (Held StepRow) 8) : MemoryMove m { m with tables := { m.tables with step := v } }
  /-- R162: a write that is taken, which no STORE in progress allows (R160). -/
  | write (t : Tables) (hs : m.storing = false) (hstream : t.stream = m.tables.stream ∨ streamLaw t.stream = true)
      (hunit : t.unit = m.tables.unit ∨ unitLaw t.unit = true) : MemoryMove m { m with tables := t }

/-- One elementary move of a running part. -/
inductive Move : State → State → Prop
  /-- An event is written (R169). -/
  | log (k : EventKind) (x : Subject) (v : Option Nat) (s : State) : Move s (logEvent k x v s)
  /-- Entries are acknowledged (R170). -/
  | acknowledge (n : Nat) (s : State) : Move s (acknowledge n s)
  /-- A message is handed, other than a step report, which a change of state hands. -/
  | hand (m : Instr) (s : State) (hm : releasing m = false) : Move s (hand m s)
  /-- A message is taken. -/
  | take (m : Instr) (s : State) : Move s (s.dropMail m)
  /-- A port moves as R150 to R153 allow. -/
  | port (p : Port) (x : PortState) (s : State) (hx : PortOk (s.port p) → PortOk x) : Move s (s.setPort p x)
  /-- The Link Table values in force and the report port are set (R155, R156). -/
  | link (l : Option LinkRow) (p : Option Port) (s : State) :
      Move s { s with ports := { s.ports with link := l, reportPort := p } }
  /-- A step's live fields move, not its state and its hold of the slot. -/
  | step (i : Fin 8) (f : StepLive → StepLive) (s : State)
      (hstate : (f s.supervisor.steps[i]).state = s.supervisor.steps[i].state)
      (hslot : (f s.supervisor.steps[i]).slotHeld = s.supervisor.steps[i].slotHeld) : Move s (s.updStep i f)
  /-- A step changes its state without holding the slot in the new one; into READY it goes discharged (R92, R106). -/
  | change (i : Fin 8) (new : StepState) (cause : StateCause) (op : Option Operation) (lock : Option LockoutCause)
      (s : State) (hnew : new ≠ .closing) (hop : (op.map Operation.slotHeld).getD false = false)
      (hready : new = .ready → dischargeRemaining i s = 0) : Move s (changeStep i new cause op lock s)
  /-- A discharge loading, with the step in READY going back to COOLING (R82, R106). -/
  | load (i : Fin 8) (s : State) : Move s (handLoading i s)
  /-- A grant while the slot is FREE (R124). -/
  | grant (t : Fin 9) (k : CmdKind) (reason : Option Reason) (s : State) (hfree : s.switching.holder = none) :
      Move s (grantTo t k reason s)
  /-- The slot that unit 8 holds is released (R128). -/
  | release (s : State) : Move s (releaseSlot incomer s)
  /-- Switching control moves, its queue as R123 allows, the slot standing. -/
  | switching (f : SwitchingState → SwitchingState) (s : State) (hqueue : QueueMove s.switching (f s.switching))
      (hholder : (f s.switching).holder = s.switching.holder) : Move s (s.updSwitching f)
  /-- A step's duty figures move within their ranges; its discharge timer stands or stops. -/
  | duty (i : Fin 8) (f : DutyLive → DutyLive) (s : State)
      (hfine : DutyFine s.duty.steps[i] → DutyFine (f s.duty.steps[i]))
      (htimer : (f s.duty.steps[i]).discharge = s.duty.steps[i].discharge ∨ (f s.duty.steps[i]).discharge = none) :
      Move s (s.updDuty i f)
  /-- The seconds clock restarts (R78). -/
  | seconds (n : Nat) (s : State) : Move s { s with duty := { s.duty with secondsLeft := n } }
  /-- The table memory moves. -/
  | memory (m : MemoryState) (s : State) (hm : MemoryMove s.memory m) : Move s { s with memory := m }
  /-- A millisecond passes. -/
  | tick (s : State) : Move s (tick s)
  /-- The other blocks move. -/
  | other (s t : State)
      (h : SameBut [.timebase, .keylock, .acceptance, .engine, .harmonic, .unbalance, .commands, .agent, .reports, .capture]
        s t) : Move s t

/-- A chain of moves. -/
abbrev Moves : State → State → Prop := Relation.ReflTransGen Move

/-! ## The operations of State as moves -/

section
variable {s₀ s : State}

theorem logEvent_moves {k : EventKind} {x : Subject} {v : Option Nat} (h : Moves s₀ s) : Moves s₀ (logEvent k x v s) :=
  h.tail (.log k x v s)

theorem hand_moves {m : Instr} (hm : releasing m = false) (h : Moves s₀ s) : Moves s₀ (hand m s) :=
  h.tail (.hand m s hm)

theorem dropMail_moves {m : Instr} (h : Moves s₀ s) : Moves s₀ (s.dropMail m) := h.tail (.take m s)

theorem other_moves {t : State} (hst : SameBut [.timebase, .keylock, .acceptance, .engine, .harmonic, .unbalance, .commands,
    .agent, .reports, .capture] s t) (h : Moves s₀ s) : Moves s₀ t := h.tail (.other s t hst)

theorem updStream_moves {i : Fin 16} {f : StreamLive → StreamLive} (h : Moves s₀ s) : Moves s₀ (s.updStream i f) :=
  other_moves ((State.updStream_sameBut i f s).mono (by simp)) h

theorem updInput_moves {i : Fin 38} {f : InputLive → InputLive} (h : Moves s₀ s) : Moves s₀ (s.updInput i f) :=
  other_moves ((State.updInput_sameBut i f s).mono (by simp)) h

theorem updUnbalance_moves {i : Fin 8} {f : UnbalanceLive → UnbalanceLive} (h : Moves s₀ s) :
    Moves s₀ (s.updUnbalance i f) := other_moves ((State.updUnbalance_sameBut i f s).mono (by simp)) h

theorem updUnit_moves {u : Fin 9} {f : UnitLive → UnitLive} (h : Moves s₀ s) : Moves s₀ (s.updUnit u f) :=
  other_moves ((State.updUnit_sameBut u f s).mono (by simp)) h

theorem updBuffer_moves {b : Fin 2} {f : CaptureBuffer → CaptureBuffer} (h : Moves s₀ s) : Moves s₀ (s.updBuffer b f) :=
  other_moves ((State.updBuffer_sameBut b f s).mono (by simp)) h

theorem engine_moves {e : EngineState} (h : Moves s₀ s) : Moves s₀ { s with engine := e } :=
  other_moves ((engine_sameBut _ s).mono (by simp)) h

theorem harmonic_moves {e : HarmonicState} (h : Moves s₀ s) : Moves s₀ { s with harmonic := e } :=
  other_moves ((harmonic_sameBut _ s).mono (by simp)) h

theorem unbalance_moves {e : UnbalanceState} (h : Moves s₀ s) : Moves s₀ { s with unbalance := e } :=
  other_moves ((unbalance_sameBut _ s).mono (by simp)) h

theorem agent_moves {a : AgentState} (h : Moves s₀ s) : Moves s₀ { s with agent := a } :=
  other_moves ((agent_sameBut _ s).mono (by simp)) h

theorem keylock_moves {b : Bool} (h : Moves s₀ s) : Moves s₀ { s with keylock := b } :=
  other_moves ((keylock_sameBut _ s).mono (by simp)) h

theorem reports_moves {n k : Nat} {b : Bool} (h : Moves s₀ s) :
    Moves s₀ { s with events := { s.events with reportTimer := n, changePending := b, changeHold := k } } :=
  other_moves (by constructor; intro p hp; cases p <;> simp_all [Part.same]) h

theorem updDuty_moves {i : Fin 8} {f : DutyLive → DutyLive}
    (hfine : DutyFine s.duty.steps[i] → DutyFine (f s.duty.steps[i]))
    (htimer : (f s.duty.steps[i]).discharge = s.duty.steps[i].discharge ∨ (f s.duty.steps[i]).discharge = none)
    (h : Moves s₀ s) : Moves s₀ (s.updDuty i f) := h.tail (.duty i f s hfine htimer)

theorem updStep_moves {i : Fin 8} {f : StepLive → StepLive}
    (hstate : (f s.supervisor.steps[i]).state = s.supervisor.steps[i].state)
    (hslot : (f s.supervisor.steps[i]).slotHeld = s.supervisor.steps[i].slotHeld) (h : Moves s₀ s) :
    Moves s₀ (s.updStep i f) := h.tail (.step i f s hstate hslot)

theorem updSwitching_moves {f : SwitchingState → SwitchingState}
    (hqueue : QueueMove s.switching (f s.switching))
    (hholder : (f s.switching).holder = s.switching.holder) (h : Moves s₀ s) : Moves s₀ (s.updSwitching f) :=
  h.tail (.switching f s hqueue hholder)

theorem updMemory_moves {f : MemoryState → MemoryState} (hm : MemoryMove s.memory (f s.memory)) (h : Moves s₀ s) :
    Moves s₀ (s.updMemory f) := h.tail (.memory _ s hm)

theorem setPort_moves {p : Port} {x : PortState} (hx : PortOk (s.port p) → PortOk x) (h : Moves s₀ s) :
    Moves s₀ (s.setPort p x) := h.tail (.port p x s hx)

theorem foldl_moves {α : Type} {f : State → α → State} {l : List α} (hf : ∀ t a, Moves s₀ t → Moves s₀ (f t a))
    (h : Moves s₀ s) : Moves s₀ (l.foldl f s) := by
  induction l generalizing s with
  | nil => exact h
  | cons a l ih => exact ih (hf _ _ h)

end

end Sys2Proof.Machine


namespace Sys2Proof.Machine

section
variable {s₀ s : State}

theorem offerSample_moves {m : Fin 38} {x : CapSample} {i : Fin 2} (h : Moves s₀ s) :
    Moves s₀ (offerSample m x s i) := by
  unfold offerSample
  dsimp only
  with_reducible repeat' first | assumption | refine hand_moves rfl ?_ | refine updBuffer_moves ?_ | split

theorem handSample_moves {m : Fin 38} {value : Int} {counter : Nat} {filled : Bool} (h : Moves s₀ s) :
    Moves s₀ (handSample m value counter filled s) := by
  unfold handSample
  with_reducible repeat' first | assumption | refine offerSample_moves ?_ | refine foldl_moves (fun _ _ _ => ?_) ?_

theorem takeTrigger_moves {kind : TriggerKind} {step : Option (Fin 8)} (h : Moves s₀ s) :
    Moves s₀ (takeTrigger kind step s) := by
  unfold takeTrigger
  with_reducible repeat' first | assumption | refine logEvent_moves ?_ | refine updBuffer_moves ?_ | split

theorem completeCapture_moves {i : Fin 2} (h : Moves s₀ s) : Moves s₀ (completeCapture i s) := by
  unfold completeCapture
  dsimp only
  with_reducible repeat' first | assumption | refine logEvent_moves ?_ | refine updBuffer_moves ?_ | split

theorem freeCapture_moves {i : Fin 2} (h : Moves s₀ s) : Moves s₀ (freeCapture i s) := by
  unfold freeCapture
  dsimp only
  with_reducible repeat' first | assumption | refine updBuffer_moves ?_ | split

theorem armAtStartUp_moves (h : Moves s₀ s) : Moves s₀ (armAtStartUp s) := by
  unfold armAtStartUp
  with_reducible repeat' first | assumption | refine updBuffer_moves ?_ | split

theorem setElement_moves {k : Fin 6} {i : Fin 15} {e : Option Element} (h : Moves s₀ s) :
    Moves s₀ (setElement k i e s) :=
  harmonic_moves h

theorem logElement_moves {k : Fin 6} {i : Fin 15} {a b : Bool} (h : Moves s₀ s) :
    Moves s₀ (logElement k i a b s) := by
  unfold logElement
  with_reducible repeat' first | assumption | refine logEvent_moves ?_ | split

theorem moveElement_moves {k : Fin 6} {record : ResultRecord} {i : Fin 15} (h : Moves s₀ s) :
    Moves s₀ (moveElement k record s i) := by
  unfold moveElement
  dsimp only
  with_reducible repeat' first | assumption | refine setElement_moves ?_ | refine logElement_moves ?_ | split

theorem moveElements_moves {k : Fin 6} {record : ResultRecord} (h : Moves s₀ s) :
    Moves s₀ (moveElements k record s) := by
  unfold moveElements
  with_reducible repeat' first
    | assumption | refine moveElement_moves ?_ | refine foldl_moves (fun _ _ _ => ?_) ?_ | split

theorem removeElement_moves {i : Fin 15} {k : Fin 6} (h : Moves s₀ s) : Moves s₀ (removeElement i s k) := by
  unfold removeElement
  dsimp only
  with_reducible repeat' first | assumption | refine setElement_moves ?_ | refine logElement_moves ?_

theorem removeElements_moves {i : Fin 15} (h : Moves s₀ s) : Moves s₀ (removeElements i s) := by
  unfold removeElements
  with_reducible repeat' first | assumption | refine removeElement_moves ?_ | refine foldl_moves (fun _ _ _ => ?_) ?_

theorem createElements_moves {i : Fin 15} (h : Moves s₀ s) : Moves s₀ (createElements i s) := by
  unfold createElements
  with_reducible repeat' first
    | assumption | refine setElement_moves ?_ | refine foldl_moves (fun _ _ _ => ?_) ?_ | split

theorem reformBlock_moves {i : Fin 15} (h : Moves s₀ s) : Moves s₀ (reformBlock s i) := by
  unfold reformBlock
  with_reducible repeat' first | assumption | split | refine harmonic_moves ?_

theorem reformBlocks_moves (h : Moves s₀ s) : Moves s₀ (reformBlocks s) := by
  unfold reformBlocks
  with_reducible repeat' first | assumption | refine reformBlock_moves ?_ | refine foldl_moves (fun _ _ _ => ?_) ?_

theorem setNextCount_moves (h : Moves s₀ s) : Moves s₀ (setNextCount s) :=
  harmonic_moves h

theorem reformNextCount_moves (h : Moves s₀ s) : Moves s₀ (reformNextCount s) := by
  unfold reformNextCount
  dsimp only
  with_reducible repeat' first | assumption | refine logEvent_moves ?_ | refine setNextCount_moves ?_ | split

theorem updateSustain_moves (h : Moves s₀ s) : Moves s₀ (updateSustain s) :=
  harmonic_moves h

theorem clearSustain_moves (h : Moves s₀ s) : Moves s₀ (clearSustain s) :=
  harmonic_moves h

theorem zeroSustain_moves {i : Fin 15} (h : Moves s₀ s) : Moves s₀ (zeroSustain i s) := by
  unfold zeroSustain
  with_reducible repeat' first | assumption | split | refine harmonic_moves ?_

theorem harmonicPublication_moves {m : Fin 38} (h : Moves s₀ s) : Moves s₀ (harmonicPublication m s) := by
  unfold harmonicPublication
  dsimp only
  with_reducible repeat' first
    | assumption | refine hand_moves rfl ?_ | refine moveElements_moves ?_ | refine reformBlocks_moves ?_
    | refine reformNextCount_moves ?_ | refine updateSustain_moves ?_ | split | refine harmonic_moves ?_

theorem harmonicReport_moves {r : StepReport} (h : Moves s₀ s) : Moves s₀ (harmonicReport r s) := by
  unfold harmonicReport
  dsimp only
  with_reducible repeat' first
    | assumption | refine reformNextCount_moves ?_ | refine clearSustain_moves ?_ | split | refine harmonic_moves ?_

theorem harmonicFoundDamaged_moves {i : Fin 15} (h : Moves s₀ s) : Moves s₀ (harmonicFoundDamaged i s) := by
  unfold harmonicFoundDamaged
  with_reducible repeat' first
    | assumption | refine removeElements_moves ?_ | refine reformNextCount_moves ?_ | refine zeroSustain_moves ?_

theorem markChange_moves {before : State} (h : Moves s₀ s) : Moves s₀ (markChange before s) := by
  unfold markChange
  with_reducible repeat' first | assumption | split | refine reports_moves ?_

theorem abandonNull_moves {i : Fin 8} (h : Moves s₀ s) : Moves s₀ (abandonNull i s) := by
  unfold abandonNull
  with_reducible repeat' first | assumption | refine logEvent_moves ?_ | split | refine unbalance_moves ?_

theorem judgeInputInvalid_moves {i : Fin 8} {q : Quality} (h : Moves s₀ s) : Moves s₀ (judgeInputInvalid i q s) := by
  unfold judgeInputInvalid
  dsimp only
  with_reducible repeat' first | assumption | refine logEvent_moves ?_ | refine updUnbalance_moves ?_ | split

theorem alarmStage_moves {i : Fin 8} {row : StepRow} {q : Quality} {u : Nat} (h : Moves s₀ s) :
    Moves s₀ (alarmStage i row q u s) := by
  unfold alarmStage
  dsimp only
  with_reducible repeat' first | assumption | refine logEvent_moves ?_ | refine updUnbalance_moves ?_ | split

theorem unbalanceTrip_moves {i : Fin 8} {u : Nat} (h : Moves s₀ s) : Moves s₀ (unbalanceTrip i u s) := by
  unfold unbalanceTrip
  dsimp only
  with_reducible repeat' first
    | assumption | refine logEvent_moves ?_ | refine hand_moves rfl ?_ | refine updUnbalance_moves ?_
    | refine abandonNull_moves ?_

theorem tripStage_moves {i : Fin 8} {row : StepRow} {q : Quality} {u : Nat} (h : Moves s₀ s) :
    Moves s₀ (tripStage i row q u s) := by
  unfold tripStage
  dsimp only
  with_reducible repeat' first | assumption | refine updUnbalance_moves ?_ | refine unbalanceTrip_moves ?_ | split

end

end Sys2Proof.Machine

namespace Sys2Proof.Machine

/-! ## The thermal image (R79) -/

theorem heatToward_of_le {h p : Nat} (k : Nat) (hle : h ≤ p) : heatToward h p k = h + (p - h) / 2 ^ k := by
  have hcast : (p : Int) - h = ((p - h : Nat) : Int) := by omega
  have hdiv : ((p - h : Nat) : Int).tdiv (2 ^ k) = (((p - h) / 2 ^ k : Nat) : Int) := by
    rw [Int.tdiv_eq_ediv_of_nonneg (by omega)]; norm_cast
  simp only [heatToward, hcast, hdiv]
  exact Int.toNat_natCast (h + (p - h) / 2 ^ k)

theorem heatToward_of_ge {h p : Nat} (k : Nat) (hle : p ≤ h) : heatToward h p k = h - (h - p) / 2 ^ k := by
  have hcast : (p : Int) - h = -((h - p : Nat) : Int) := by omega
  have hdiv : ((h - p : Nat) : Int).tdiv (2 ^ k) = (((h - p) / 2 ^ k : Nat) : Int) := by
    rw [Int.tdiv_eq_ediv_of_nonneg (by omega)]; norm_cast
  have hstep : (h - p) / 2 ^ k ≤ h - p := Nat.div_le_self _ _
  simp only [heatToward, hcast, Int.neg_tdiv, hdiv]
  generalize (h - p) / 2 ^ k = q at hstep ⊢
  omega

theorem min_le_heatToward (h p k : Nat) : min h p ≤ heatToward h p k := by
  rcases Nat.le_total h p with hle | hle
  · rw [heatToward_of_le k hle]
    exact (min_le_left h p).trans (Nat.le_add_right _ _)
  · have hstep := Nat.div_le_self (h - p) (2 ^ k)
    rw [heatToward_of_ge k hle]
    generalize (h - p) / 2 ^ k = q at hstep ⊢
    omega

theorem heatToward_le_max (h p k : Nat) : heatToward h p k ≤ max h p := by
  rcases Nat.le_total h p with hle | hle
  · have hstep := Nat.div_le_self (p - h) (2 ^ k)
    rw [heatToward_of_le k hle]
    generalize (p - h) / 2 ^ k = q at hstep ⊢
    omega
  · rw [heatToward_of_ge k hle]
    exact (Nat.sub_le _ _).trans (le_max_left h p)

/-- R79: an update stops exactly where the difference no longer fills one step. -/
theorem heatToward_eq_self_iff (h p k : Nat) : heatToward h p k = h ↔ ((p : Int) - h).natAbs < 2 ^ k := by
  have hpos : 0 < 2 ^ k := Nat.two_pow_pos k
  rcases Nat.le_total h p with hle | hle
  · have hzero : (p - h) / 2 ^ k = 0 ↔ p - h < 2 ^ k := by rw [Nat.div_eq_zero_iff]; omega
    rw [heatToward_of_le k hle]
    generalize (p - h) / 2 ^ k = q at hzero ⊢
    omega
  · have hzero : (h - p) / 2 ^ k = 0 ↔ h - p < 2 ^ k := by rw [Nat.div_eq_zero_iff]; omega
    have hstep := Nat.div_le_self (h - p) (2 ^ k)
    rw [heatToward_of_ge k hle]
    generalize (h - p) / 2 ^ k = q at hzero hstep ⊢
    omega

/-- R79: an update that moves comes nearer to P. -/
theorem heatToward_nearer {h p k : Nat} (hmoves : heatToward h p k ≠ h) :
    ((p : Int) - heatToward h p k).natAbs < ((p : Int) - h).natAbs := by
  have hlow := min_le_heatToward h p k
  have hhigh := heatToward_le_max h p k
  omega

/-- R79: under a steady P an update comes to rest within 2^k of it, on the side it came from. -/
theorem heatToward_rests (h p k : Nat) :
    ∃ n r, (fun x => heatToward x p k)^[n] h = r ∧ ((p : Int) - r).natAbs < 2 ^ k ∧ (h ≤ p → r ≤ p) ∧ (p ≤ h → p ≤ r) := by
  induction hd : ((p : Int) - h).natAbs using Nat.strong_induction_on generalizing h with
  | _ d ih =>
    by_cases hrest : heatToward h p k = h
    · exact ⟨0, h, rfl, (heatToward_eq_self_iff h p k).1 hrest, id, id⟩
    · obtain ⟨n, r, hr, hnear, hbelow, habove⟩ := ih _ (hd ▸ heatToward_nearer hrest) _ rfl
      have hlow := min_le_heatToward h p k
      have hhigh := heatToward_le_max h p k
      exact ⟨n + 1, r, hr, hnear, fun hle => hbelow (by omega), fun hle => habove (by omega)⟩

/-- Settles O18: the bounds by the direction of the update, and rest by induction on the distance to P. -/
theorem heatApproach : Obligations.HeatApproach := fun h p k =>
  ⟨min_le_heatToward h p k, heatToward_le_max h p k, heatToward_eq_self_iff h p k, heatToward_rests h p k⟩

end Sys2Proof.Machine


namespace Sys2Proof.Machine

section
variable {s₀ s : State}

theorem completeNull_moves {c : NullContext} (h : Moves s₀ s) : Moves s₀ (completeNull c s) := by
  unfold completeNull
  dsimp only
  split
  · exact logEvent_moves ((unbalance_moves h).tail (.memory _ _ (.null _)))
  · exact logEvent_moves (unbalance_moves h)

theorem offerNull_moves {i : Fin 8} {record : ResultRecord} (h : Moves s₀ s) : Moves s₀ (offerNull i record s) := by
  unfold offerNull
  dsimp only
  with_reducible repeat' first
    | assumption | refine abandonNull_moves ?_ | refine completeNull_moves ?_ | split | refine unbalance_moves ?_

theorem formLastU_moves {i : Fin 8} {record : ResultRecord} {u : Nat} (h : Moves s₀ s) :
    Moves s₀ (formLastU i record u s) := by
  unfold formLastU
  with_reducible repeat' first | assumption | refine updUnbalance_moves ?_ | split

theorem unbalanceEvaluate_moves {i : Fin 8} (h : Moves s₀ s) : Moves s₀ (unbalanceEvaluate i s) := by
  unfold unbalanceEvaluate
  dsimp only
  with_reducible repeat' first
    | assumption | refine judgeInputInvalid_moves ?_ | refine alarmStage_moves ?_ | refine tripStage_moves ?_
    | refine offerNull_moves ?_ | refine formLastU_moves ?_ | split

theorem unbalanceLeave_moves {i : Fin 8} (h : Moves s₀ s) : Moves s₀ (unbalanceLeave i s) := by
  unfold unbalanceLeave
  dsimp only
  with_reducible repeat' first
    | assumption | refine logEvent_moves ?_ | refine updUnbalance_moves ?_ | refine abandonNull_moves ?_ | split

theorem unbalanceEnter_moves {i : Fin 8} (h : Moves s₀ s) : Moves s₀ (unbalanceEnter i s) := by
  unfold unbalanceEnter
  with_reducible repeat' first | assumption | refine logEvent_moves ?_ | refine updUnbalance_moves ?_ | split

/-! ## Thermal Duty and Cooldown -/

theorem markDuty_moves {i : Fin 8} {f : DutyLive → DutyLive} (hf : ∀ d, (f d).heat = d.heat ∧ (f d).lastP = d.lastP ∧
    (f d).operations = d.operations ∧ (f d).discharge = d.discharge) (h : Moves s₀ s) : Moves s₀ (s.updDuty i f) := by
  obtain ⟨hheat, hlast, hops, htimer⟩ := hf s.duty.steps[i]
  exact updDuty_moves (by unfold DutyFine; rw [hheat, hlast, hops]; exact id) (.inl htimer) h

theorem judgeHeatAlarm_moves {i : Fin 8} {row : StepRow} (h : Moves s₀ s) : Moves s₀ (judgeHeatAlarm i row s) := by
  unfold judgeHeatAlarm
  dsimp only
  with_reducible repeat' first
    | assumption | refine logEvent_moves ?_ | refine markDuty_moves (fun _ => ⟨rfl, rfl, rfl, rfl⟩) ?_ | split

theorem judgeHeatTrip_moves {i : Fin 8} {row : StepRow} (h : Moves s₀ s) : Moves s₀ (judgeHeatTrip i row s) := by
  unfold judgeHeatTrip
  dsimp only
  with_reducible repeat' first
    | assumption | refine logEvent_moves ?_ | refine hand_moves rfl ?_ | refine abandonNull_moves ?_
    | refine markDuty_moves (fun _ => ⟨rfl, rfl, rfl, rfl⟩) ?_ | split

theorem loadFigure_le (rated e : Nat) : loadFigure rated e ≤ Config.heatMax := by
  have hle : min 4095 (isqrt e * 1024 / rated) ≤ 4095 := min_le_left _ _
  exact Nat.mul_le_mul hle hle

theorem heatUpdate_moves {i : Fin 8} (h : Moves s₀ s) : Moves s₀ (heatUpdate i s) := by
  unfold heatUpdate
  dsimp only
  split
  case isFalse => exact h
  case isTrue =>
    refine judgeHeatTrip_moves (judgeHeatAlarm_moves (updDuty_moves (fun hd => ?_) (.inl rfl) h))
    obtain ⟨hheat, hlast, hops⟩ := hd
    have hp : (match largest ((phaseRecords i s).map phaseEnergy) with
        | some e => loadFigure (s.stepRow i).rated e
        | none => s.duty.steps[i].lastP) ≤ Config.heatMax := by
      split
      · exact loadFigure_le _ _
      · exact hlast
    exact ⟨(heatToward_le_max _ _ _).trans (max_le hheat hp), hp, hops⟩

theorem cooldownUpdate_moves {i : Fin 8} (h : Moves s₀ s) : Moves s₀ (cooldownUpdate i s) := by
  unfold cooldownUpdate
  dsimp only
  split
  case isFalse => exact h
  case isTrue =>
    refine judgeHeatAlarm_moves (updDuty_moves (fun hd => ?_) (.inl rfl) h)
    obtain ⟨hheat, hlast, hops⟩ := hd
    exact ⟨(heatToward_le_max _ _ _).trans (max_le hheat (Nat.zero_le _)), hlast, hops⟩

theorem reformDutyBar_moves {i : Fin 8} (h : Moves s₀ s) : Moves s₀ (reformDutyBar i s) := by
  unfold reformDutyBar
  dsimp only
  with_reducible repeat' first
    | assumption | refine logEvent_moves ?_ | refine markDuty_moves (fun _ => ⟨rfl, rfl, rfl, rfl⟩) ?_ | split

theorem operationReport_moves {i : Fin 8} (h : Moves s₀ s) : Moves s₀ (operationReport i s) := by
  unfold operationReport
  dsimp only
  exact reformDutyBar_moves (updDuty_moves (fun ⟨hheat, hlast, _⟩ => ⟨hheat, hlast, min_le_left _ _⟩) (.inl rfl) h)

theorem decayExpiry_moves {i : Fin 8} (h : Moves s₀ s) : Moves s₀ (decayExpiry i s) := by
  unfold decayExpiry
  dsimp only
  split
  case isFalse => exact h
  case isTrue =>
    exact reformDutyBar_moves
      (updDuty_moves (fun ⟨hheat, hlast, hops⟩ => ⟨hheat, hlast, (Nat.sub_le _ _).trans hops⟩) (.inl rfl) h)

theorem secondsTick_moves (h : Moves s₀ s) : Moves s₀ (secondsTick s) := by
  unfold secondsTick
  exact foldl_moves (fun _ _ => cooldownUpdate_moves) (h.tail (.seconds 1000 s))

theorem dischargeExpiry_moves {i : Fin 8} (h : Moves s₀ s) : Moves s₀ (dischargeExpiry i s) := by
  unfold dischargeExpiry
  split
  · exact hand_moves rfl (updDuty_moves id (.inr rfl) h)
  · exact h

theorem takeHeatMode_moves {r : StepReport} (h : Moves s₀ s) : Moves s₀ (takeHeatMode r s) := by
  unfold takeHeatMode DutyLive.setMode
  cases heatModeOf r.new with
  | service => exact updDuty_moves id (.inl rfl) h
  | cooldown => exact updDuty_moves (fun ⟨hheat, _, hops⟩ => ⟨hheat, Nat.zero_le _, hops⟩) (.inl rfl) h

/-! ## Step States and the Rotation Lists -/

theorem moveStep_moves {i : Fin 8} {new : StepState} {cause : StateCause} (hnew : new ≠ .closing)
    (hready : new = .ready → dischargeRemaining i s = 0) (h : Moves s₀ s) : Moves s₀ (moveStep i new cause s) :=
  h.tail (.change i new cause none none s hnew rfl hready)

theorem restStep_moves {i : Fin 8} {cause : StateCause} (h : Moves s₀ s) : Moves s₀ (restStep i cause s) := by
  refine moveStep_moves ?_ ?_ h <;> unfold restingState <;> split
  · exact nofun
  · exact nofun
  · exact nofun
  · exact fun _ => by omega

theorem lockStep_moves {i : Fin 8} {lock : LockoutCause} (h : Moves s₀ s) : Moves s₀ (lockStep i lock s) :=
  h.tail (.change i .lockout _ none (some lock) s nofun rfl nofun)

theorem openingStep_moves {i : Fin 8} {cls : CmdClass} {cause : StateCause} (h : Moves s₀ s) :
    Moves s₀ (operateStep i .opening { cls := cls, cause := cause, slotHeld := false } s) :=
  h.tail (.change i .opening cause _ none s nofun rfl nofun)

theorem handLoading_moves {i : Fin 8} (h : Moves s₀ s) : Moves s₀ (handLoading i s) := h.tail (.load i s)

theorem setPending_moves {i : Fin 8} {c : LockoutCause} (h : Moves s₀ s) : Moves s₀ (setPending i c s) := by
  unfold setPending
  with_reducible repeat' first | assumption | refine updStep_moves rfl rfl ?_

theorem dutyReports_moves {i : Fin 8} {pos : Position} {settled : Option Position} (h : Moves s₀ s) :
    Moves s₀ (dutyReports i pos settled s) := by
  unfold dutyReports
  dsimp only
  with_reducible repeat' first | assumption | refine operationReport_moves ?_ | refine handLoading_moves ?_ | split

theorem resolveStep_moves {i : Fin 8} {pos : Position} (h : Moves s₀ s) : Moves s₀ (resolveStep i pos s) := by
  unfold resolveStep
  dsimp only
  with_reducible repeat' first
    | assumption | refine moveStep_moves (by simp) (by simp) ?_ | refine restStep_moves ?_
    | refine handLoading_moves ?_ | refine updStep_moves rfl rfl ?_ | split

theorem uncommandedOpen_moves {i : Fin 8} (h : Moves s₀ s) : Moves s₀ (uncommandedOpen i s) := by
  unfold uncommandedOpen
  with_reducible repeat' first | assumption | refine restStep_moves ?_ | refine lockStep_moves ?_ | split

theorem uncommandedClose_moves {i : Fin 8} (h : Moves s₀ s) : Moves s₀ (uncommandedClose i s) := by
  unfold uncommandedClose
  dsimp only
  with_reducible repeat' first
    | assumption | refine logEvent_moves ?_ | refine moveStep_moves (by simp) (by simp) ?_ | split

theorem outOfServiceReport_moves {i : Fin 8} {pos : Position} (h : Moves s₀ s) :
    Moves s₀ (outOfServiceReport i pos s) := by
  unfold outOfServiceReport
  dsimp only
  with_reducible repeat' first | assumption | refine logEvent_moves ?_ | refine updStep_moves rfl rfl ?_ | split

theorem positionByState_moves {i : Fin 8} {pos : Position} (h : Moves s₀ s) : Moves s₀ (positionByState i pos s) := by
  unfold positionByState
  with_reducible repeat' first
    | assumption | refine lockStep_moves ?_ | refine uncommandedOpen_moves ?_ | refine uncommandedClose_moves ?_
    | refine outOfServiceReport_moves ?_ | split

theorem takePosition_moves {i : Fin 8} {pos : Position} (h : Moves s₀ s) : Moves s₀ (takePosition i pos s) := by
  unfold takePosition
  dsimp only
  with_reducible repeat' first
    | assumption | refine logEvent_moves ?_ | refine updStep_moves rfl rfl ?_ | refine dutyReports_moves ?_
    | refine resolveStep_moves ?_ | refine positionByState_moves ?_ | split

theorem takeSupervision_moves {i : Fin 8} {sup : Supervision} (h : Moves s₀ s) :
    Moves s₀ (takeSupervision i sup s) := by
  unfold takeSupervision
  dsimp only
  with_reducible repeat' first | assumption | refine logEvent_moves ?_ | refine updStep_moves rfl rfl ?_ | split

theorem takeBusy_moves {r : BusyRefusal} (h : Moves s₀ s) : Moves s₀ (takeBusy r s) := by
  unfold takeBusy
  dsimp only
  with_reducible repeat' first
    | assumption | refine hand_moves rfl ?_ | refine moveStep_moves (by simp) (by simp) ?_
    | refine restStep_moves ?_ | split

theorem takeTripStart_moves {i : Fin 8} {c : TripCause} (h : Moves s₀ s) : Moves s₀ (takeTripStart i c s) := by
  unfold takeTripStart
  dsimp only
  with_reducible repeat' first | assumption | refine updStep_moves rfl rfl ?_ | refine openingStep_moves ?_ | split

theorem takeLockoutNotice_moves {i : Fin 8} (h : Moves s₀ s) : Moves s₀ (takeLockoutNotice i s) := by
  unfold takeLockoutNotice
  with_reducible repeat' first | assumption | refine lockStep_moves ?_ | refine setPending_moves ?_ | split

theorem failedClose_moves {i : Fin 8} (h : Moves s₀ s) : Moves s₀ (failedClose i s) := by
  unfold failedClose
  dsimp only
  with_reducible repeat' first
    | assumption | refine hand_moves rfl ?_ | refine handLoading_moves ?_ | refine openingStep_moves ?_
    | refine setPending_moves ?_

theorem takeCloseOutcome_moves {i : Fin 8} {o : CmdOutcome} (h : Moves s₀ s) : Moves s₀ (takeCloseOutcome i o s) := by
  unfold takeCloseOutcome
  dsimp only
  with_reducible repeat' first
    | assumption | refine hand_moves rfl ?_ | refine moveStep_moves (by simp) (by simp) ?_
    | refine failedClose_moves ?_ | split

theorem openOutcomeMove_moves {i : Fin 8} {o : CmdOutcome} (h : Moves s₀ s) : Moves s₀ (openOutcomeMove i o s) := by
  unfold openOutcomeMove
  dsimp only
  with_reducible repeat' first
    | assumption | refine hand_moves rfl ?_ | refine moveStep_moves (by simp) (by simp) ?_
    | refine restStep_moves ?_ | refine lockStep_moves ?_ | split

theorem takeOpenOutcome_moves {i : Fin 8} {o : CmdOutcome} (h : Moves s₀ s) : Moves s₀ (takeOpenOutcome i o s) := by
  unfold takeOpenOutcome
  dsimp only
  with_reducible repeat' first | assumption | refine hand_moves rfl ?_ | refine openOutcomeMove_moves ?_ | split

theorem takeDischarged_moves {i : Fin 8} (h : Moves s₀ s) : Moves s₀ (takeDischarged i s) := by
  unfold takeDischarged
  split
  case isTrue hdone => exact moveStep_moves nofun (fun _ => hdone.2) h
  case isFalse => exact h

theorem settingsFault_moves {i : Fin 8} (h : Moves s₀ s) : Moves s₀ (settingsFault i s) := by
  unfold settingsFault
  with_reducible repeat' first
    | assumption | refine hand_moves rfl ?_ | refine moveStep_moves (by simp) (by simp) ?_
    | refine setPending_moves ?_ | split

theorem takeUnbalanceReport_moves {r : StepReport} (h : Moves s₀ s) : Moves s₀ (takeUnbalanceReport r s) := by
  unfold takeUnbalanceReport
  with_reducible repeat' first | assumption | refine unbalanceLeave_moves ?_ | refine unbalanceEnter_moves ?_ | split

end

end Sys2Proof.Machine


namespace Sys2Proof.Machine

/-! ## The switching request queue (R123) -/

/-- R123's order as a rank: MANUAL before AUTO, OPEN before CLOSE, then arrival. -/
def QueueEntry.rank (e : QueueEntry) : Nat ×ₗ Nat ×ₗ Nat :=
  toLex (if e.isAuto then 1 else 0, toLex (if e.kind = .opn then 0 else 1, e.arrival))

theorem QueueEntry.ahead_iff_rank (a b : QueueEntry) : a.ahead b = true ↔ a.rank < b.rank := by
  unfold QueueEntry.ahead QueueEntry.rank
  cases a.isAuto <;> cases b.isAuto <;> cases a.kind <;> cases b.kind <;> simp [Prod.Lex.lt_iff]

theorem QueueEntry.ahead_trans {a b c : QueueEntry} (hab : a.ahead b = true) (hbc : b.ahead c = true) :
    a.ahead c = true := by
  rw [ahead_iff_rank] at *
  exact hab.trans hbc

theorem QueueEntry.ahead_asymm {a b : QueueEntry} (hab : a.ahead b = true) : b.ahead a = false := by
  rw [ahead_iff_rank] at hab
  rw [Bool.eq_false_iff, Ne, ahead_iff_rank]
  exact hab.asymm

theorem QueueEntry.manual_ahead_auto {a b : QueueEntry} (ha : a.isAuto = false) (hb : b.isAuto = true) :
    a.ahead b = true := by
  simp [QueueEntry.ahead, ha, hb]

/-- The queue in the rule's order. -/
abbrev InOrder (q : List QueueEntry) : Prop := q.Pairwise fun a b => b.ahead a = false

theorem insertEntry_perm (e : QueueEntry) (q : List QueueEntry) : (insertEntry e q).Perm (e :: q) := by
  unfold insertEntry
  rw [List.append_assoc]
  refine List.perm_middle.trans (.cons e ?_)
  exact .of_eq (List.takeWhile_append_dropWhile (p := fun x => !e.ahead x) (l := q))

/-- R123: an arriving entry keeps the queue's order. -/
theorem insertEntry_inOrder {e : QueueEntry} {q : List QueueEntry} (h : InOrder q) : InOrder (insertEntry e q) := by
  induction q with
  | nil => simp [insertEntry, InOrder]
  | cons x q ih =>
    obtain ⟨hx, hq⟩ := List.pairwise_cons.1 h
    cases hahead : e.ahead x with
    | true =>
      have hinsert : insertEntry e (x :: q) = e :: x :: q := by simp [insertEntry, hahead]
      rw [hinsert]
      refine List.pairwise_cons.2 ⟨fun y hy => ?_, h⟩
      rcases List.mem_cons.1 hy with rfl | hy
      · exact QueueEntry.ahead_asymm hahead
      · by_contra hye
        have hyx := QueueEntry.ahead_trans (by simpa using hye) hahead
        rw [hx y hy] at hyx
        cases hyx
    | false =>
      have hinsert : insertEntry e (x :: q) = x :: insertEntry e q := by simp [insertEntry, hahead]
      rw [hinsert]
      refine List.pairwise_cons.2 ⟨fun y hy => ?_, ih hq⟩
      rcases List.mem_cons.1 ((insertEntry_perm e q).mem_iff.1 hy) with rfl | hy
      · exact hahead
      · exact hx y hy

/-- With the queue in order, its AUTO entry, if it has one, stands last. -/
theorem manual_append_auto_iff {q : List QueueEntry} (h : InOrder q) :
    (∃ manual auto, q = manual ++ auto ∧ manual.all (fun e => !e.isAuto) = true ∧ auto.all QueueEntry.isAuto = true ∧
      auto.length ≤ 1) ↔ q.countP QueueEntry.isAuto ≤ 1 := by
  constructor
  · rintro ⟨manual, auto, rfl, hmanual, -, hlen⟩
    have hzero : manual.countP QueueEntry.isAuto = 0 := by
      rw [List.countP_eq_zero]
      intro e he
      simpa using List.all_eq_true.1 hmanual e he
    have := List.countP_le_length (p := QueueEntry.isAuto) (l := auto)
    rw [List.countP_append, hzero]
    omega
  · intro hcount
    induction q with
    | nil => exact ⟨[], [], by simp⟩
    | cons x q ih =>
      obtain ⟨hx, hq⟩ := List.pairwise_cons.1 h
      cases hauto : x.isAuto with
      | false =>
        rw [List.countP_cons_of_neg (by simp [hauto])] at hcount
        obtain ⟨manual, auto, rfl, hmanual, hall, hlen⟩ := ih hq hcount
        exact ⟨x :: manual, auto, rfl, by simp [hauto, hmanual], hall, hlen⟩
      | true =>
        have hnil : q = [] := by
          cases q with
          | nil => rfl
          | cons y q =>
            cases hy : y.isAuto with
            | true => simp [hauto, hy] at hcount
            | false =>
              have := hx y (by simp)
              rw [QueueEntry.manual_ahead_auto hy hauto] at this
              cases this
        exact ⟨[], [x], by simp [hnil, hauto]⟩

theorem queueCore_iff (w : SwitchingState) :
    QueueCore w ↔ w.queue.length ≤ Config.queueCapacity ∧ w.queue.countP QueueEntry.isAuto ≤ 1 ∧ InOrder w.queue ∧
      (w.queue.any QueueEntry.isAuto = true → w.control = .autoPending) := by
  constructor
  · rintro ⟨hlen, hparts, horder, hctl⟩
    exact ⟨hlen, (manual_append_auto_iff horder).1 hparts, horder, hctl⟩
  · rintro ⟨hlen, hcount, horder, hctl⟩
    exact ⟨hlen, (manual_append_auto_iff horder).2 hcount, horder, hctl⟩

theorem QueueCore.no_auto {w : SwitchingState} (h : QueueCore w) (hctl : w.control ≠ .autoPending) :
    w.queue.any QueueEntry.isAuto = false := by
  by_contra hauto
  exact hctl (h.2.2.2 (by simpa using hauto))

/-- Entries that leave the queue keep it in order; an AUTO entry that stays, stays in AUTO_PENDING. -/
theorem QueueMove.of_sublist {w w' : SwitchingState} (hsub : w'.queue.Sublist w.queue)
    (hctl : QueueCore w → w'.queue.any QueueEntry.isAuto = true → w'.control = .autoPending) : QueueMove w w' := by
  intro hcore
  obtain ⟨hlen, hcount, horder, -⟩ := (queueCore_iff w).1 hcore
  refine ⟨(queueCore_iff w').2 ⟨hsub.length_le.trans hlen, (hsub.countP_le).trans hcount, horder.sublist hsub,
    hctl hcore⟩, fun hspare => ?_⟩
  by_cases heq : w'.queue.length = w.queue.length
  · unfold Spare
    rwa [hsub.eq_of_length heq]
  · have := hsub.length_le
    exact .inl (by omega)

theorem QueueMove.of_same {w w' : SwitchingState} (hqueue : w'.queue = w.queue)
    (hctl : w.control = .autoPending → w'.control = .autoPending) : QueueMove w w' :=
  .of_sublist (hqueue ▸ List.Sublist.refl _) fun hcore hauto => hctl (hcore.2.2.2 (hqueue ▸ hauto))

/-- The only AUTO entry has left. -/
theorem any_isAuto_eraseP {q : List QueueEntry} (h : q.countP QueueEntry.isAuto ≤ 1) :
    (q.eraseP QueueEntry.isAuto).any QueueEntry.isAuto = false := by
  induction q with
  | nil => rfl
  | cons x q ih =>
    cases hx : x.isAuto with
    | true =>
      have hzero : q.countP QueueEntry.isAuto = 0 := by
        rw [List.countP_cons_of_pos hx] at h
        omega
      rw [List.eraseP_cons_of_pos hx]
      simpa [List.countP_eq_zero] using hzero
    | false =>
      rw [List.countP_cons_of_neg (by simp [hx])] at h
      rw [List.eraseP_cons_of_neg (by simp [hx]), List.any_cons, hx, ih h]
      rfl

theorem firstFailing_eq_none {checks : List (Bool × Condition)} :
    firstFailing checks = none ↔ ∀ x ∈ checks, x.1 = true := by
  induction checks with
  | nil => simp [firstFailing]
  | cons x rest ih =>
    obtain ⟨ok, c⟩ := x
    cases ok <;> simp [firstFailing, ih]

end Sys2Proof.Machine


namespace Sys2Proof.Machine

section
variable {s₀ s : State}

/-! ## Voltage Switching Control -/

/-- A move that leaves the queue, the control state and the slot alone. -/
theorem sameQueue_moves {f : SwitchingState → SwitchingState} (hf : ∀ w, (f w).queue = w.queue ∧ (f w).control = w.control ∧
    (f w).holder = w.holder) (h : Moves s₀ s) : Moves s₀ (s.updSwitching f) := by
  obtain ⟨hqueue, hcontrol, hholder⟩ := hf s.switching
  exact updSwitching_moves (.of_same hqueue fun hpending => hcontrol.trans hpending) hholder h

theorem defer_moves {k : CmdKind} {c : Condition} (h : Moves s₀ s) : Moves s₀ (defer k c s) := logEvent_moves h

theorem refuse_moves {t : Fin 9} {c : Condition} (h : Moves s₀ s) : Moves s₀ (refuse t c s) := logEvent_moves h

/-- R122: AUTO_SETTLE with its timer, as one change of switching control. -/
def SwitchingState.settled (w : SwitchingState) : SwitchingState :=
  { w with high := .stopped, low := .stopped, expiryHeld := none, control := .autoSettle, settle := some 0 }

theorem startSettle_eq (s : State) : startSettle s = s.updSwitching SwitchingState.settled := rfl

/-- Settle starts once no AUTO entry waits. -/
theorem startSettle_moves (hauto : QueueCore s.switching → s.switching.queue.any QueueEntry.isAuto = false)
    (h : Moves s₀ s) : Moves s₀ (startSettle s) := by
  rw [startSettle_eq]
  refine updSwitching_moves (.of_sublist (List.Sublist.refl _) fun hcore hany => ?_) rfl h
  have hany : s.switching.queue.any QueueEntry.isAuto = true := hany
  rw [hauto hcore] at hany
  cases hany

theorem startSettle_moves_of_control (hctl : s.switching.control ≠ .autoPending) (h : Moves s₀ s) :
    Moves s₀ (startSettle s) := startSettle_moves (fun hcore => hcore.no_auto hctl) h

/-- A change of switching control by which the waiting AUTO entry leaves the queue. -/
theorem dropAuto_queueMove {w w' : SwitchingState} (hqueue : w'.queue = w.queue.eraseP QueueEntry.isAuto) : QueueMove w w' :=
  .of_sublist (hqueue ▸ List.eraseP_sublist) fun hcore hany => by
    rw [hqueue, any_isAuto_eraseP ((queueCore_iff w).1 hcore).2.1] at hany
    cases hany

theorem eraseP_eq_self_of_find? {q : List QueueEntry} (h : q.find? QueueEntry.isAuto = none) :
    q.eraseP QueueEntry.isAuto = q := by
  rw [List.eraseP_of_forall_not]
  simpa using h

/-- The withdrawal of the waiting AUTO entry, after which the control state may be any. -/
theorem withdrawAuto_control_moves {c : Condition} {f : SwitchingState → SwitchingState}
    (hqueue : (f s.switching).queue = s.switching.queue) (hholder : (f s.switching).holder = s.switching.holder)
    (h : Moves s₀ s) : Moves s₀ (withdrawAuto c (s.updSwitching f)) := by
  unfold withdrawAuto
  split
  next e _ =>
    have hmove : Moves s₀ (s.updSwitching fun w => { f w with queue := (f w).queue.eraseP QueueEntry.isAuto }) :=
      updSwitching_moves (dropAuto_queueMove (by rw [hqueue])) hholder h
    exact defer_moves hmove
  next hnone =>
    have hnone : (f s.switching).queue.find? QueueEntry.isAuto = none := hnone
    refine updSwitching_moves (dropAuto_queueMove ?_) hholder h
    rw [← hqueue, eraseP_eq_self_of_find? hnone]

/-- R122, R123: the waiting AUTO entry is withdrawn and settle starts. -/
theorem settleWithdrawn_moves {c : Condition} (h : Moves s₀ s) : Moves s₀ (startSettle (withdrawAuto c s)) := by
  have hswap : startSettle (withdrawAuto c s) = withdrawAuto c (s.updSwitching SwitchingState.settled) := by
    unfold withdrawAuto
    cases hfind : s.switching.queue.find? QueueEntry.isAuto <;>
      simp only [State.updSwitching, SwitchingState.settled, hfind] <;> rfl
  rw [hswap]
  exact withdrawAuto_control_moves rfl rfl h

theorem forceManual_moves (h : Moves s₀ s) : Moves s₀ (forceManual s) := by
  unfold forceManual
  split
  · exact h
  · exact withdrawAuto_control_moves (s := s)
      (f := fun w => { w with high := .stopped, low := .stopped, expiryHeld := none, control := .manual, settle := none })
      rfl rfl h

theorem yardFoundDamaged_moves (h : Moves s₀ s) : Moves s₀ (yardFoundDamaged s) :=
  sameQueue_moves (fun _ => ⟨rfl, rfl, rfl⟩) (forceManual_moves h)

/-! ### Grants -/

/-- The head entry leaves the queue. -/
abbrev popQueue (rest : List QueueEntry) (s : State) : State := s.updSwitching fun w => { w with queue := rest }

theorem popQueue_moves {e : QueueEntry} {rest : List QueueEntry} (hq : s.switching.queue = e :: rest) (h : Moves s₀ s) :
    Moves s₀ (popQueue rest s) :=
  updSwitching_moves
    (.of_sublist (hq ▸ List.sublist_cons_self e rest) fun hcore hany => hcore.2.2.2 (by
      have hany : rest.any QueueEntry.isAuto = true := hany
      rw [hq, List.any_cons, hany, Bool.or_true])) rfl h

theorem grantTo_moves {t : Fin 9} {k : CmdKind} {reason : Option Reason} (hfree : s.switching.holder = none)
    (h : Moves s₀ s) : Moves s₀ (grantTo t k reason s) := h.tail (.grant t k reason s hfree)

/-- R125, R126: the AUTO entry at the head is dropped. -/
theorem dropAuto_moves {e : QueueEntry} {rest : List QueueEntry} {k : CmdKind} {c : Condition} (hauto : e.isAuto = true)
    (hq : s.switching.queue = e :: rest) (h : Moves s₀ s) : Moves s₀ (dropAuto k c (popQueue rest s)) := by
  have hmove : Moves s₀ (s.updSwitching fun w => SwitchingState.settled { w with queue := rest }) :=
    updSwitching_moves (dropAuto_queueMove (by rw [hq, List.eraseP_cons_of_pos hauto]; rfl)) rfl h
  exact defer_moves hmove

theorem grantManual_moves {t : Fin 9} {k : CmdKind} (hfree : s.switching.holder = none) (h : Moves s₀ s) :
    Moves s₀ (grantManual t k s) := by
  unfold grantManual
  split
  · exact refuse_moves h
  · exact grantTo_moves hfree h

theorem grantAutoClose_moves {e : QueueEntry} {rest : List QueueEntry} {reason : Reason} (hauto : e.isAuto = true)
    (hq : s.switching.queue = e :: rest) (hfree : s.switching.holder = none) (h : Moves s₀ s) :
    Moves s₀ (grantAutoClose reason (popQueue rest s)) := by
  unfold grantAutoClose
  dsimp only
  split
  · exact dropAuto_moves hauto hq h
  · exact dropAuto_moves hauto hq h
  · exact grantTo_moves hfree (popQueue_moves hq h)

theorem grantAutoOpen_moves {e : QueueEntry} {rest : List QueueEntry} {reason : Reason} (hauto : e.isAuto = true)
    (hq : s.switching.queue = e :: rest) (hfree : s.switching.holder = none) (h : Moves s₀ s) :
    Moves s₀ (grantAutoOpen reason (popQueue rest s)) := by
  unfold grantAutoOpen
  split
  · split
    · exact grantTo_moves hfree (popQueue_moves hq h)
    · exact dropAuto_moves hauto hq h
  · exact dropAuto_moves hauto hq h

theorem grantEntry_moves {e : QueueEntry} {rest : List QueueEntry} (hq : s.switching.queue = e :: rest)
    (hfree : s.switching.holder = none) (h : Moves s₀ s) : Moves s₀ (grantEntry e (popQueue rest s)) := by
  unfold grantEntry
  split
  next => exact grantManual_moves hfree (popQueue_moves hq h)
  next horigin _ => exact grantAutoClose_moves (by rw [QueueEntry.isAuto, horigin]) hq hfree h
  next horigin _ => exact grantAutoOpen_moves (by rw [QueueEntry.isAuto, horigin]) hq hfree h

theorem grantLoop_moves {n : Nat} (h : Moves s₀ s) : Moves s₀ (grantLoop n s) := by
  induction n generalizing s with
  | zero => exact h
  | succ n ih =>
    unfold grantLoop
    split
    next hfree hq => exact ih (grantEntry_moves hq hfree h)
    next => exact h

theorem grantWaiting_moves (h : Moves s₀ s) : Moves s₀ (grantWaiting s) := grantLoop_moves h

/-- An entry that finds room, the AUTO one in AUTO_PENDING without another. -/
theorem enqueue_queueCore {w : SwitchingState} {e : QueueEntry} (hcore : QueueCore w)
    (hroom : w.queue.length < Config.queueCapacity)
    (hauto : e.isAuto = true → w.queue.any QueueEntry.isAuto = false ∧ w.control = .autoPending) :
    QueueCore { w with queue := insertEntry e w.queue } := by
  obtain ⟨-, hcount, horder, hctl⟩ := (queueCore_iff w).1 hcore
  have hperm := insertEntry_perm e w.queue
  refine (queueCore_iff _).2 ⟨?_, ?_, insertEntry_inOrder horder, fun hany => ?_⟩
  · rw [hperm.length_eq, List.length_cons]
    exact hroom
  · rw [hperm.countP_eq]
    cases he : e.isAuto with
    | false => rwa [List.countP_cons_of_neg (by simp [he])]
    | true =>
      have hnone : w.queue.countP QueueEntry.isAuto = 0 := by
        simpa [List.countP_eq_zero] using (hauto he).1
      rw [List.countP_cons_of_pos he, hnone]
  · have hany : (insertEntry e w.queue).any QueueEntry.isAuto = true := hany
    rw [hperm.any_eq, List.any_cons, Bool.or_eq_true] at hany
    exact hany.elim (fun he => (hauto he).2) hctl

theorem insertEntry_any (e : QueueEntry) (q : List QueueEntry) :
    (insertEntry e q).any QueueEntry.isAuto = (e.isAuto || q.any QueueEntry.isAuto) :=
  (insertEntry_perm e q).any_eq

/-- R121, R123: an AUTO entry arrives from a state other than AUTO_PENDING and finds room. -/
theorem arriveAuto_moves {k : CmdKind} {reason : Reason} (hctl : s.switching.control ≠ .autoPending)
    (hroom : queueRoom s = true) (h : Moves s₀ s) : Moves s₀ (arriveAuto k reason s) := by
  refine grantWaiting_moves (s := enqueue k (.auto reason) (goPending s)) ?_
  refine updSwitching_moves (s := s) (f := fun w => { w with
    high := .stopped, low := .stopped, expiryHeld := none, control := .autoPending
    queue := insertEntry { kind := k, origin := .auto reason, arrival := s.timebase } w.queue }) (fun hcore => ?_) rfl h
  have hnone := hcore.no_auto hctl
  have hpending : QueueCore { s.switching with
      high := .stopped, low := .stopped, expiryHeld := none, control := .autoPending } :=
    (QueueMove.of_sublist (w := s.switching) (w' := { s.switching with
      high := .stopped, low := .stopped, expiryHeld := none, control := .autoPending })
      (List.Sublist.refl _) (fun _ _ => rfl) hcore).1
  exact ⟨enqueue_queueCore hpending (by simpa [queueRoom] using hroom) fun _ => ⟨hnone, rfl⟩,
    fun _ => .inr (by rw [insertEntry_any]; rfl)⟩

/-! ### Expiries and the selection -/

theorem judgeHigh_moves {rise : Nat} (hctl : s.switching.control ≠ .autoPending) (h : Moves s₀ s) :
    Moves s₀ (judgeHigh rise s) := by
  unfold judgeHigh
  split
  next => exact startSettle_moves_of_control hctl (defer_moves h)
  next hnone =>
    have hroom := firstFailing_eq_none.1 hnone (queueRoom s, .queueFull) (by simp)
    exact arriveAuto_moves hctl hroom h

theorem judgeLow_moves {rise : Nat} (hctl : s.switching.control ≠ .autoPending) (h : Moves s₀ s) :
    Moves s₀ (judgeLow rise s) := by
  unfold judgeLow
  split
  next => exact startSettle_moves_of_control hctl (defer_moves h)
  next hnone =>
    have hroom := firstFailing_eq_none.1 hnone (queueRoom s, .queueFull) (by simp)
    exact arriveAuto_moves hctl hroom h

theorem judgeHeld_moves (h : Moves s₀ s) : Moves s₀ (judgeHeld s) := by
  unfold judgeHeld
  split
  next hctl => exact judgeHigh_moves (by simp [hctl]) h
  next hctl => exact judgeLow_moves (by simp [hctl]) h
  next => exact h

theorem highExpiry_moves (h : Moves s₀ s) : Moves s₀ (highExpiry s) := by
  unfold highExpiry
  split
  case isTrue hruns =>
    have hctl : s.switching.control = .autoHigh := by
      simp only [highRuns, decide_eq_true_eq] at hruns
      exact hruns.1
    split
    · exact sameQueue_moves (fun _ => ⟨rfl, rfl, rfl⟩) h
    · exact judgeHigh_moves (by simp [hctl]) h
  case isFalse => exact h

theorem lowExpiry_moves (h : Moves s₀ s) : Moves s₀ (lowExpiry s) := by
  unfold lowExpiry
  split
  case isTrue hruns =>
    have hctl : s.switching.control = .autoLow := by
      simp only [lowRuns, decide_eq_true_eq] at hruns
      exact hruns.1
    split
    · exact sameQueue_moves (fun _ => ⟨rfl, rfl, rfl⟩) h
    · exact judgeLow_moves (by simp [hctl]) h
  case isFalse => exact h

theorem settleExpiry_moves (h : Moves s₀ s) : Moves s₀ (settleExpiry s) := by
  unfold settleExpiry
  split
  case isTrue hdue =>
    exact updSwitching_moves (.of_same rfl fun hpending => by rw [hdue.1] at hpending; cases hpending) rfl h
  case isFalse => exact h

theorem restoreExpiry_moves (h : Moves s₀ s) : Moves s₀ (restoreExpiry s) := by
  unfold restoreExpiry
  split
  · split
    · exact logEvent_moves (sameQueue_moves (fun _ => ⟨rfl, rfl, rfl⟩) h)
    · exact sameQueue_moves (fun _ => ⟨rfl, rfl, rfl⟩) h
  · exact h

theorem expireReached_moves (h : Moves s₀ s) : Moves s₀ (expireReached s) := by
  unfold expireReached
  dsimp only
  with_reducible repeat' first
    | assumption | refine highExpiry_moves ?_ | refine lowExpiry_moves ?_ | refine settleExpiry_moves ?_
    | refine restoreExpiry_moves ?_ | split

theorem dropSelection_moves (h : Moves s₀ s) : Moves s₀ (dropSelection s) :=
  judgeHeld_moves (sameQueue_moves (fun _ => ⟨rfl, rfl, rfl⟩) h)

theorem removeSelection_moves {k : EventKind} {value : Option Nat} (h : Moves s₀ s) :
    Moves s₀ (removeSelection k value s) := by
  unfold removeSelection
  split
  · exact judgeHeld_moves (logEvent_moves (sameQueue_moves (fun _ => ⟨rfl, rfl, rfl⟩) h))
  · exact h

theorem settleAtRelease_moves (h : Moves s₀ s) : Moves s₀ (settleAtRelease s) := by
  unfold settleAtRelease
  split
  next => exact h
  next hctl => exact startSettle_moves_of_control (by simp [hctl]) h
  next hctl => exact startSettle_moves_of_control (by simp [hctl]) h
  next hctl => exact startSettle_moves_of_control (by simp [hctl]) h
  next hctl => exact startSettle_moves_of_control (by simp [hctl]) h
  next => exact settleWithdrawn_moves h

theorem settleAtMove_moves (h : Moves s₀ s) : Moves s₀ (settleAtMove s) := by
  unfold settleAtMove
  split
  next => exact h
  next hctl => exact startSettle_moves_of_control (by simp [hctl]) h
  next hctl => exact startSettle_moves_of_control (by simp [hctl]) h
  next hctl => exact startSettle_moves_of_control (by simp [hctl]) h
  next hctl => exact startSettle_moves_of_control (by simp [hctl]) h
  next =>
    split
    · exact settleWithdrawn_moves h
    · exact h

/-! ### The line state and the band -/

theorem deadLineTrip_moves {i : Fin 8} (h : Moves s₀ s) : Moves s₀ (deadLineTrip i s) := hand_moves rfl h

theorem tripEnergised_moves (h : Moves s₀ s) : Moves s₀ (tripEnergised s) := by
  refine foldl_moves (fun t i ht => ?_) h
  split
  · exact deadLineTrip_moves ht
  · exact ht

theorem enterDead_moves (h : Moves s₀ s) : Moves s₀ (enterDead s) :=
  tripEnergised_moves (hand_moves rfl (logEvent_moves (sameQueue_moves (fun _ => ⟨rfl, rfl, rfl⟩) h)))

theorem logRemoved_moves {e : QueueEntry} (h : Moves s₀ s) : Moves s₀ (logRemoved s e) := by
  unfold logRemoved
  split
  · exact refuse_moves h
  · exact defer_moves h

/-- The events of the entries that go leave switching control alone. -/
theorem foldl_logRemoved_updSwitching (gone : List QueueEntry) (f : SwitchingState → SwitchingState) (s : State) :
    (gone.foldl logRemoved s).updSwitching f = gone.foldl logRemoved (s.updSwitching f) := by
  induction gone generalizing s with
  | nil => rfl
  | cons e gone ih =>
    have hstep : (logRemoved s e).updSwitching f = logRemoved (s.updSwitching f) e := by
      obtain ⟨kind, origin, arrival⟩ := e
      cases origin <;> rfl
    rw [List.foldl_cons, List.foldl_cons, ih, hstep]

/-- R117, steps 5 and 6: what the removal of the CLOSE entries leaves of switching control. -/
def SwitchingState.withoutCloses (w : SwitchingState) : SwitchingState :=
  { w with
    queue := w.queue.filter fun e => e.kind = .opn
    high := .stopped, low := .stopped, expiryHeld := none
    control := deadControl (w.queue.any fun e => e.isAuto && e.kind = .close) w.control }

theorem goDead_eq (s : State) :
    goDead s =
      let u := removeSelection .selectionRemoved (some (conditionNumber .dead)) (enterDead s)
      (u.switching.queue.filter fun e => e.kind = .close).foldl logRemoved
        (u.updSwitching SwitchingState.withoutCloses) := by
  unfold goDead
  generalize removeSelection .selectionRemoved (some (conditionNumber .dead)) (enterDead s) = u
  unfold removeCloses stopBandTimers
  dsimp only
  rw [foldl_logRemoved_updSwitching, foldl_logRemoved_updSwitching]
  congr 1

theorem withoutCloses_queueMove (w : SwitchingState) : QueueMove w w.withoutCloses := by
  refine .of_sublist List.filter_sublist fun hcore hany => ?_
  have hcount := ((queueCore_iff w).1 hcore).2.1
  obtain ⟨e, he, hauto⟩ := List.any_eq_true.1 hany
  obtain ⟨hmem, hopen⟩ := List.mem_filter.1 he
  have hctl : w.control = .autoPending := hcore.2.2.2 (List.any_eq_true.2 ⟨e, hmem, hauto⟩)
  have hstays : (w.queue.any fun e => e.isAuto && e.kind = .close) = false := by
    by_contra hgone
    obtain ⟨e', hmem', hauto', hclose⟩ : ∃ e' ∈ w.queue, e'.isAuto = true ∧ e'.kind = .close := by simpa using hgone
    rw [List.countP_eq_length_filter] at hcount
    have hmems : e ∈ w.queue.filter QueueEntry.isAuto ∧ e' ∈ w.queue.filter QueueEntry.isAuto := by
      simp_all
    have hsame : e = e' := by
      match hq : w.queue.filter QueueEntry.isAuto, hcount, hmems with
      | [x], _, ⟨h1, h2⟩ => rw [List.mem_singleton.1 h1, List.mem_singleton.1 h2]
    rw [hsame, decide_eq_true_eq, hclose] at hopen
    cases hopen
  show deadControl _ w.control = _
  rw [hstays, hctl]
  rfl

theorem goDead_moves (h : Moves s₀ s) : Moves s₀ (goDead s) := by
  rw [goDead_eq]
  have hu := removeSelection_moves (k := .selectionRemoved) (value := some (conditionNumber .dead)) (enterDead_moves h)
  generalize removeSelection .selectionRemoved (some (conditionNumber .dead)) (enterDead s) = u at hu ⊢
  exact foldl_moves (fun _ _ => logRemoved_moves) (updSwitching_moves (withoutCloses_queueMove _) rfl hu)

theorem lineRules_moves (h : Moves s₀ s) : Moves s₀ (lineRules s) := by
  unfold lineRules
  dsimp only
  with_reducible repeat' first
    | assumption | refine goDead_moves ?_ | refine logEvent_moves ?_
    | refine sameQueue_moves (fun _ => ⟨rfl, rfl, rfl⟩) ?_ | split

theorem bandAbove_control (w : SwitchingState) :
    (bandAbove w).queue = w.queue ∧ (bandAbove w).holder = w.holder ∧
      (w.control = .autoPending → (bandAbove w).control = .autoPending) := by
  unfold bandAbove
  split <;> simp_all

theorem bandBelow_control (w : SwitchingState) :
    (bandBelow w).queue = w.queue ∧ (bandBelow w).holder = w.holder ∧
      (w.control = .autoPending → (bandBelow w).control = .autoPending) := by
  unfold bandBelow
  split <;> simp_all

theorem bandWithin_control (w : SwitchingState) :
    (bandWithin w).queue = w.queue ∧ (bandWithin w).holder = w.holder ∧
      (w.control = .autoPending → (bandWithin w).control = .autoPending) := by
  unfold bandWithin
  split <;> simp_all

theorem bandRules_moves (h : Moves s₀ s) : Moves s₀ (bandRules s) := by
  unfold bandRules
  split
  · split
    · split
      · obtain ⟨hqueue, hholder, hctl⟩ := bandAbove_control s.switching
        exact updSwitching_moves (.of_same hqueue hctl) hholder h
      · split
        · obtain ⟨hqueue, hholder, hctl⟩ := bandBelow_control s.switching
          exact updSwitching_moves (.of_same hqueue hctl) hholder h
        · obtain ⟨hqueue, hholder, hctl⟩ := bandWithin_control s.switching
          exact updSwitching_moves (.of_same hqueue hctl) hholder h
    · exact sameQueue_moves (fun _ => ⟨rfl, rfl, rfl⟩) h
  · exact h

theorem formControlQuantity_moves (h : Moves s₀ s) : Moves s₀ (formControlQuantity s) := by
  unfold formControlQuantity
  dsimp only
  with_reducible repeat' first
    | assumption | refine logEvent_moves ?_ | refine sameQueue_moves (fun _ => ⟨rfl, rfl, rfl⟩) ?_ | split

theorem takeLimits_moves (h : Moves s₀ s) : Moves s₀ (takeLimits s) := by
  unfold takeLimits
  split
  · exact h
  · exact sameQueue_moves (fun _ => ⟨rfl, rfl, rfl⟩) h

theorem controlEvaluation_moves (h : Moves s₀ s) : Moves s₀ (controlEvaluation s) := by
  unfold controlEvaluation
  dsimp only
  with_reducible repeat' first
    | assumption | refine bandRules_moves ?_ | refine lineRules_moves ?_ | refine takeLimits_moves ?_
    | refine formControlQuantity_moves ?_ | split

/-! ### Reports and outcomes -/

theorem selectionByReport_moves {r : StepReport} (h : Moves s₀ s) : Moves s₀ (selectionByReport r s) := by
  unfold selectionByReport
  with_reducible repeat' first | assumption | refine removeSelection_moves ?_ | split

theorem tripInDead_moves {r : StepReport} (h : Moves s₀ s) : Moves s₀ (tripInDead r s) := by
  unfold tripInDead
  with_reducible repeat' first | assumption | refine deadLineTrip_moves ?_ | split

/-- Switching control takes a step report, up to the release of the slot, which a releasing report makes. -/
theorem controlReport_moves {r : StepReport} (h : Moves s₀ (if releasing (.controlStepReport r) then
    releaseSlot (stepUnit r.step) s else s)) : Moves s₀ (controlReport r s) := by
  unfold controlReport settleByReport releaseByReport
  have hreleasing : releasing (.controlStepReport r) = true ↔ r.slotHeld ∧ (r.old = .closing ∨ r.old = .opening) := by
    simp [releasing]
  refine grantWaiting_moves (tripInDead_moves (selectionByReport_moves ?_))
  dsimp only
  split at h
  case isTrue hrel =>
    rw [if_pos (hreleasing.1 hrel)]
    with_reducible repeat' first
      | assumption | refine settleAtMove_moves ?_ | refine settleAtRelease_moves ?_ | refine logEvent_moves ?_ | split
  case isFalse hrel =>
    rw [if_neg fun hr => hrel (hreleasing.2 hr)]
    split
    · exact settleAtMove_moves h
    · exact h

theorem switchEvent_moves {i : Fin 8} {k : CmdKind} {r : SwitchResult} (h : Moves s₀ s) :
    Moves s₀ (switchEvent i k r s) := by
  unfold switchEvent
  split <;> exact logEvent_moves h

theorem takeSwitchOutcome_moves {i : Fin 8} {k : CmdKind} {r : SwitchResult} (h : Moves s₀ s) :
    Moves s₀ (takeSwitchOutcome i k r s) := grantWaiting_moves (switchEvent_moves h)

theorem incomerEvent_moves {k : CmdKind} {r : IncomerResult} (h : Moves s₀ s) : Moves s₀ (incomerEvent k r s) := by
  unfold incomerEvent
  split
  · exact logEvent_moves h
  · exact logEvent_moves h
  · exact refuse_moves h
  · exact logEvent_moves h

theorem takeIncomerOutcome_moves {k : CmdKind} {r : IncomerResult} (h : Moves s₀ s) :
    Moves s₀ (takeIncomerOutcome k r s) := by
  have hevent : Moves s₀ (incomerEvent k r (releaseSlot incomer s)) := incomerEvent_moves (h.tail (.release s))
  refine grantWaiting_moves ?_
  unfold endIncomer
  dsimp only
  split
  · exact settleAtRelease_moves hevent
  · exact hevent

theorem takeDetune_moves (h : Moves s₀ s) : Moves s₀ (takeDetune s) := by
  unfold takeDetune
  split
  case isTrue htaken =>
    simp only [detuneTaken, decide_eq_true_eq] at htaken
    obtain ⟨hctl, hroom⟩ := htaken
    refine arriveAuto_moves (fun hpending => ?_) hroom h
    rw [hpending] at hctl
    simp at hctl
  case isFalse => exact h

theorem selectionExpires_moves (h : Moves s₀ s) : Moves s₀ (selectionExpires s) :=
  removeSelection_moves h

/-! ### The selection made an entry (R123, R130) -/

theorem makeRoom_moves (h : Moves s₀ s) : Moves s₀ (makeRoom s) := by
  unfold makeRoom displaceAuto
  split
  · exact h
  · exact settleWithdrawn_moves h

/-- R123: a queue with room, or with an AUTO entry, has room once room is made. -/
theorem makeRoom_room (hcore : QueueCore s.switching) (hspare : Spare s.switching) :
    (makeRoom s).switching.queue.length < Config.queueCapacity := by
  unfold makeRoom
  split
  case isTrue hroom => simpa [queueRoom] using hroom
  case isFalse hfull =>
    have hfull : ¬ s.switching.queue.length < Config.queueCapacity := by simpa [queueRoom] using hfull
    have hany := hspare.resolve_left hfull
    obtain ⟨e, hmem, hauto⟩ := List.any_eq_true.1 hany
    have hlen := hcore.1
    have herase := List.length_eraseP_of_mem hmem hauto
    have hpos := List.length_pos_of_mem hmem
    unfold displaceAuto withdrawAuto
    split
    next =>
      show (s.switching.queue.eraseP QueueEntry.isAuto).length < _
      omega
    next hnone =>
      rw [List.find?_eq_none] at hnone
      exact absurd hauto (hnone e hmem)

end

end Sys2Proof.Machine


namespace Sys2Proof.Machine

/-! ## The queues of a port (R150 to R153) -/

/-- R151: COMMAND frames stand ahead of all others, at most one of each command context. -/
def OriginOrder (q : List OriginFrame) : Prop :=
  ∃ cs rest, q = cs ++ rest ∧ cs.all OriginFrame.isCommand = true ∧ rest.all (fun f => !f.isCommand) = true ∧
    (cs.map OriginFrame.cls).Nodup

theorem portOk_iff (p : PortState) : PortOk p ↔ p.forward.length ≤ Config.forwardCapacity ∧
    p.origin.length ≤ Config.originCapacity ∧ OriginOrder p.origin ∧
    (p.linkUp = false → p.forward = [] ∧ p.tx = none) ∧ p.originRun ≤ 2 := Iff.rfl

theorem OriginFrame.isCommand_eq_true {f : OriginFrame} : f.isCommand = true ↔ ∃ u, f.cls = .command u := by
  unfold OriginFrame.isCommand
  cases f.cls <;> simp

theorem OriginOrder.sublist {q q' : List OriginFrame} (hsub : q'.Sublist q) (h : OriginOrder q) : OriginOrder q' := by
  obtain ⟨cs, rest, rfl, hcs, hrest, hnodup⟩ := h
  obtain ⟨l₁, l₂, rfl, h₁, h₂⟩ := List.sublist_append_iff.1 hsub
  refine ⟨l₁, l₂, rfl, ?_, ?_, (h₁.map _).nodup hnodup⟩
  · exact List.all_eq_true.2 fun f hf => List.all_eq_true.1 hcs f (h₁.subset hf)
  · exact List.all_eq_true.2 fun f hf => List.all_eq_true.1 hrest f (h₂.subset hf)

theorem OriginOrder.commands_first {q : List OriginFrame} (h : OriginOrder q) :
    ∃ cs rest, q = cs ++ rest ∧ cs.all OriginFrame.isCommand = true ∧ rest.all (fun f => !f.isCommand) = true ∧
      (cs.map OriginFrame.cls).Nodup ∧ ∀ f, insertCommand f q = cs ++ f :: rest := by
  obtain ⟨cs, rest, rfl, hcs, hrest, hnodup⟩ := h
  refine ⟨cs, rest, rfl, hcs, hrest, hnodup, fun f => ?_⟩
  have hcs' : ∀ g ∈ cs, g.isCommand = true := List.all_eq_true.1 hcs
  unfold insertCommand
  cases rest with
  | nil => simp [List.takeWhile_eq_self_iff.2 hcs', List.dropWhile_eq_nil_iff.2 hcs']
  | cons g rest =>
    have hg : g.isCommand = false := by simp_all
    simp [List.takeWhile_append_of_pos hcs', List.dropWhile_append_of_pos hcs', hg]

theorem OriginOrder.insertCommand {f : OriginFrame} {u : Fin 9} {q : List OriginFrame} (hf : f.cls = .command u)
    (hnew : q.any (OriginFrame.ofUnit u) = false) (h : OriginOrder q) : OriginOrder (insertCommand f q) := by
  obtain ⟨cs, rest, rfl, hcs, hrest, hnodup, hins⟩ := h.commands_first
  refine ⟨cs ++ [f], rest, by simp [hins], ?_, hrest, ?_⟩
  · simp [hcs, OriginFrame.isCommand_eq_true.2 ⟨u, hf⟩]
  · rw [List.map_append, List.nodup_append]
    refine ⟨hnodup, by simp, fun a ha b hb hab => ?_⟩
    obtain ⟨g, hg, rfl⟩ := List.mem_map.1 ha
    simp only [List.map_cons, List.map_nil, List.mem_singleton, hf] at hb
    have hgu : g.ofUnit u = true := by simp [OriginFrame.ofUnit, hab, hb]
    simp [List.any_append, List.any_eq_true.2 ⟨g, hg, hgu⟩] at hnew

theorem OriginOrder.append {f : OriginFrame} {q : List OriginFrame} (hf : f.isCommand = false) (h : OriginOrder q) :
    OriginOrder (q ++ [f]) := by
  obtain ⟨cs, rest, rfl, hcs, hrest, hnodup⟩ := h
  exact ⟨cs, rest ++ [f], by simp, hcs, by simp [hrest, hf], hnodup⟩

theorem OriginOrder.replace {f : OriginFrame} {u : Fin 9} {q : List OriginFrame} (hf : f.cls = .command u)
    (h : OriginOrder q) : OriginOrder (q.map fun g => if g.ofUnit u then f else g) := by
  have hcls : ∀ g : OriginFrame, (if g.ofUnit u then f else g).cls = g.cls := fun g => by
    split
    · next hg => simpa [OriginFrame.ofUnit, hf, eq_comm] using hg
    · rfl
  have hcmd : ∀ g : OriginFrame, (if g.ofUnit u then f else g).isCommand = g.isCommand := fun g => by
    simp only [OriginFrame.isCommand, hcls]
  obtain ⟨cs, rest, rfl, hcs, hrest, hnodup⟩ := h
  refine ⟨_, _, List.map_append, ?_, ?_, ?_⟩
  · simpa [List.all_map, Function.comp_def, hcmd] using hcs
  · simpa [List.all_map, Function.comp_def, hcmd] using hrest
  · simpa [List.map_map, Function.comp_def, hcls] using hnodup

theorem length_insertCommand (f : OriginFrame) (q : List OriginFrame) : (insertCommand f q).length = q.length + 1 := by
  have hlen := congrArg List.length (List.takeWhile_append_dropWhile (p := OriginFrame.isCommand) (l := q))
  simp only [insertCommand, List.length_append, List.length_cons, List.length_nil] at hlen ⊢
  omega

theorem PortOk.sendOrigin {p : PortState} (hup : p.linkUp = true) (h : PortOk p) : PortOk p.sendOrigin := by
  obtain ⟨hforward, horigin, horder, hdown, hrun⟩ := (portOk_iff p).1 h
  unfold PortState.sendOrigin
  split
  case h_1 f rest hq =>
    rw [hq] at horigin horder
    exact ⟨hforward, (Nat.le_succ _).trans horigin, horder.sublist (List.sublist_cons_self f rest),
      fun hd => by simp [hup] at hd, Nat.min_le_left _ _⟩
  case h_2 => exact h

theorem PortOk.sendForward {p : PortState} (hup : p.linkUp = true) (h : PortOk p) : PortOk p.sendForward := by
  obtain ⟨hforward, horigin, horder, hdown, hrun⟩ := (portOk_iff p).1 h
  unfold PortState.sendForward
  split
  case h_1 f rest hq =>
    rw [hq] at hforward
    exact ⟨(Nat.le_succ _).trans hforward, horigin, horder, fun hd => by simp [hup] at hd, Nat.zero_le _⟩
  case h_2 => exact h

theorem PortOk.choose {p : PortState} (h : PortOk p) : PortOk p.choose := by
  unfold PortState.choose
  split
  case isFalse => exact h
  case isTrue hidle =>
    obtain ⟨hup, -⟩ := Bool.and_eq_true_iff.1 hidle
    split
    · exact h.sendOrigin hup
    · split
      · exact h.sendForward hup
      · split
        · exact h.sendOrigin hup
        · exact h.sendForward hup

theorem PortOk.counts {p : PortState} {c : PortCounts} (h : PortOk p) : PortOk { p with counts := c } := h

theorem PortOk.joinForward {p : PortState} {bytes : List Byte} (h : PortOk p) : PortOk (p.joinForward bytes) := by
  unfold PortState.joinForward
  split
  case isTrue hroom =>
    obtain ⟨hforward, horigin, horder, hdown, hrun⟩ := (portOk_iff p).1 h
    refine PortOk.choose ⟨?_, horigin, horder, fun hd => ?_, hrun⟩
    · simp only [List.length_append, List.length_cons, List.length_nil]; exact hroom.2
    · simp [hroom.1] at hd
  case isFalse => exact h.counts

theorem PortOk.withOrigin {p : PortState} {q : List OriginFrame} (hlen : q.length ≤ Config.originCapacity)
    (hq : OriginOrder q) (h : PortOk p) : PortOk { p with origin := q } := by
  obtain ⟨hforward, -, -, hdown, hrun⟩ := (portOk_iff p).1 h
  exact ⟨hforward, hlen, hq, hdown, hrun⟩

/-- R151: a COMMAND frame enters a full queue in exchange for the earliest frame of a class. -/
theorem PortOk.exchange {p : PortState} {f : OriginFrame} {u : Fin 9} {cls : OriginFrame → Bool} {g : OriginFrame}
    (hf : f.cls = .command u) (hnew : p.origin.any (OriginFrame.ofUnit u) = false) (hg : p.origin.find? cls = some g)
    (h : PortOk p) : PortOk { p with origin := insertCommand f (p.origin.eraseP cls) } := by
  obtain ⟨-, horigin, horder, -, -⟩ := (portOk_iff p).1 h
  have hlen := List.length_eraseP_of_mem (p := cls) (List.mem_of_find?_eq_some hg) (List.find?_some hg)
  have hpos := List.length_pos_of_mem (List.mem_of_find?_eq_some hg)
  refine h.withOrigin (by rw [length_insertCommand]; omega) (.insertCommand hf ?_ (horder.sublist List.eraseP_sublist))
  exact List.any_eq_false.2 fun x hx => List.any_eq_false.1 hnew x (List.mem_of_mem_eraseP hx)

theorem PortOk.enter {p : PortState} {f : OriginFrame} (h : PortOk p) : PortOk (p.enter f).1 := by
  obtain ⟨-, horigin, horder, -, -⟩ := (portOk_iff p).1 h
  unfold PortState.enter
  split
  case h_1 u hf =>
    split
    case isTrue => exact h.withOrigin (by simpa using horigin) (horder.replace hf)
    case isFalse hnew =>
      rw [Bool.not_eq_true] at hnew
      split
      case isTrue hroom => exact h.withOrigin (by rw [length_insertCommand]; exact hroom) (horder.insertCommand hf hnew)
      case isFalse =>
        split
        case h_1 hg => exact (h.exchange hf hnew hg).counts
        case h_2 =>
          split
          case h_1 hg => exact (h.exchange hf hnew hg).counts
          case h_2 => exact h
  case h_2 hf =>
    split
    case isTrue hroom =>
      have hcmd : f.isCommand = false := Bool.eq_false_iff.2 fun hc => by
        obtain ⟨u, hu⟩ := OriginFrame.isCommand_eq_true.1 hc
        exact hf u hu
      exact h.withOrigin (by simpa using hroom) (horder.append hcmd)
    case isFalse => exact h.counts

theorem PortOk.filterOrigin {p : PortState} {keep : OriginFrame → Bool} (h : PortOk p) :
    PortOk { p with origin := p.origin.filter keep } := by
  obtain ⟨-, horigin, horder, -, -⟩ := (portOk_iff p).1 h
  exact h.withOrigin ((List.length_filter_le _ _).trans horigin) (horder.sublist List.filter_sublist)

theorem PortOk.goDown {p : PortState} (h : PortOk p) : PortOk p.goDown := by
  obtain ⟨hforward, horigin, horder, hdown, hrun⟩ := (portOk_iff p).1 h
  exact ⟨Nat.zero_le _, horigin, horder, fun _ => ⟨rfl, rfl⟩, hrun⟩

theorem PortOk.goUp {p : PortState} (h : PortOk p) : PortOk p.goUp := by
  obtain ⟨hforward, horigin, horder, hdown, hrun⟩ := (portOk_iff p).1 h
  exact PortOk.choose ⟨hforward, horigin, horder, nofun, hrun⟩

theorem PortOk.endTransmission {p : PortState} (h : PortOk p) : PortOk p.endTransmission := by
  obtain ⟨hforward, horigin, horder, hdown, hrun⟩ := (portOk_iff p).1 h
  exact PortOk.choose ⟨hforward, horigin, horder, fun hd => ⟨(hdown hd).1, rfl⟩, hrun⟩

/-! ## The ports as moves -/

section
variable {s₀ s : State}

theorem restartDue_moves {lost : Option OriginFrame} (h : Moves s₀ s) : Moves s₀ (restartDue lost s) := by
  unfold restartDue
  with_reducible repeat' first | assumption | refine hand_moves rfl ?_ | split

theorem enterOrigin_moves {f : OriginFrame} {p : Port} (h : Moves s₀ s) : Moves s₀ (enterOrigin f p s) := by
  unfold enterOrigin
  exact restartDue_moves (setPort_moves (fun hp => hp.enter.choose) h)

theorem enterOrigins_moves {f : OriginFrame} {p : Option Port} (h : Moves s₀ s) : Moves s₀ (enterOrigins f p s) := by
  unfold enterOrigins
  with_reducible repeat' first | assumption | refine enterOrigin_moves ?_ | split

theorem withdrawFrames_moves {u : Fin 9} {p : Port} (h : Moves s₀ s) : Moves s₀ (withdrawFrames u p s) :=
  setPort_moves PortOk.filterOrigin h

theorem withdrawAll_moves {u : Fin 9} (h : Moves s₀ s) : Moves s₀ (withdrawAll u s) :=
  withdrawFrames_moves (withdrawFrames_moves h)

end

end Sys2Proof.Machine


namespace Sys2Proof.Machine

section
variable {s₀ s : State}

/-! ## Phasor Engine -/

theorem actOnPublication_moves {m : Fin 38} (h : Moves s₀ s) : Moves s₀ (actOnPublication m s) := by
  unfold actOnPublication
  dsimp only
  with_reducible repeat' first
    | assumption | refine harmonicPublication_moves ?_ | refine unbalanceEvaluate_moves ?_
    | refine heatUpdate_moves ?_ | refine controlEvaluation_moves ?_ | split

theorem publish_moves {m : Fin 38} {record : ResultRecord} (h : Moves s₀ s) : Moves s₀ (publish m record s) := by
  unfold publish
  with_reducible repeat' first
    | assumption | refine markChange_moves ?_ | refine actOnPublication_moves ?_ | refine engine_moves ?_

theorem publishInvalid_moves {m : Fin 38} (h : Moves s₀ s) : Moves s₀ (publishInvalid m s) :=
  publish_moves h

theorem setWindow_moves {m : Fin 38} {w : Fin 2} {x : Window} (h : Moves s₀ s) : Moves s₀ (setWindow m w x s) :=
  updInput_moves h

theorem setNotice_moves {m : Fin 38} {x : Option (Vector Bool 2)} (h : Moves s₀ s) : Moves s₀ (setNotice m x s) :=
  engine_moves h

theorem settleNotice_moves {m : Fin 38} (h : Moves s₀ s) : Moves s₀ (settleNotice m s) := by
  unfold settleNotice
  with_reducible repeat' first | assumption | refine publishInvalid_moves ?_ | refine setNotice_moves ?_ | split

theorem endWait_moves {m : Fin 38} {w : Fin 2} (h : Moves s₀ s) : Moves s₀ (endWait m w s) := by
  unfold endWait
  with_reducible repeat' first | assumption | refine setNotice_moves ?_ | refine settleNotice_moves ?_ | split

theorem handNotice_moves {m : Fin 38} (h : Moves s₀ s) : Moves s₀ (handNotice m s) := by
  unfold handNotice
  dsimp only
  with_reducible repeat' first | assumption | refine setNotice_moves ?_ | refine settleNotice_moves ?_

theorem engineTake_moves (h : Moves s₀ s) : Moves s₀ (engineTake s) := by
  unfold engineTake
  dsimp only
  with_reducible repeat' first | assumption | refine setWindow_moves ?_ | split | refine engine_moves ?_

theorem enqueueWindow_moves {m : Fin 38} (h : Moves s₀ s) : Moves s₀ (enqueueWindow m s) := by
  unfold enqueueWindow
  with_reducible repeat' first | assumption | refine engineTake_moves ?_ | refine engine_moves ?_

theorem computationEnds_moves (h : Moves s₀ s) : Moves s₀ (computationEnds s) := by
  unfold computationEnds
  dsimp only
  with_reducible repeat' first
    | assumption | refine publish_moves ?_ | refine setWindow_moves ?_ | refine endWait_moves ?_
    | refine engineTake_moves ?_ | split | refine engine_moves ?_

theorem withdrawWindow_moves {m : Fin 38} {w : Fin 2} (h : Moves s₀ s) : Moves s₀ (withdrawWindow m s w) := by
  unfold withdrawWindow
  dsimp only
  with_reducible repeat' first
    | assumption | refine setWindow_moves ?_ | refine endWait_moves ?_ | split | refine engine_moves ?_

theorem withdrawInput_moves {m : Fin 38} (h : Moves s₀ s) : Moves s₀ (withdrawInput m s) := by
  unfold withdrawInput
  with_reducible repeat' first | assumption | refine withdrawWindow_moves ?_ | refine foldl_moves (fun _ _ _ => ?_) ?_

theorem ageTick_moves (h : Moves s₀ s) : Moves s₀ (ageTick s) := by
  unfold ageTick
  dsimp only
  with_reducible repeat' first | assumption | split | refine engine_moves ?_

theorem takeHold_moves (h : Moves s₀ s) : Moves s₀ (takeHold s) :=
  engine_moves h

theorem endHold_moves (h : Moves s₀ s) : Moves s₀ (endHold s) :=
  engine_moves h

/-! ## Stream Acceptance -/

theorem setFill_moves {m : Fin 38} {x : FillState} (h : Moves s₀ s) : Moves s₀ (setFill m x s) :=
  updInput_moves h

theorem discardTo_moves {x : FillState} {m : Fin 38} (h : Moves s₀ s) : Moves s₀ (discardTo x m s) :=
  updInput_moves h

theorem breakInput_moves {m : Fin 38} (h : Moves s₀ s) : Moves s₀ (breakInput m s) := by
  unfold breakInput
  with_reducible repeat' first | assumption | refine handNotice_moves ?_ | refine discardTo_moves ?_

theorem abandonInput_moves {m : Fin 38} (h : Moves s₀ s) : Moves s₀ (abandonInput s m) := by
  unfold abandonInput
  with_reducible repeat' first | assumption | refine breakInput_moves ?_ | split

theorem abandonRow_moves {i : Fin 16} (h : Moves s₀ s) : Moves s₀ (abandonRow i s) := by
  unfold abandonRow
  dsimp only
  with_reducible repeat' first
    | assumption | refine updStream_moves ?_ | refine abandonInput_moves ?_
    | refine foldl_moves (fun _ _ _ => ?_) ?_

theorem countOverrun_moves {m : Fin 38} (h : Moves s₀ s) : Moves s₀ (countOverrun m s) :=
  updInput_moves h

theorem windowBoundary_moves {m : Fin 38} {w : Fin 2} (h : Moves s₀ s) : Moves s₀ (windowBoundary m w s) := by
  unfold windowBoundary
  dsimp only
  with_reducible repeat' first
    | assumption | refine setWindow_moves ?_ | refine endWait_moves ?_ | refine enqueueWindow_moves ?_
    | refine setFill_moves ?_ | refine countOverrun_moves ?_ | split

theorem storeValue_moves {m : Fin 38} {c : Nat} {value : Int} {doubtful : Bool} {w : Fin 2} (h : Moves s₀ s) :
    Moves s₀ (storeValue m c value doubtful w s) := by
  unfold storeValue
  dsimp only
  with_reducible repeat' first | assumption | refine setWindow_moves ?_ | refine windowBoundary_moves ?_ | split

theorem placeReceived_moves {m : Fin 38} {c : Nat} {value : Int} {doubtful : Bool} (h : Moves s₀ s) :
    Moves s₀ (placeReceived m c value doubtful s) := by
  unfold placeReceived
  dsimp only
  with_reducible repeat' first
    | assumption | refine handSample_moves ?_ | refine setWindow_moves ?_ | refine setFill_moves ?_
    | refine countOverrun_moves ?_ | refine storeValue_moves ?_ | split

theorem placeFilled_moves {m : Fin 38} {c : Nat} {value : Int} (h : Moves s₀ s) :
    Moves s₀ (placeFilled m c value s) := by
  unfold placeFilled
  dsimp only
  with_reducible repeat' first | assumption | refine handSample_moves ?_ | refine storeValue_moves ?_ | split

theorem fillCounter_moves {i : Fin 16} {c : Nat} (h : Moves s₀ s) : Moves s₀ (fillCounter i c s) := by
  unfold fillCounter
  with_reducible repeat' first
    | assumption | refine placeFilled_moves ?_ | refine foldl_moves (fun _ _ _ => ?_) ?_ | split

theorem enterCounter_moves {i : Fin 16} {c : Nat} (h : Moves s₀ s) : Moves s₀ (enterCounter i c s) :=
  updStream_moves h

theorem fillGap_moves {i : Fin 16} {n c : Nat} (h : Moves s₀ s) : Moves s₀ (fillGap i n c s) := by
  induction n generalizing c s with
  | zero => exact h
  | succ n ih =>
    unfold fillGap
    dsimp only
    split
    · exact abandonRow_moves (enterCounter_moves h)
    · exact ih (fillCounter_moves (updStream_moves (enterCounter_moves h)))

theorem takeChannel_moves {i : Fin 16} {c : Nat} {j : Fin 12} {m : Fin 38} {ch : Channel} (h : Moves s₀ s) :
    Moves s₀ (takeChannel i c j m ch s) := by
  unfold takeChannel
  dsimp only
  with_reducible repeat' first
    | assumption | refine updStream_moves ?_ | refine abandonInput_moves ?_ | refine placeReceived_moves ?_ | split

theorem takeChannels_moves {i : Fin 16} {c : Nat} {channels : List Channel} (h : Moves s₀ s) :
    Moves s₀ (takeChannels i c channels s) := by
  unfold takeChannels
  with_reducible repeat' first
    | assumption | refine takeChannel_moves ?_ | refine foldl_moves (fun _ _ _ => ?_) ?_ | split

theorem takeFrame_moves {i : Fin 16} {f : SampleFrame} (h : Moves s₀ s) : Moves s₀ (takeFrame i f s) := by
  unfold takeFrame
  dsimp only
  with_reducible repeat' first
    | assumption | refine logEvent_moves ?_ | refine updStream_moves ?_ | refine enterCounter_moves ?_
    | refine takeChannels_moves ?_ | split

theorem countGap_moves {i : Fin 16} (h : Moves s₀ s) : Moves s₀ (countGap i s) :=
  updStream_moves h

theorem judgeCounter_moves {i : Fin 16} {f : SampleFrame} (h : Moves s₀ s) : Moves s₀ (judgeCounter i f s) := by
  unfold judgeCounter
  dsimp only
  with_reducible repeat' first
    | assumption | refine abandonRow_moves ?_ | refine fillGap_moves ?_ | refine takeFrame_moves ?_
    | refine countGap_moves ?_ | split

theorem acceptFrame_moves {f : SampleFrame} (h : Moves s₀ s) : Moves s₀ (acceptFrame f s) := by
  unfold acceptFrame
  dsimp only
  with_reducible repeat' first | assumption | refine updStream_moves ?_ | refine judgeCounter_moves ?_ | split

theorem loseInput_moves {m : Fin 38} (h : Moves s₀ s) : Moves s₀ (loseInput s m) := by
  unfold loseInput
  with_reducible repeat' first | assumption | refine breakInput_moves ?_ | split

theorem streamLost_moves {i : Fin 16} (h : Moves s₀ s) : Moves s₀ (streamLost i s) := by
  unfold streamLost
  dsimp only
  with_reducible repeat' first
    | assumption | refine logEvent_moves ?_ | refine updStream_moves ?_ | refine loseInput_moves ?_
    | refine foldl_moves (fun _ _ _ => ?_) ?_ | split

theorem unmapInput_moves {m : Fin 38} (h : Moves s₀ s) : Moves s₀ (unmapInput s m) := by
  unfold unmapInput
  with_reducible repeat' first
    | assumption | refine handNotice_moves ?_ | refine withdrawInput_moves ?_ | refine discardTo_moves ?_

theorem streamFoundDamaged_moves {i : Fin 16} {inputs : List (Fin 38)} (h : Moves s₀ s) :
    Moves s₀ (streamFoundDamaged i inputs s) := by
  unfold streamFoundDamaged
  with_reducible repeat' first
    | assumption | refine updStream_moves ?_ | refine unmapInput_moves ?_ | refine foldl_moves (fun _ _ _ => ?_) ?_

theorem inputFoundDamaged_moves {m : Fin 38} (h : Moves s₀ s) : Moves s₀ (inputFoundDamaged m s) :=
  unmapInput_moves h

theorem alignInput_moves {m : Fin 38} (h : Moves s₀ s) : Moves s₀ (alignInput s m) := by
  unfold alignInput
  with_reducible repeat' first | assumption | refine discardTo_moves ?_ | split

theorem dropInput_moves {m : Fin 38} (h : Moves s₀ s) : Moves s₀ (dropInput s m) := by
  unfold dropInput
  with_reducible repeat' first | assumption | refine withdrawInput_moves ?_ | refine discardTo_moves ?_ | split

theorem streamRewritten_moves {i : Fin 16} {old : Held StreamRow} (h : Moves s₀ s) :
    Moves s₀ (streamRewritten i old s) := by
  unfold streamRewritten
  dsimp only
  with_reducible repeat' first
    | assumption | refine updStream_moves ?_ | refine alignInput_moves ?_ | refine dropInput_moves ?_
    | refine foldl_moves (fun _ _ _ => ?_) ?_ | split

theorem inputRewritten_moves {m : Fin 38} {wasDamaged : Bool} (h : Moves s₀ s) :
    Moves s₀ (inputRewritten m wasDamaged s) := by
  unfold inputRewritten
  with_reducible repeat' first | assumption | refine discardTo_moves ?_ | split

theorem fillStates_moves (h : Moves s₀ s) : Moves s₀ (fillStates s) := by
  unfold fillStates
  with_reducible repeat' first
    | assumption | refine setFill_moves ?_ | refine foldl_moves (fun _ _ _ => ?_) ?_ | split

/-! ## Breaker Commands -/

theorem sendCommand_moves {u : Fin 9} (h : Moves s₀ s) : Moves s₀ (sendCommand u s) := by
  unfold sendCommand
  dsimp only
  with_reducible repeat' first | assumption | refine updUnit_moves ?_ | refine enterOrigins_moves ?_

theorem dropStale_moves {u : Fin 9} (h : Moves s₀ s) : Moves s₀ (dropStale u s) := by
  unfold dropStale
  with_reducible repeat' first | assumption | refine withdrawFrames_moves ?_ | split

theorem handOutcome_moves {u : Fin 9} {c : CommandContext} {o : CmdOutcome} (h : Moves s₀ s) :
    Moves s₀ (handOutcome u c o s) := by
  unfold handOutcome
  with_reducible repeat' first | assumption | refine hand_moves rfl ?_ | split

theorem endCore_moves {u : Fin 9} {o : CmdOutcome} (h : Moves s₀ s) : Moves s₀ (endCore u o s) := by
  unfold endCore
  dsimp only
  with_reducible repeat' first
    | assumption | refine logEvent_moves ?_ | refine updUnit_moves ?_ | refine withdrawAll_moves ?_
    | refine handOutcome_moves ?_ | split

theorem refuseBusy_moves {r : CmdRequest} (h : Moves s₀ s) : Moves s₀ (refuseBusy r s) := by
  unfold refuseBusy
  with_reducible repeat' first | assumption | refine hand_moves rfl ?_ | split

theorem announceTrip_moves {r : CmdRequest} (h : Moves s₀ s) : Moves s₀ (announceTrip r s) := by
  unfold announceTrip
  with_reducible repeat' first | assumption | refine hand_moves rfl ?_ | refine abandonNull_moves ?_ | split

theorem noticeOvertaken_moves {u : Fin 9} (h : Moves s₀ s) : Moves s₀ (noticeOvertaken u s) := by
  unfold noticeOvertaken
  with_reducible repeat' first | assumption | refine hand_moves rfl ?_ | split

theorem startCommand_moves {finish : Fin 9 → CmdOutcome → State → State} {r : CmdRequest}
    (hfinish : ∀ u o t, Moves s₀ t → Moves s₀ (finish u o t)) (h : Moves s₀ s) :
    Moves s₀ (startCommand finish r s) := by
  unfold startCommand
  dsimp only
  with_reducible repeat' first
    | assumption | refine hfinish _ _ _ ?_ | refine sendCommand_moves ?_ | refine dropStale_moves ?_
    | refine updUnit_moves ?_ | split

theorem takeRequestWith_moves {finish : Fin 9 → CmdOutcome → State → State} {r : CmdRequest}
    (hfinish : ∀ u o t, Moves s₀ t → Moves s₀ (finish u o t)) (h : Moves s₀ s) :
    Moves s₀ (takeRequestWith finish r s) := by
  unfold takeRequestWith
  with_reducible repeat' first
    | assumption | refine startCommand_moves hfinish ?_ | refine noticeOvertaken_moves ?_ | refine refuseBusy_moves ?_
    | split

theorem endCommand_moves {u : Fin 9} {o : CmdOutcome} (h : Moves s₀ s) : Moves s₀ (endCommand u o s) := by
  unfold endCommand
  dsimp only
  with_reducible repeat' first
    | assumption | refine logEvent_moves ?_ | refine endCore_moves ?_
    | refine takeRequestWith_moves (fun _ _ _ => endCore_moves) ?_ | split

theorem takeRequest_moves {r : CmdRequest} (h : Moves s₀ s) : Moves s₀ (takeRequest r s) := by
  unfold takeRequest
  with_reducible repeat' first | assumption | refine takeRequestWith_moves (fun _ _ _ => endCommand_moves) ?_

theorem forceEnd_moves {u : Fin 9} (h : Moves s₀ s) : Moves s₀ (forceEnd u s) := by
  unfold forceEnd
  with_reducible repeat' first | assumption | refine endCommand_moves ?_ | split

theorem nextSend_moves {u : Fin 9} (h : Moves s₀ s) : Moves s₀ (nextSend u s) := by
  unfold nextSend
  dsimp only
  with_reducible repeat' first | assumption | refine sendCommand_moves ?_ | refine endCommand_moves ?_ | split

theorem deadlineArrives_moves {u : Fin 9} (h : Moves s₀ s) : Moves s₀ (deadlineArrives u s) := by
  unfold deadlineArrives
  with_reducible repeat' first | assumption | refine endCommand_moves ?_ | split

theorem handSupervision_moves {u : Fin 9} {sup : Supervision} (h : Moves s₀ s) :
    Moves s₀ (handSupervision u sup s) := by
  unfold handSupervision
  with_reducible repeat' first | assumption | refine hand_moves rfl ?_ | split

theorem goSilent_moves {u : Fin 9} (h : Moves s₀ s) : Moves s₀ (goSilent u s) := by
  unfold goSilent
  dsimp only
  with_reducible repeat' first
    | assumption | refine logEvent_moves ?_ | refine updUnit_moves ?_ | refine handSupervision_moves ?_

theorem supervisionExpiry_moves {u : Fin 9} (h : Moves s₀ s) : Moves s₀ (supervisionExpiry u s) := by
  unfold supervisionExpiry
  dsimp only
  with_reducible repeat' first | assumption | refine forceEnd_moves ?_ | refine goSilent_moves ?_ | split

theorem comeAlive_moves {u : Fin 9} (h : Moves s₀ s) : Moves s₀ (comeAlive u s) := by
  unfold comeAlive
  with_reducible repeat' first
    | assumption | refine logEvent_moves ?_ | refine updUnit_moves ?_ | refine handSupervision_moves ?_ | split

theorem reportPosition_moves {u : Fin 9} {before : UnitLive} {pos : Position} (h : Moves s₀ s) :
    Moves s₀ (reportPosition u before pos s) := by
  unfold reportPosition
  with_reducible repeat' first | assumption | refine logEvent_moves ?_ | refine hand_moves rfl ?_ | split

theorem awaitMove_moves {u : Fin 9} (h : Moves s₀ s) : Moves s₀ (awaitMove u s) := by
  unfold awaitMove
  dsimp only
  with_reducible repeat' first | assumption | refine updUnit_moves ?_ | refine withdrawAll_moves ?_

theorem judgeStatus_moves {u : Fin 9} {f : StatusFrame} (h : Moves s₀ s) : Moves s₀ (judgeStatus u f s) := by
  unfold judgeStatus
  dsimp only
  with_reducible repeat' first | assumption | refine endCommand_moves ?_ | refine awaitMove_moves ?_ | split

theorem takeStatus_moves {f : StatusFrame} (h : Moves s₀ s) : Moves s₀ (takeStatus f s) := by
  unfold takeStatus
  dsimp only
  with_reducible repeat' first
    | assumption | refine updUnit_moves ?_ | refine comeAlive_moves ?_ | refine reportPosition_moves ?_
    | refine judgeStatus_moves ?_ | split

theorem unitFoundDamaged_moves {u : Fin 9} (h : Moves s₀ s) : Moves s₀ (unitFoundDamaged u s) := by
  unfold unitFoundDamaged
  dsimp only
  with_reducible repeat' first
    | assumption | refine updUnit_moves ?_ | refine forceEnd_moves ?_ | refine goSilent_moves ?_ | split

/-! ## Damage -/

theorem recordError_moves {r : RowRef} {c : ErrorClass} (h : Moves s₀ s) : Moves s₀ (recordError r c s) :=
  updMemory_moves (.figures _ rfl rfl rfl rfl rfl) h

theorem correctRow_moves {r : RowRef} (h : Moves s₀ s) : Moves s₀ (correctRow r s) :=
  recordError_moves (updMemory_moves (.correct r _) h)

theorem markDamaged_moves {r : RowRef} (h : Moves s₀ s) : Moves s₀ (markDamaged r s) :=
  logEvent_moves (recordError_moves (updMemory_moves (.fail r _) h))

theorem ownerActs_moves {r : RowRef} {mapped : List (Fin 38)} (h : Moves s₀ s) : Moves s₀ (ownerActs r mapped s) := by
  unfold ownerActs
  with_reducible repeat' first
    | assumption | refine reformNextCount_moves ?_ | refine harmonicFoundDamaged_moves ?_
    | refine abandonNull_moves ?_ | refine settingsFault_moves ?_ | refine yardFoundDamaged_moves ?_
    | refine streamFoundDamaged_moves ?_ | refine inputFoundDamaged_moves ?_ | refine unitFoundDamaged_moves ?_
    | split

theorem strikeRows_moves {xs : List Strike} (h : Moves s₀ s) : Moves s₀ (strikeRows xs s) :=
  updMemory_moves (.strike xs) h

theorem readAlong_moves {read : State → RowRef → State} {uses : State → List RowRef} {n : Nat}
    (hread : ∀ r t, Moves s₀ t → Moves s₀ (read t r)) (h : Moves s₀ s) : Moves s₀ (readAlong read uses n s) := by
  induction n generalizing s with
  | zero => exact h
  | succ n ih =>
    unfold readAlong
    split
    · exact ih (hread _ _ h)
    · exact h

theorem readAt_moves {n : Nat} {r : RowRef} (h : Moves s₀ s) : Moves s₀ (readAt n s r) := by
  induction n generalizing s r with
  | zero => exact h
  | succ n ih =>
    unfold readAt
    dsimp only
    split
    · exact h
    · split
      · exact h
      · exact correctRow_moves h
      · exact markChange_moves (ownerActs_moves (readAlong_moves (fun _ _ => ih) (markDamaged_moves h)))

theorem readRow_moves {r : RowRef} (h : Moves s₀ s) : Moves s₀ (readRow s r) := readAt_moves h

theorem readRows_moves {rs : List RowRef} (h : Moves s₀ s) : Moves s₀ (readRows rs s) :=
  foldl_moves (fun _ _ => readRow_moves) h

theorem readUsed_moves {uses : State → List RowRef} (h : Moves s₀ s) : Moves s₀ (readUsed uses s) :=
  readAlong_moves (fun _ _ => readRow_moves) h

/-! ## Reports -/

theorem sendReport_moves {periodic change : Bool} (h : Moves s₀ s) : Moves s₀ (sendReport periodic change s) :=
  enterOrigins_moves h

theorem sendChange_moves (h : Moves s₀ s) : Moves s₀ (sendChange s) := by
  unfold sendChange
  dsimp only
  with_reducible repeat' first | assumption | refine sendReport_moves ?_ | split | refine reports_moves ?_

theorem noteChange_moves {before : State} (h : Moves s₀ s) : Moves s₀ (noteChange before s) := by
  unfold noteChange
  dsimp only
  with_reducible repeat' first
    | assumption | refine readRow_moves ?_ | refine sendChange_moves ?_ | split | refine reports_moves ?_

theorem periodicReport_moves (h : Moves s₀ s) : Moves s₀ (periodicReport s) := by
  unfold periodicReport
  dsimp only
  with_reducible repeat' first | assumption | refine sendReport_moves ?_ | split | refine reports_moves ?_

theorem changeReport_moves (h : Moves s₀ s) : Moves s₀ (changeReport s) := by
  unfold changeReport
  with_reducible repeat' first | assumption | refine sendChange_moves ?_ | split

end

end Sys2Proof.Machine


namespace Sys2Proof.Machine

section
variable {s₀ s : State}

/-! ## Writes (R162) -/

/-- R162: the rows of a write put into the tables. -/
theorem putTables_moves {t : Tables} (hs : s.memory.storing = false)
    (hstream : t.stream = s.memory.tables.stream ∨ streamLaw t.stream = true)
    (hunit : t.unit = s.memory.tables.unit ∨ unitLaw t.unit = true) (h : Moves s₀ s) : Moves s₀ (s.putTables t) :=
  h.tail (.memory _ s (.write t hs hstream hunit))

theorem firstRefusal_eq_none {xs : List (Bool × Code)} (h : firstRefusal xs = none) : ∀ x ∈ xs, x.1 = true := by
  induction xs with
  | nil => nofun
  | cons x xs ih =>
    obtain ⟨ok, c⟩ := x
    unfold firstRefusal at h
    cases ok with
    | false => cases h
    | true => exact List.forall_mem_cons.2 ⟨rfl, ih h⟩

theorem writeStream_moves {first : Nat} {raws : List RawStream} {x : Bool × State} (hs : s.memory.storing = false)
    (hx : writeStream first raws s = .ok x) (h : Moves s₀ s) : Moves s₀ x.2 := by
  unfold writeStream at hx
  dsimp only at hx
  split at hx
  case h_1 => cases hx
  case h_2 hchecks =>
    cases hx
    have hlaw := firstRefusal_eq_none hchecks _ (.tail _ (.tail _ (.head _)))
    exact foldl_moves (fun _ _ => streamRewritten_moves) (putTables_moves hs (.inr hlaw) (.inl rfl) h)

theorem writeInput_moves {first : Nat} {raws : List RawInput} {x : Bool × State} (hs : s.memory.storing = false)
    (hx : writeInput first raws s = .ok x) (h : Moves s₀ s) : Moves s₀ x.2 := by
  unfold writeInput at hx
  split at hx
  case h_1 => cases hx
  case h_2 =>
    cases hx
    exact foldl_moves (fun _ _ => inputRewritten_moves) (putTables_moves hs (.inl rfl) (.inl rfl) h)

theorem stepRewritten_moves {old : StepRow} {i : Fin 8} (h : Moves s₀ s) : Moves s₀ (stepRewritten old i s) := by
  unfold stepRewritten
  dsimp only
  with_reducible repeat' first | assumption | refine abandonNull_moves ?_ | refine reformDutyBar_moves ?_ | split

theorem writeStep_moves {first : Nat} {raws : List RawStep} {x : Bool × State} (hs : s.memory.storing = false)
    (hx : writeStep first raws s = .ok x) (h : Moves s₀ s) : Moves s₀ x.2 := by
  unfold writeStep at hx
  dsimp only at hx
  split at hx
  case h_1 => cases hx
  case h_2 =>
    cases hx
    exact foldl_moves (fun _ _ => stepRewritten_moves) (putTables_moves hs (.inl rfl) (.inl rfl) h)

theorem harmRewritten_moves {i : Fin 15} (h : Moves s₀ s) : Moves s₀ (harmRewritten s i) := by
  unfold harmRewritten
  dsimp only
  with_reducible repeat' first
    | assumption | refine removeElements_moves ?_ | refine createElements_moves ?_ | refine reformBlock_moves ?_
    | refine zeroSustain_moves ?_ | split

theorem writeHarm_moves {first : Nat} {raws : List RawHarm} {x : Bool × State} (hs : s.memory.storing = false)
    (hx : writeHarm first raws s = .ok x) (h : Moves s₀ s) : Moves s₀ x.2 := by
  unfold writeHarm at hx
  split at hx
  case h_1 => cases hx
  case h_2 =>
    cases hx
    exact reformNextCount_moves
      (foldl_moves (fun _ _ => harmRewritten_moves) (putTables_moves hs (.inl rfl) (.inl rfl) h))

theorem writeRes_moves {first : Nat} {raws : List RawRes} {x : Bool × State} (hs : s.memory.storing = false)
    (hx : writeRes first raws s = .ok x) (h : Moves s₀ s) : Moves s₀ x.2 := by
  unfold writeRes at hx
  split at hx
  case h_1 => cases hx
  case h_2 =>
    cases hx
    exact reformNextCount_moves (putTables_moves hs (.inl rfl) (.inl rfl) h)

theorem writeYard_moves {raws : List RawYard} {x : Bool × State} (hs : s.memory.storing = false)
    (hx : writeYard raws s = .ok x) (h : Moves s₀ s) : Moves s₀ x.2 := by
  unfold writeYard at hx
  split at hx
  case h_2 => cases hx
  case h_1 =>
    unfold writeYardRow at hx
    split at hx
    case h_1 => cases hx
    case h_2 =>
      cases hx
      exact expireReached_moves (putTables_moves hs (.inl rfl) (.inl rfl) h)

theorem unitRewritten_moves {u : Fin 9} {old : Held UnitRow} (h : Moves s₀ s) : Moves s₀ (unitRewritten u old s) := by
  unfold unitRewritten
  with_reducible repeat' first | assumption | refine updUnit_moves ?_ | split

theorem writeUnit_moves {first : Nat} {raws : List RawUnit} {x : Bool × State} (hs : s.memory.storing = false)
    (hx : writeUnit first raws s = .ok x) (h : Moves s₀ s) : Moves s₀ x.2 := by
  unfold writeUnit at hx
  dsimp only at hx
  split at hx
  case h_1 => cases hx
  case h_2 hchecks =>
    cases hx
    have hlaw := firstRefusal_eq_none hchecks _ (.tail _ (.head _))
    exact foldl_moves (fun _ _ => unitRewritten_moves) (putTables_moves hs (.inl rfl) (.inr hlaw) h)

theorem link_moves {l : Option LinkRow} {p : Option Port} (h : Moves s₀ s) :
    Moves s₀ { s with ports := { s.ports with link := l, reportPort := p } } := h.tail (.link l p s)

theorem writeLink_moves {raws : List RawLink} {x : Bool × State} (hs : s.memory.storing = false)
    (hx : writeLink raws s = .ok x) (h : Moves s₀ s) : Moves s₀ x.2 := by
  unfold writeLink at hx
  split at hx
  case h_2 => cases hx
  case h_1 =>
    unfold writeLinkRow at hx
    split at hx
    case h_1 => cases hx
    case h_2 =>
      cases hx
      exact link_moves (putTables_moves hs (.inl rfl) (.inl rfl) h)

theorem writeTable_moves {first : Nat} {rows : RawRows} {x : Bool × State} (hs : s.memory.storing = false)
    (hx : writeTable first rows s = .ok x) (h : Moves s₀ s) : Moves s₀ x.2 := by
  cases rows with
  | stream rs => exact writeStream_moves hs hx h
  | input rs => exact writeInput_moves hs hx h
  | step rs => exact writeStep_moves hs hx h
  | harmonic rs => exact writeHarm_moves hs hx h
  | resonance rs => exact writeRes_moves hs hx h
  | yard rs => exact writeYard_moves hs hx h
  | unit rs => exact writeUnit_moves hs hx h
  | link rs => exact writeLink_moves hs hx h

/-! ## Moves leave the store and the queue of commands alone -/

/-- The image, and how far a STORE has come. -/
structure SameStore (m m' : MemoryState) : Prop where
  storing : m'.storing = m.storing
  copied : m'.copied = m.copied
  imageValid : m'.imageValid = m.imageValid
  image : m'.image = m.image

theorem SameStore.refl (m : MemoryState) : SameStore m m := ⟨rfl, rfl, rfl, rfl⟩

theorem SameStore.trans {a b c : MemoryState} (h₁ : SameStore a b) (h₂ : SameStore b c) : SameStore a c :=
  ⟨h₂.storing.trans h₁.storing, h₂.copied.trans h₁.copied, h₂.imageValid.trans h₁.imageValid, h₂.image.trans h₁.image⟩

theorem MemoryMove.sameStore {m m' : MemoryState} (h : MemoryMove m m') : SameStore m m' := by
  cases h with
  | figures _ ht hs hc hv hi => exact ⟨hs, hc, hv, hi⟩
  | correct => exact ⟨rfl, rfl, rfl, rfl⟩
  | fail => exact ⟨rfl, rfl, rfl, rfl⟩
  | strike => exact ⟨rfl, rfl, rfl, rfl⟩
  | null => exact ⟨rfl, rfl, rfl, rfl⟩
  | write => exact ⟨rfl, rfl, rfl, rfl⟩

/-- Of the moves, that of the table memory moves it, and a millisecond counts down to the next pass of the scrubber. -/
theorem Move.memory_eq {t : State} (h : Move s t) : t.memory = s.memory ∨ MemoryMove s.memory t.memory := by
  cases h with
  | memory m _ hm => exact .inr hm
  | tick => exact .inr (.figures _ rfl rfl rfl rfl rfl)
  | other _ _ hst => exact .inl (hst.same .memory (by simp))
  | port => exact .inl ((setPort_sameBut _ _ _).same .memory (by simp))
  | change => exact .inl ((changeStep_sameBut _ _ _ _ _ _).same .memory (by simp))
  | load => exact .inl ((handLoading_sameBut _ _).same .memory (by simp))
  | grant => exact .inl ((grantTo_sameBut _ _ _ _).same .memory (by simp))
  | release => exact .inl ((releaseSlot_sameBut _ _).same .memory (by simp))
  | log | acknowledge | hand | take | link | step | switching | duty | seconds => exact .inl rfl

theorem Move.sameStore {t : State} (h : Move s t) : SameStore s.memory t.memory := by
  rcases h.memory_eq with heq | hm
  · exact heq ▸ .refl _
  · exact hm.sameStore

theorem Moves.sameStore {t : State} (h : Moves s t) : SameStore s.memory t.memory := by
  induction h with
  | refl => exact .refl _
  | tail _ hmove ih => exact ih.trans hmove.sameStore

/-- A move neither starts nor resets the part, and takes nothing from the queue of commands. -/
theorem Move.phase_pending {t : State} (h : Move s t) : t.phase = s.phase ∧ t.pending = s.pending := by
  cases h with
  | port => exact ⟨(setPort_sameBut _ _ _).same .phase (by simp), (setPort_sameBut _ _ _).same .pending (by simp)⟩
  | change =>
    exact ⟨(changeStep_sameBut _ _ _ _ _ _).same .phase (by simp), (changeStep_sameBut _ _ _ _ _ _).same .pending (by simp)⟩
  | load => exact ⟨(handLoading_sameBut _ _).same .phase (by simp), (handLoading_sameBut _ _).same .pending (by simp)⟩
  | grant => exact ⟨(grantTo_sameBut _ _ _ _).same .phase (by simp), (grantTo_sameBut _ _ _ _).same .pending (by simp)⟩
  | release => exact ⟨(releaseSlot_sameBut _ _).same .phase (by simp), (releaseSlot_sameBut _ _).same .pending (by simp)⟩
  | other _ _ hst => exact ⟨hst.same .phase (by simp), hst.same .pending (by simp)⟩
  | log | acknowledge | hand | take | link | step | switching | duty | seconds | memory | tick => exact ⟨rfl, rfl⟩

theorem Moves.phase_pending {t : State} (h : Moves s t) : t.phase = s.phase ∧ t.pending = s.pending := by
  induction h with
  | refl => exact ⟨rfl, rfl⟩
  | tail _ hmove ih => exact ⟨hmove.phase_pending.1.trans ih.1, hmove.phase_pending.2.trans ih.2⟩

end

end Sys2Proof.Machine


namespace Sys2Proof.Machine

section
variable {s₀ s : State}

/-! ## Requests (chapter 10) -/

theorem reply_moves {q : Requester} {link : LinkRow} {a : Answer} (h : Moves s₀ s) : Moves s₀ (reply q link a s) :=
  enterOrigin_moves (agent_moves h)

theorem serve_moves {q : Requester} {act : State → Served} (hact : ∀ {t}, Moves s₀ t → Moves s₀ (act t).2)
    (h : Moves s₀ s) : Moves s₀ (serve q act s) := by
  unfold serve
  split
  · exact h
  · split
    · exact agent_moves h
    · exact reply_moves (hact h)

theorem accepted_snd : (accepted s).2 = s := rfl

theorem actReadRows_moves {table : Option TableId} {first count : Nat} (h : Moves s₀ s) :
    Moves s₀ (actReadRows table first count s).2 := by
  unfold actReadRows
  split
  · exact readRows_moves h
  · exact h

theorem actWriteRows_moves {first : Nat} {rows : RawRows} (h : Moves s₀ s) : Moves s₀ (actWriteRows first rows s).2 := by
  unfold actWriteRows
  split
  · exact h
  · split
    · exact h
    · split
      case isTrue => exact h
      case isFalse hstoring =>
        have hread : Moves s (readUsed (writeUses first rows) s) := readUsed_moves .refl
        split
        next => exact h
        next x hx =>
          exact writeTable_moves (hread.sameStore.storing.trans (by simpa using hstoring)) hx (readUsed_moves h)

theorem actReadResults_moves {inputs : List Nat} (h : Moves s₀ s) : Moves s₀ (actReadResults inputs s).2 := by
  unfold actReadResults
  split <;> exact h

theorem actReadStatus_moves {sec : Option Section} (h : Moves s₀ s) : Moves s₀ (actReadStatus sec s).2 := by
  unfold actReadStatus
  split <;> exact h

theorem actHold_moves (h : Moves s₀ s) : Moves s₀ (actHold s).2 := takeHold_moves h

theorem actRelease_moves (h : Moves s₀ s) : Moves s₀ (actRelease s).2 := endHold_moves h

theorem selectTarget_moves {q : Requester} {t : Fin 9} {k : CmdKind} {token : Nat} (h : Moves s₀ s) :
    Moves s₀ (selectTarget q t k token s).2 := by
  unfold selectTarget
  dsimp only
  split
  · exact h
  · split
    · exact readUsed_moves h
    · rw [accepted_snd]
      exact sameQueue_moves (fun _ => ⟨rfl, rfl, rfl⟩) (readUsed_moves h)

theorem actSelect_moves {q : Requester} {target : Nat} {action : Option CmdKind} {token : Nat} (h : Moves s₀ s) :
    Moves s₀ (actSelect q target action token s).2 := by
  unfold actSelect
  split
  · exact selectTarget_moves h
  · exact h

theorem actCancel_moves (h : Moves s₀ s) : Moves s₀ (actCancel s).2 := by
  unfold actCancel
  split
  · exact h
  · exact dropSelection_moves (readUsed_moves h)

theorem actWithdraw_moves {step : Nat} (h : Moves s₀ s) : Moves s₀ (actWithdraw step s).2 := by
  unfold actWithdraw
  split
  · split
    · exact moveStep_moves nofun nofun h
    · exact h
  · exact h

theorem restoreStep_moves {i : Fin 8} (h : Moves s₀ s) : Moves s₀ (restoreStep i s).2 := by
  unfold restoreStep
  split
  · exact h
  · split
    · exact moveStep_moves nofun nofun h
    · exact h

theorem actRestore_moves {step : Nat} (h : Moves s₀ s) : Moves s₀ (actRestore step s).2 := by
  unfold actRestore
  split
  · exact restoreStep_moves (readRows_moves h)
  · exact h

theorem resetStep_moves {i : Fin 8} (h : Moves s₀ s) : Moves s₀ (resetStep i s).2 := by
  unfold resetStep
  dsimp only
  split
  · exact h
  · split
    · exact h
    · split
      · exact restStep_moves h
      · exact h

theorem actResetLockout_moves {step : Nat} (h : Moves s₀ s) : Moves s₀ (actResetLockout step s).2 := by
  unfold actResetLockout
  split
  · exact resetStep_moves (readRows_moves h)
  · exact h

theorem nullStep_moves {i : Fin 8} (h : Moves s₀ s) : Moves s₀ (nullStep i s).2 := by
  unfold nullStep
  repeat' split
  all_goals first | exact h | exact unbalance_moves h

theorem actNull_moves {step : Nat} (h : Moves s₀ s) : Moves s₀ (actNull step s).2 := by
  unfold actNull
  split
  · exact h
  · split
    · exact nullStep_moves (readRows_moves h)
    · exact h

theorem setMode_moves {m : Mode} (h : Moves s₀ s) : Moves s₀ (setMode m s).2 := by
  unfold setMode
  dsimp only
  split
  · exact forceManual_moves h
  · split
    · exact readRows_moves h
    · split
      next hmanual =>
        rw [accepted_snd]
        refine updSwitching_moves (.of_sublist (List.Sublist.refl _) fun hcore hany => ?_) rfl (readRows_moves h)
        have hnone := hcore.no_auto (by rw [hmanual]; nofun)
        simp [hnone] at hany
      next => exact readRows_moves h

theorem actSetMode_moves {m : Option Mode} (h : Moves s₀ s) : Moves s₀ (actSetMode m s).2 := by
  unfold actSetMode
  split
  · exact setMode_moves h
  · exact h

theorem actReadEvents_moves {n : Nat} (h : Moves s₀ s) : Moves s₀ (actReadEvents n s).2 := h

theorem actAckEvents_moves {n : Nat} (h : Moves s₀ s) : Moves s₀ (actAckEvents n s).2 := by
  unfold actAckEvents
  split
  · exact h
  · exact h.tail (.acknowledge n s)

theorem actReadCapture_moves {buffer : Option (Fin 2)} {offset : Nat} (h : Moves s₀ s) :
    Moves s₀ (actReadCapture buffer offset s).2 := by
  unfold actReadCapture
  dsimp only
  repeat' split
  all_goals exact h

theorem actFreeCapture_moves {buffer : Option (Fin 2)} (h : Moves s₀ s) : Moves s₀ (actFreeCapture buffer s).2 := by
  unfold actFreeCapture
  split
  · split
    · exact freeCapture_moves h
    · exact h
  · exact h

theorem actClearTableError_moves (h : Moves s₀ s) : Moves s₀ (actClearTableError s).2 := by
  rw [actClearTableError, accepted_snd]
  exact updMemory_moves (.figures _ rfl rfl rfl rfl rfl) h

theorem actRestart_moves (h : Moves s₀ s) : Moves s₀ (actRestart s).2 := agent_moves h

/-! ## Frames received (chapter 09) -/

theorem readRequest_releasing {q : Requester} {code : Nat} {args : List Byte} {i : Instr}
    (h : readRequest q code args = some i) : releasing i = false := by
  have hnone {j : Instr} (hj : releasing j = false) : noArguments j args = some i → releasing i = false := by
    unfold noArguments
    split
    · rintro ⟨⟩; exact hj
    · nofun
  have hone {k : Nat} {f : Nat → Instr} (hf : ∀ n, releasing (f n) = false) :
      oneArgument k f args = some i → releasing i = false := by
    unfold oneArgument
    intro hmap
    obtain ⟨n, -, rfl⟩ := Option.map_eq_some_iff.1 hmap
    exact hf n
  unfold readRequest at h
  split at h
  case h_1 => simp [readReadRows, Option.bind_eq_some_iff] at h; grind [releasing]
  case h_2 => simp [readWrite, Option.bind_eq_some_iff] at h; grind [releasing]
  case h_3 => obtain ⟨xs, -, rfl⟩ := Option.map_eq_some_iff.1 h; rfl
  case h_7 => simp [readSelect, Option.bind_eq_some_iff] at h; grind [releasing]
  case h_17 => simp [readReadCapture, Option.bind_eq_some_iff] at h; grind [releasing]
  case h_22 => cases h
  case h_4 | h_8 | h_10 | h_11 | h_12 | h_13 | h_14 | h_15 | h_16 | h_18 => exact hone (fun _ => rfl) h
  case h_5 | h_6 | h_9 | h_19 | h_20 | h_21 => exact hnone rfl h

theorem handRequest_moves {q : Requester} {code : Nat} {args : List Byte} (h : Moves s₀ s) :
    Moves s₀ (handRequest q code args s) := by
  unfold handRequest
  split
  next i hi => exact hand_moves (readRequest_releasing hi) h
  next => exact serve_moves (fun ht => ht) h

theorem consume_moves {p : Port} {bs : List Byte} (h : Moves s₀ s) : Moves s₀ (consume p bs s) := by
  unfold consume
  dsimp only
  split
  · exact handRequest_moves h
  · exact serve_moves (fun ht => ht) h

theorem handOn_moves {p : Port} {bs : List Byte} (h : Moves s₀ s) : Moves s₀ (handOn p bs s) := by
  unfold handOn
  with_reducible repeat' first | assumption | refine hand_moves rfl ?_ | split

theorem forward_moves {p : Port} {bytes : List Byte} (h : Moves s₀ s) : Moves s₀ (forward p bytes s) :=
  setPort_moves PortOk.joinForward h

theorem learnReportPort_moves {p : Port} {source : Addr} {link : LinkRow} (h : Moves s₀ s) :
    Moves s₀ (learnReportPort p source link s) := by
  unfold learnReportPort
  split
  · exact link_moves h
  · exact h

theorem countUnknown_moves {p : Port} (h : Moves s₀ s) : Moves s₀ (countUnknown p s) := setPort_moves PortOk.counts h

theorem judgeFrame_moves {p : Port} {bytes : List Byte} {link : LinkRow} (h : Moves s₀ s) :
    Moves s₀ (judgeFrame p bytes link s) := by
  unfold judgeFrame
  dsimp only
  have hlearn := learnReportPort_moves (p := p) (source := frameSource (content bytes)) (link := link) h
  split
  · exact forward_moves h
  · split
    · exact forward_moves (countUnknown_moves hlearn)
    · split
      · exact consume_moves hlearn
      · exact forward_moves (handOn_moves hlearn)

theorem receiveFrame_moves {p : Port} {bytes : List Byte} {checkOk : Bool} (h : Moves s₀ s) :
    Moves s₀ (receiveFrame p bytes checkOk s) := by
  unfold receiveFrame
  dsimp only
  split
  · split
    · exact judgeFrame_moves (setPort_moves PortOk.counts h)
    · exact forward_moves (setPort_moves PortOk.counts h)
  · exact setPort_moves PortOk.counts h

theorem portGoesDown_moves {p : Port} (h : Moves s₀ s) : Moves s₀ (portGoesDown p s) := by
  unfold portGoesDown
  split
  · exact logEvent_moves (setPort_moves PortOk.goDown h)
  · exact h

theorem portComesUp_moves {p : Port} (h : Moves s₀ s) : Moves s₀ (portComesUp p s) := by
  unfold portComesUp
  split
  · exact h
  · exact logEvent_moves (setPort_moves PortOk.goUp h)

theorem replySent_moves {tx : Option TxFrame} (h : Moves s₀ s) : Moves s₀ (replySent tx s) := by
  unfold replySent
  split
  · exact restartDue_moves h
  · exact h

theorem transmissionEnds_moves {p : Port} (h : Moves s₀ s) : Moves s₀ (transmissionEnds p s) := by
  unfold transmissionEnds
  split
  · exact replySent_moves (setPort_moves PortOk.endTransmission h)
  · exact h

/-! ## Store and start-up (chapter 11) -/

theorem scrub_moves {before after : List Strike} (h : Moves s₀ s) : Moves s₀ (scrub before after s) :=
  strikeRows_moves (readRows_moves (strikeRows_moves (updMemory_moves (.figures _ rfl rfl rfl rfl rfl) h)))

theorem loadRow_moves {r : RowRef} (h : Moves s₀ s) : Moves s₀ (loadRow s r) := by
  unfold loadRow
  with_reducible repeat' first | assumption | refine markDamaged_moves ?_ | refine correctRow_moves ?_ | split

theorem startElements_moves {i : Fin 15} (h : Moves s₀ s) : Moves s₀ (startElements s i) := by
  unfold startElements
  dsimp only
  split
  · exact createElements_moves h
  · exact h

theorem startAgeClock_moves (h : Moves s₀ s) : Moves s₀ (startAgeClock s) := engine_moves h

theorem startUnit_moves {u : Fin 9} (h : Moves s₀ s) : Moves s₀ (startUnit s u) := by
  unfold startUnit
  split
  · exact unitFoundDamaged_moves h
  · exact updUnit_moves h

theorem startLink_moves (h : Moves s₀ s) : Moves s₀ (startLink s) := link_moves h

/-! ## A command taken -/

theorem announcedRequest_moves {r : CmdRequest} (h : Moves s₀ s) : Moves s₀ (announcedRequest r s) :=
  takeRequest_moves (readUsed_moves (announceTrip_moves h))

theorem taking_moves {c : Instr} {uses : State → List RowRef} {body : State → State}
    (hbody : ∀ {t}, Moves s t → Moves s (body t)) : Moves s (taking c uses body s) := by
  unfold taking
  dsimp only
  split
  · exact noteChange_moves (hbody (readUsed_moves (dropMail_moves .refl)))
  · exact dropMail_moves .refl

end

end Sys2Proof.Machine


namespace Sys2Proof.Machine

/-! ## Commands as chains of turns

Beside its moves a command can take a STORE further (R167) and enter the MANUAL entry of an OPERATE (R130). -/

/-- A move, or one of the few further changes that a command makes. -/
inductive Turn : State → State → Prop
  | move {s t : State} (h : Move s t) : Turn s t
  /-- R167: a STORE is taken. -/
  | beginStore (s : State) : Turn s (beginStore s)
  /-- R167: the store copies its next row. -/
  | copy (r : RowRef) (s : State) (hs : s.memory.storing = true) (hr : allRows[s.memory.copied]? = some r) :
      Turn s (s.updMemory fun m =>
        { m with copied := m.copied + 1, image := some (m.tables.copyRow (m.image.getD Tables.defaults) r) })
  /-- R167: the store ends with its last row copied. -/
  | endStore (v : Bool) (s : State) (hs : s.memory.storing = true) (hc : allRows.length ≤ s.memory.copied) :
      Turn s (s.updMemory fun m => { m with storing := false, copied := 0, imageValid := v, storeInvalid := !v })
  /-- R130: the MANUAL entry of an OPERATE, for which the queue had room before the rows were read. -/
  | operate (k : CmdKind) (u : Fin 9) (s r : State) (hspare : Spare s.switching) (hr : Moves s r) :
      Turn s (enqueue k (.manual u) (makeRoom r))

/-- A chain of turns. -/
abbrev Turns : State → State → Prop := Relation.ReflTransGen Turn

theorem Moves.turns {s t : State} (h : Moves s t) : Turns s t := h.lift id fun _ _ => .move

section
variable {s₀ s : State}

theorem serve_turns {q : Requester} {act : State → Served} (hact : ∀ {t}, Turns s₀ t → Turns s₀ (act t).2)
    (h : Turns s₀ s) : Turns s₀ (serve q act s) := by
  unfold serve
  split
  · exact h
  · split
    · exact h.trans (agent_moves .refl).turns
    · exact (hact h).trans (reply_moves .refl).turns

theorem taking_turns {c : Instr} {uses : State → List RowRef} {body : State → State}
    (hbody : ∀ {t}, Turns s t → Turns s (body t)) : Turns s (taking c uses body s) := by
  unfold taking
  dsimp only
  split
  · exact (hbody (readUsed_moves (dropMail_moves .refl)).turns).trans (noteChange_moves .refl).turns
  · exact (dropMail_moves .refl).turns

theorem actStore_turns (h : Turns s₀ s) : Turns s₀ (actStore s).2 := by
  unfold actStore
  split
  · exact h
  · split
    · exact h
    · exact h.tail (.beginStore s)

theorem actOperate_turns {q : Requester} {token : Nat} (h : Turns s₀ s) : Turns s₀ (actOperate q token s).2 := by
  unfold actOperate
  split
  · exact h
  · split
    · exact h
    · split
      · exact h
      next x _ _ hfull =>
        have hspare : Spare s.switching := by
          simp only [Bool.and_eq_true, Bool.not_eq_true', not_and, Bool.not_eq_false] at hfull
          by_cases hroom : queueRoom s
          · exact .inl (by simpa [queueRoom] using hroom)
          · exact .inr (hfull (by simpa using hroom))
        have hread : Moves s (readUsed (operateUses x) s) := readUsed_moves .refl
        generalize readUsed (operateUses x) s = r at hread
        have hentered := h.tail (.operate x.action x.target s r hspare hread)
        have hgranted : Moves _ (operateSelection x r) := dropSelection_moves (grantWaiting_moves .refl)
        exact hentered.trans hgranted.turns

/-- R167: each row is read, which leaves the store where it is, and copied. -/
theorem copyRows_turns {n : Nat} (hs : s.memory.storing = true) :
    Turns s (copyRows n s) ∧ (copyRows n s).memory.storing = true := by
  unfold copyRows
  induction n generalizing s with
  | zero => exact ⟨.refl, hs⟩
  | succ n ih =>
    rcases hrest : allRows.drop s.memory.copied with - | ⟨r, rest⟩
    · exact ⟨.refl, hs⟩
    · have hread : Moves s (readRow s r) := readRow_moves .refl
      have hcopied := hread.sameStore.copied
      have hr : allRows[s.memory.copied]? = some r := by rw [← List.head?_drop, hrest]; rfl
      have hnext : allRows.drop (copyToImage s r).memory.copied = rest := by
        have htail := congrArg List.tail hrest
        rw [List.tail_drop] at htail
        rw [copyToImage, State.updMemory_memory]
        dsimp only
        rw [hcopied]
        exact htail
      have hstoring := hread.sameStore.storing.trans hs
      have hcopy : Turn (readRow s r) (copyToImage s r) := .copy r _ hstoring (hcopied ▸ hr)
      obtain ⟨hturns, hstill⟩ := ih (s := copyToImage s r) hstoring
      rw [hnext] at hturns hstill
      exact ⟨(hread.turns.tail hcopy).trans hturns, hstill⟩

theorem storeWorks_turns {rows : Nat} {verified : Option Bool} (h : Turns s₀ s) : Turns s₀ (storeWorks rows verified s) := by
  unfold storeWorks
  split
  case isFalse => exact h
  case isTrue hs =>
    obtain ⟨hcopy, hstill⟩ := copyRows_turns (n := rows) hs
    dsimp only
    split
    · split
      case isTrue hdone => exact ((h.trans hcopy).tail (.endStore _ _ hstill hdone)).trans (logEvent_moves .refl).turns
      case isFalse => exact h.trans hcopy
    · exact h.trans hcopy

end

/-- What a command comes to. -/
inductive Ran (c : Instr) (s : State) : State → Prop
  | turns {t : State} (h : Turns s t) : Ran c s t
  /-- R128: switching control takes a step report, which may release the slot. -/
  | report {a t : State} (r : StepReport) (hc : c = .controlStepReport r) (ha : Moves (s.dropMail c) a)
      (ht : Moves (if releasing c then releaseSlot (stepUnit r.step) a else a) t) : Ran c s t
  /-- R168: the part is reset. -/
  | reset (k : ResetKind) {u : State} (hu : Moves s u) : Ran c s (resetPart k u)
  /-- R168: a part in reset starts up. -/
  | startUp (k : ResetKind) (xs : List Strike) (hk : s.phase = .inReset k) : Ran c s (startUp k xs s)

theorem taking_ran {c d : Instr} {uses : State → List RowRef} {body : State → State} {s : State}
    (hbody : ∀ {t}, Moves s t → Moves s (body t)) : Ran d s (taking c uses body s) := .turns (taking_moves hbody).turns

theorem requesting_ran {c d : Instr} {q : Requester} {act : State → Served} {s : State}
    (hact : ∀ {t}, Moves s t → Moves s (act t).2) : Ran d s (requesting c q act s) := taking_ran (serve_moves hact)

theorem controlStepReport_ran (r : StepReport) (s : State) :
    Ran (.controlStepReport r) s (taking (.controlStepReport r) (controlReportUses r) (controlReport r) s) := by
  unfold taking
  dsimp only
  split
  · exact .report r rfl (readUsed_moves .refl) (noteChange_moves (controlReport_moves .refl))
  · exact .turns (dropMail_moves .refl).turns

/-- Every command completes, and comes to one of the four. -/
theorem exec_ran (c : Instr) (s : State) : ∃ t, exec c s = .next t ∧ Ran c s t := by
  cases c with
  | coldReset => exact ⟨_, rfl, .reset .cold .refl⟩
  | startUp strikes =>
    cases hk : s.phase with
    | running => exact ⟨s, by simp [exec, execStartUp, hk], .turns .refl⟩
    | inReset k => exact ⟨_, by simp [exec, execStartUp, hk], .startUp k strikes hk⟩
  | restartReset =>
    show ∃ t, execRestartReset s = .next t ∧ _
    unfold execRestartReset
    dsimp only
    split
    · exact ⟨_, rfl, .reset .restart (dropMail_moves .refl)⟩
    · exact ⟨_, rfl, .turns (dropMail_moves .refl).turns⟩
  | keylockChange asserted =>
    show ∃ t, execKeylockChange asserted s = .next t ∧ _
    unfold execKeylockChange
    split
    · exact ⟨_, rfl, taking_ran keylock_moves⟩
    · exact ⟨_, rfl, .turns (keylock_moves .refl).turns⟩
  | portDown p =>
    show ∃ t, execPortDown p s = .next t ∧ _
    unfold execPortDown
    split
    · exact ⟨_, rfl, taking_ran portGoesDown_moves⟩
    · exact ⟨_, rfl, .turns (setPort_moves PortOk.goDown .refl).turns⟩
  | portUp p =>
    show ∃ t, execPortUp p s = .next t ∧ _
    unfold execPortUp
    split
    · exact ⟨_, rfl, taking_ran portComesUp_moves⟩
    · exact ⟨_, rfl, .turns (setPort_moves PortOk.goUp .refl).turns⟩
  | frameReceived p bytes checkOk =>
    show ∃ t, execFrameReceived p bytes checkOk s = .next t ∧ _
    unfold execFrameReceived
    split
    · exact ⟨_, rfl, taking_ran receiveFrame_moves⟩
    · exact ⟨_, rfl, .turns (receiveFrame_moves .refl).turns⟩
  | transmissionEnd p =>
    show ∃ t, execTransmissionEnd p s = .next t ∧ _
    unfold execTransmissionEnd
    split
    · exact ⟨_, rfl, taking_ran transmissionEnds_moves⟩
    · exact ⟨_, rfl, .turns (transmissionEnds_moves .refl).turns⟩
  | sampleFrame f => exact ⟨_, rfl, taking_ran acceptFrame_moves⟩
  | lossTimerExpiry row => exact ⟨_, rfl, taking_ran streamLost_moves⟩
  | computationEnd => exact ⟨_, rfl, taking_ran computationEnds_moves⟩
  | ageClockTick => exact ⟨_, rfl, taking_ran ageTick_moves⟩
  | holdTimerExpiry => exact ⟨_, rfl, taking_ran endHold_moves⟩
  | secondsClockTick => exact ⟨_, rfl, taking_ran secondsTick_moves⟩
  | dischargeTimerExpiry step => exact ⟨_, rfl, taking_ran dischargeExpiry_moves⟩
  | decayTimerExpiry step => exact ⟨_, rfl, taking_ran decayExpiry_moves⟩
  | heatModeChange r => exact ⟨_, rfl, taking_ran takeHeatMode_moves⟩
  | positionReport step pos => exact ⟨_, rfl, taking_ran takePosition_moves⟩
  | unitSupervisionNotice step sup => exact ⟨_, rfl, taking_ran takeSupervision_moves⟩
  | tripStart step cause => exact ⟨_, rfl, taking_ran takeTripStart_moves⟩
  | unitBusyRefusal r => exact ⟨_, rfl, taking_ran takeBusy_moves⟩
  | unbalanceLockoutNotice step => exact ⟨_, rfl, taking_ran takeLockoutNotice_moves⟩
  | closeOutcome step o => exact ⟨_, rfl, taking_ran takeCloseOutcome_moves⟩
  | openOutcome step o => exact ⟨_, rfl, taking_ran takeOpenOutcome_moves⟩
  | dischargedReport step => exact ⟨_, rfl, taking_ran takeDischarged_moves⟩
  | unbalanceStepReport r => exact ⟨_, rfl, taking_ran takeUnbalanceReport_moves⟩
  | harmonicStepReport r => exact ⟨_, rfl, taking_ran harmonicReport_moves⟩
  | controlStepReport r => exact ⟨_, rfl, controlStepReport_ran r s⟩
  | statusFrame f => exact ⟨_, rfl, taking_ran takeStatus_moves⟩
  | commandRequest r => exact ⟨_, rfl, taking_ran announcedRequest_moves⟩
  | nextSendTime unit => exact ⟨_, rfl, taking_ran nextSend_moves⟩
  | operateDeadline unit => exact ⟨_, rfl, taking_ran deadlineArrives_moves⟩
  | supervisionTimerExpiry unit => exact ⟨_, rfl, taking_ran supervisionExpiry_moves⟩
  | switchOutcome step kind result => exact ⟨_, rfl, taking_ran takeSwitchOutcome_moves⟩
  | incomerOutcome kind result => exact ⟨_, rfl, taking_ran takeIncomerOutcome_moves⟩
  | detuneRequest => exact ⟨_, rfl, taking_ran takeDetune_moves⟩
  | highTimerExpiry => exact ⟨_, rfl, taking_ran highExpiry_moves⟩
  | lowTimerExpiry => exact ⟨_, rfl, taking_ran lowExpiry_moves⟩
  | settleTimerExpiry => exact ⟨_, rfl, taking_ran settleExpiry_moves⟩
  | restoreHoldExpiry => exact ⟨_, rfl, taking_ran restoreExpiry_moves⟩
  | selectExpiry => exact ⟨_, rfl, taking_ran selectionExpires_moves⟩
  | readRows q table first count => exact ⟨_, rfl, requesting_ran actReadRows_moves⟩
  | writeRows q first rows => exact ⟨_, rfl, requesting_ran actWriteRows_moves⟩
  | readResults q inputs => exact ⟨_, rfl, requesting_ran actReadResults_moves⟩
  | readStatus q sec => exact ⟨_, rfl, requesting_ran actReadStatus_moves⟩
  | hold q => exact ⟨_, rfl, requesting_ran actHold_moves⟩
  | release q => exact ⟨_, rfl, requesting_ran actRelease_moves⟩
  | select q target action token => exact ⟨_, rfl, requesting_ran actSelect_moves⟩
  | operate q token => exact ⟨_, rfl, .turns (taking_turns (serve_turns actOperate_turns))⟩
  | cancel q => exact ⟨_, rfl, requesting_ran actCancel_moves⟩
  | withdraw q step => exact ⟨_, rfl, requesting_ran actWithdraw_moves⟩
  | restore q step => exact ⟨_, rfl, requesting_ran actRestore_moves⟩
  | resetLockout q step => exact ⟨_, rfl, requesting_ran actResetLockout_moves⟩
  | null q step => exact ⟨_, rfl, requesting_ran actNull_moves⟩
  | setMode q mode => exact ⟨_, rfl, requesting_ran actSetMode_moves⟩
  | readEvents q first => exact ⟨_, rfl, requesting_ran actReadEvents_moves⟩
  | ackEvents q n => exact ⟨_, rfl, requesting_ran actAckEvents_moves⟩
  | readCapture q buffer offset => exact ⟨_, rfl, requesting_ran actReadCapture_moves⟩
  | freeCapture q buffer => exact ⟨_, rfl, requesting_ran actFreeCapture_moves⟩
  | store q => exact ⟨_, rfl, .turns (taking_turns (serve_turns actStore_turns))⟩
  | storeCompletion rows verified => exact ⟨_, rfl, .turns (taking_turns storeWorks_turns)⟩
  | restart q => exact ⟨_, rfl, requesting_ran actRestart_moves⟩
  | clearTableError q => exact ⟨_, rfl, requesting_ran actClearTableError_moves⟩
  | scrubPass before after => exact ⟨_, rfl, taking_ran scrub_moves⟩
  | reportTimerExpiry => exact ⟨_, rfl, taking_ran periodicReport_moves⟩
  | changeReportDue => exact ⟨_, rfl, taking_ran changeReport_moves⟩
  | captureTrigger kind step => exact ⟨_, rfl, taking_ran takeTrigger_moves⟩
  | captureComplete buffer => exact ⟨_, rfl, taking_ran completeCapture_moves⟩

end Sys2Proof.Machine


namespace Sys2Proof.Machine

/-! ## Invariants that every step keeps -/

/-- A property that the moves keep, that does not ask for the table memory or switching control, and that a reset leaves. -/
structure Kept (P : State → Prop) : Prop where
  move : ∀ {s t}, Move s t → P s → P t
  other : ∀ {s t}, SameBut [.pending, .phase, .memory, .switching] s t → P s → P t
  reset : ∀ k {s}, P s → P (resetPart k s)

theorem updMemory_sameBut (f : MemoryState → MemoryState) (s : State) : SameBut [.memory] s (s.updMemory f) := by
  constructor; intro p hp; cases p <;> simp_all [Part.same]

theorem phase_sameBut (k : Phase) (s : State) : SameBut [.phase] s { s with phase := k } := by
  constructor; intro p hp; cases p <;> simp_all [Part.same]

theorem timebase_sameBut (n : Nat) (s : State) : SameBut [.timebase] s { s with timebase := n } := by
  constructor; intro p hp; cases p <;> simp_all [Part.same]

theorem startSwitching_sameBut (s : State) : SameBut [.switching] s (startSwitching s) := by
  unfold startSwitching
  split
  · exact .refl _ _
  · exact State.updSwitching_sameBut _ _

section
variable {s t : State} {P : State → Prop}

theorem Kept.moves (hP : Kept P) (h : Moves s t) (hs : P s) : P t := by
  induction h with
  | refl => exact hs
  | tail _ hmove ih => exact hP.move hmove ih

theorem Kept.turn (hP : Kept P) (h : Turn s t) (hs : P s) : P t := by
  cases h with
  | move hmove => exact hP.move hmove hs
  | beginStore => exact hP.other ((updMemory_sameBut _ _).mono (by simp)) hs
  | copy => exact hP.other ((updMemory_sameBut _ _).mono (by simp)) hs
  | endStore => exact hP.other ((updMemory_sameBut _ _).mono (by simp)) hs
  | operate _ _ _ r _ hr =>
    have hroom := hP.moves (makeRoom_moves hr) hs
    exact hP.other ((enqueue_sameBut _ _ _).mono (by simp)) hroom

theorem Kept.turns (hP : Kept P) (h : Turns s t) (hs : P s) : P t := by
  induction h with
  | refl => exact hs
  | tail _ hturn ih => exact hP.turn hturn ih

theorem Kept.exec (hP : Kept P) (hstart : ∀ k xs, s.phase = .inReset k → P (startUp k xs s)) {c : Instr}
    (h : exec c s = .next t) (hs : P s) : P t := by
  obtain ⟨t', ht', hran⟩ := exec_ran c s
  cases ht'.symm.trans h
  cases hran with
  | turns hturns => exact hP.turns hturns hs
  | report r _ ha ht =>
    have ha := hP.moves ha (hP.move (.take c s) hs)
    refine hP.moves ht ?_
    split
    · exact hP.other ((releaseSlot_sameBut _ _).mono (by simp)) ha
    · exact ha
  | reset k hu => exact hP.reset k (hP.moves hu hs)
  | startUp k xs hk => exact hstart k xs hk

theorem Kept.step (hP : Kept P)
    (hstart : ∀ k xs cs, s.phase = .inReset k → P (startUp k xs { s with pending := cs })) (h : step s = .next t)
    (hs : P s) : P t := by
  unfold Machine.step at h
  split at h
  next c rest _ =>
    have hpending : P { s with pending := rest } := hP.other ((pending_sameBut rest s).mono (by simp)) hs
    exact hP.exec (s := { s with pending := rest }) (fun k xs hk => hstart k xs rest hk) h hpending
  next =>
    unfold idle at h
    split at h
    next =>
      cases h
      exact hP.move (.other _ _ ((timebase_sameBut _ s).mono (by simp))) hs
    next hrun =>
      have hno (k : ResetKind) (xs : List Strike) (hk : s.phase = .inReset k) : P (startUp k xs s) := by
        cases hrun.symm.trans hk
      split at h
      next => exact hP.exec hno h hs
      next =>
        split at h
        next => exact hP.exec hno h hs
        next =>
          cases h
          exact hP.move (.tick s) hs

/-- A property of the kind that start-up's first look at the steps keeps is kept by all of start-up. -/
theorem Kept.startUp (hP : Kept P) (hstep : ∀ i {s}, P s → P (startStep s i)) (k : ResetKind) (xs : List Strike)
    (hs : P s) : P (startUp k xs s) := by
  have hfold {α : Type} {f : State → α → State} (hf : ∀ {u} a, P u → P (f u a)) (l : List α) {u : State} (hu : P u) :
      P (l.foldl f u) := by
    induction l generalizing u with
    | nil => exact hu
    | cons a l ih => exact ih (hf a hu)
  have hload : P (loadTables xs s) := by
    unfold loadTables
    split
    · refine hP.moves (foldl_moves (fun _ _ => loadRow_moves) (strikeRows_moves .refl)) ?_
      exact hP.other ((updMemory_sameBut _ _).mono (by simp)) hs
    · exact hP.moves (logEvent_moves .refl) (hP.other ((updMemory_sameBut _ _).mono (by simp)) hs)
  unfold Machine.startUp startBlocks
  dsimp only
  refine hP.moves (armAtStartUp_moves (foldl_moves (fun _ _ => startUnit_moves) (startAgeClock_moves .refl))) ?_
  refine hP.other ((startSwitching_sameBut _).mono (by simp)) ?_
  refine hP.moves (setNextCount_moves (foldl_moves (fun _ _ => startElements_moves) .refl)) ?_
  refine hfold (fun i => hstep i) _ ?_
  refine hP.moves (fillStates_moves .refl) ?_
  refine hP.other ((phase_sameBut _ _).mono (by simp)) ?_
  exact hP.moves (startLink_moves (logEvent_moves .refl)) hload

/-- An invariant that start-up's first look at the steps keeps too is kept by every step. -/
theorem Kept.step_of_startStep (hP : Kept P) (hstep : ∀ i {s}, P s → P (startStep s i)) (h : Machine.step s = .next t)
    (hs : P s) : P t :=
  hP.step (fun k xs cs _ => hP.startUp hstep k xs (hP.other ((pending_sameBut cs s).mono (by simp)) hs)) h hs

end

end Sys2Proof.Machine


namespace Sys2Proof.Machine

theorem getElem_upd {α : Type} {n : Nat} (v : Vector α n) (i j : Fin n) (f : α → α) :
    (upd v i f)[j] = if i = j then f v[j] else v[j] := by
  simp only [upd, Fin.getElem_fin, Vector.getElem_set, Fin.val_inj]
  split
  · next h => rw [h]
  · rfl

/-! ### The event list (R169) -/

/-- What `EventsOk` asks of the entries, the number of the next one given. -/
def Numbered (entries : List EventEntry) (next : Nat) : Prop :=
  ∀ k (h : k < entries.length), (entries[k].sequence + (entries.length - k)) % mod32 = next ∧ entries[k].sequence < mod32

theorem Numbered.drop {entries : List EventEntry} {next : Nat} (n : Nat) (h : Numbered entries next) :
    Numbered (entries.drop n) next := by
  intro k hk
  rw [List.length_drop] at hk ⊢
  obtain ⟨hseq, hlt⟩ := h (n + k) (by omega)
  rw [List.getElem_drop]
  exact ⟨by rwa [Nat.sub_sub], hlt⟩

theorem Numbered.append {entries : List EventEntry} {next : Nat} {e : EventEntry} (he : e.sequence = next)
    (hnext : next < mod32) (h : Numbered entries next) : Numbered (entries ++ [e]) ((next + 1) % mod32) := by
  intro k hk
  rw [List.length_append, List.length_singleton] at hk ⊢
  rcases Nat.lt_or_eq_of_le (Nat.lt_succ_iff.1 hk) with hlt | rfl
  · obtain ⟨hseq, hsmall⟩ := h k hlt
    rw [List.getElem_append_left hlt]
    refine ⟨?_, hsmall⟩
    rw [← hseq, Nat.mod_add_mod]
    congr 1
    omega
  · simp [he, hnext]

theorem logEvent_eventsOk {k : EventKind} {x : Subject} {v : Option Nat} {s : State} (h : EventsOk s) :
    EventsOk (logEvent k x v s) := by
  obtain ⟨hlen, hnext, hnum⟩ := h
  refine ⟨?_, Nat.mod_lt _ (by decide), ?_⟩
  · simp only [logEvent, List.length_append, List.length_singleton, decide_eq_true_eq]
    split
    · rw [List.length_drop]; unfold Config.eventCapacity at *; omega
    · unfold Config.eventCapacity at *; omega
  · refine Numbered.append rfl hnext ?_
    split
    · exact Numbered.drop 1 hnum
    · exact hnum

theorem EventsOk.congr {s t : State} (hentries : t.events.entries = s.events.entries)
    (hnext : t.events.next = s.events.next) (h : EventsOk s) : EventsOk t := by
  unfold EventsOk at *
  rw [hentries, hnext]
  exact h

theorem acknowledge_eventsOk {n : Nat} {s : State} (h : EventsOk s) : EventsOk (acknowledge n s) := by
  obtain ⟨hlen, hnext, hnum⟩ := h
  have hsuffix : ∃ j, (acknowledge n s).events.entries = s.events.entries.drop j := by
    unfold acknowledge entriesFrom
    dsimp only
    split
    · obtain ⟨pre, hpre⟩ := List.dropWhile_suffix (l := s.events.entries) fun e => decide (e.sequence ≠ n)
      refine ⟨pre.length + 1, ?_⟩
      conv_rhs => rw [← hpre, ← List.drop_drop, List.drop_left]
    · exact ⟨0, rfl⟩
  obtain ⟨j, hj⟩ := hsuffix
  refine ⟨?_, hnext, ?_⟩
  · rw [hj, List.length_drop]; omega
  · rw [hj]; exact Numbered.drop j hnum

theorem logAlarms_eventsOk {i : Fin 8} {x y : StepLive} {s : State} (h : EventsOk s) : EventsOk (logAlarms i x y s) := by
  unfold logAlarms
  with_reducible repeat' first | assumption | refine logEvent_eventsOk ?_ | split

theorem SameBut.eventsOk {ps : List Part} {s t : State} (hst : SameBut ps s t) (hps : .eventList ∉ ps) (h : EventsOk s) :
    EventsOk t := h.congr (hst.same _ hps).1 (hst.same _ hps).2.1

theorem changeStep_eventsOk {i : Fin 8} {new : StepState} {cause : StateCause} {op : Option Operation}
    {lock : Option LockoutCause} {s : State} (h : EventsOk s) : EventsOk (changeStep i new cause op lock s) := by
  unfold changeStep
  dsimp only
  refine (handReports_sameBut _ _).eventsOk (by simp) (logAlarms_eventsOk (logEvent_eventsOk ?_))
  exact h.congr rfl rfl

/-- A grant moves switching control and the mail, and starts its step's operation by a change of state. -/
theorem grantTo_keeps {P : State → Prop} (hother : ∀ {s t}, SameBut [.mail, .switching] s t → P s → P t)
    (hchange : ∀ {i new cause op s}, new ≠ .ready → P s → P (changeStep i new cause op none s)) {u : Fin 9} {k : CmdKind}
    {reason : Option Reason} {s : State} (h : P s) : P (grantTo u k reason s) := by
  have hswitch := hother ((State.updSwitching_sameBut (fun w => { w with
    holder := some { target := u, kind := k, reason := reason } }) s).mono (by simp)) h
  unfold grantTo startOperation
  split
  · unfold closeStart
    split
    · exact hother ((hand_sameBut _ _).mono (by simp)) (hchange nofun hswitch)
    · exact hswitch
  · unfold openStart
    split
    · exact hother ((hand_sameBut _ _).mono (by simp)) (hchange nofun hswitch)
    · exact hswitch
  · exact hother ((hand_sameBut _ _).mono (by simp)) hswitch

theorem eventsOk_kept : Kept EventsOk where
  move {s t} hmove h := by
    cases hmove with
    | log => exact logEvent_eventsOk h
    | acknowledge => exact acknowledge_eventsOk h
    | change => exact changeStep_eventsOk h
    | load i =>
      unfold handLoading
      dsimp only
      have hload := (loadDischarge_sameBut i s).eventsOk (by simp) h
      split
      · exact changeStep_eventsOk hload
      · exact hload
    | grant =>
      exact grantTo_keeps (fun hst => hst.eventsOk (by simp)) (fun _ => changeStep_eventsOk) h
    | release => exact (releaseSlot_sameBut _ _).eventsOk (by simp) h
    | port => exact (setPort_sameBut _ _ _).eventsOk (by simp) h
    | other _ _ hst => exact hst.eventsOk (by simp) h
    | hand | take | link | step | switching | duty | seconds | memory | tick => exact h.congr rfl rfl
  other hst := hst.eventsOk (by simp)
  reset k {s} h := by
    cases k with
    | cold => exact ⟨Nat.zero_le _, show 1 < mod32 by decide, nofun⟩
    | restart => exact h.congr rfl rfl

theorem startStep_sameBut (s : State) (i : Fin 8) : SameBut [.supervisor] s (startStep s i) := by
  unfold startStep
  split
  · exact State.updStep_sameBut _ _ _
  · exact .refl _ _

/-- Settles O56: a logged event takes the next number, an acknowledgement leaves the newest entries, and every other move
leaves the list alone. -/
theorem eventsKept : Obligations.EventsKept := fun _ _ h hstep =>
  eventsOk_kept.step_of_startStep (fun i {s} => (startStep_sameBut s i).eventsOk (by simp)) hstep h

/-! ### The ports (R150 to R153) -/

theorem State.setPort_port (p q : Port) (x : PortState) (s : State) :
    (s.setPort p x).port q = if p = q then x else s.port q := by
  cases p <;> cases q <;> rfl

theorem portsOk_iff (s : State) : PortsOk s ↔ ∀ p, PortOk (s.port p) :=
  ⟨fun ⟨ha, hb⟩ p => by cases p; exacts [ha, hb], fun h => ⟨h .a, h .b⟩⟩

theorem SameBut.portsOk {ps : List Part} {s t : State} (hst : SameBut ps s t) (hps : .ports ∉ ps) (h : PortsOk s) :
    PortsOk t := by
  have heq : t.ports = s.ports := hst.same _ hps
  unfold PortsOk
  rw [heq]
  exact h

theorem atReset_portOk {p : PortState} : PortOk p.atReset :=
  ⟨Nat.zero_le _, Nat.zero_le _, ⟨[], [], rfl, rfl, rfl, List.nodup_nil⟩, fun _ => ⟨rfl, rfl⟩, Nat.zero_le _⟩

theorem portsOk_kept : Kept PortsOk where
  move {s t} hmove h := by
    cases hmove with
    | port p x _ hx =>
      rw [portsOk_iff] at h ⊢
      intro q
      rw [State.setPort_port]
      split
      · exact hx (h p)
      · exact h q
    | change => exact (changeStep_sameBut _ _ _ _ _ _).portsOk (by simp) h
    | load => exact (handLoading_sameBut _ _).portsOk (by simp) h
    | grant => exact (grantTo_sameBut _ _ _ _).portsOk (by simp) h
    | release => exact (releaseSlot_sameBut _ _).portsOk (by simp) h
    | other _ _ hst => exact hst.portsOk (by simp) h
    | log | acknowledge | link | hand | take | step | switching | duty | seconds | memory | tick => exact h
  other hst := hst.portsOk (by simp)
  reset _ _ _ := ⟨atReset_portOk, atReset_portOk⟩

/-- Settles O58: a move of a port keeps its queues (`PortOk.enter` and its companions), and no other move touches a port. -/
theorem portsKept : Obligations.PortsKept := fun _ _ h hstep =>
  portsOk_kept.step_of_startStep (fun i {s} => (startStep_sameBut s i).portsOk (by simp)) hstep h

end Sys2Proof.Machine


namespace Sys2Proof.Machine

/-! ### The duty figures (R77, R79, R84) -/

theorem dutyOk_iff (s : State) : DutyOk s ↔ ∀ i : Fin 8, DutyFine s.duty.steps[i] := Iff.rfl

theorem SameBut.dutyOk {ps : List Part} {s t : State} (hst : SameBut ps s t) (hps : .duty ∉ ps) (h : DutyOk s) :
    DutyOk t := by
  have heq : t.duty = s.duty := hst.same _ hps
  unfold DutyOk
  rw [heq]
  exact h

theorem State.updDuty_steps (i j : Fin 8) (f : DutyLive → DutyLive) (s : State) :
    (s.updDuty i f).duty.steps[j] = if i = j then f s.duty.steps[j] else s.duty.steps[j] := getElem_upd _ i j f

theorem updDuty_dutyOk {i : Fin 8} {f : DutyLive → DutyLive} {s : State}
    (hf : DutyFine s.duty.steps[i] → DutyFine (f s.duty.steps[i])) (h : DutyOk s) : DutyOk (s.updDuty i f) := by
  rw [dutyOk_iff] at h ⊢
  intro j
  rw [State.updDuty_steps]
  split
  · next hij => exact hij ▸ hf (h i)
  · exact h j

theorem dutyOk_kept : Kept DutyOk where
  move {s t} hmove h := by
    cases hmove with
    | duty i f _ hfine => exact updDuty_dutyOk hfine h
    | load i =>
      refine (show SameBut [.mail, .supervisor, .eventList] (loadDischarge i s) (handLoading i s) from ?_).dutyOk (by simp)
        (updDuty_dutyOk id h)
      unfold handLoading
      dsimp only
      split
      · exact changeStep_sameBut _ _ _ _ _ _
      · exact .refl _ _
    | tick =>
      intro i
      obtain ⟨hheat, hlast, hops⟩ := h i
      simp only [tick, Fin.getElem_fin, Vector.getElem_map]
      exact ⟨hheat, hlast, hops⟩
    | change => exact (changeStep_sameBut _ _ _ _ _ _).dutyOk (by simp) h
    | port => exact (setPort_sameBut _ _ _).dutyOk (by simp) h
    | grant => exact (grantTo_sameBut _ _ _ _).dutyOk (by simp) h
    | release => exact (releaseSlot_sameBut _ _).dutyOk (by simp) h
    | other _ _ hst => exact hst.dutyOk (by simp) h
    | log | acknowledge | link | hand | take | step | switching | seconds | memory => exact h
  other hst := hst.dutyOk (by simp)
  reset k {s} _ := by
    intro i
    simp only [resetPart, State.reset, Fin.getElem_fin, Vector.getElem_replicate]
    exact ⟨Nat.zero_le _, Nat.zero_le _, Nat.zero_le _⟩

/-! ### READY steps have discharged (R106) -/

theorem State.stepState_eq (s : State) (i : Fin 8) : s.stepState i = s.supervisor.steps[i].state := rfl

theorem changeStep_steps (i j : Fin 8) (new : StepState) (cause : StateCause) (op : Option Operation)
    (lock : Option LockoutCause) (s : State) :
    (changeStep i new cause op lock s).supervisor.steps[j] =
      if i = j then s.supervisor.steps[i].enter new op lock else s.supervisor.steps[j] := by
  have hsup : (changeStep i new cause op lock s).supervisor.steps =
      s.supervisor.steps.set i (s.supervisor.steps[i].enter new op lock) := by
    unfold changeStep
    dsimp only
    rw [(handReports_sameBut _ _).same .supervisor (by simp), (logAlarms_sameBut _ _ _ _).same .supervisor (by simp),
      logEvent_supervisor]
  rw [hsup]
  simp [Vector.getElem_set, Fin.val_inj]

theorem changeStep_stepState (i j : Fin 8) (new : StepState) (cause : StateCause) (op : Option Operation)
    (lock : Option LockoutCause) (s : State) :
    (changeStep i new cause op lock s).stepState j = if i = j then new else s.stepState j := by
  rw [State.stepState_eq, changeStep_steps]
  split <;> rfl

theorem State.updStep_steps (i j : Fin 8) (f : StepLive → StepLive) (s : State) :
    (s.updStep i f).supervisor.steps[j] = if i = j then f s.supervisor.steps[j] else s.supervisor.steps[j] :=
  getElem_upd _ i j f

theorem SameBut.readyDischarged {ps : List Part} {s t : State} (hst : SameBut ps s t) (hsup : .supervisor ∉ ps)
    (hduty : .duty ∉ ps) (h : ReadyDischarged s) : ReadyDischarged t := by
  have heq : t.supervisor = s.supervisor := hst.same _ hsup
  have heq' : t.duty = s.duty := hst.same _ hduty
  unfold ReadyDischarged State.stepState dischargeRemaining at *
  rw [heq, heq']
  exact h

theorem remaining_eq_zero {d : DutyLive} : d.remaining = 0 ↔ d.discharge = none := by
  unfold DutyLive.remaining
  cases d.discharge with
  | none => simp
  | some ms => simp

theorem changeStep_readyDischarged {i : Fin 8} {new : StepState} {cause : StateCause} {op : Option Operation}
    {lock : Option LockoutCause} {s : State} (hready : new = .ready → dischargeRemaining i s = 0)
    (h : ∀ j, j ≠ i → s.stepState j = .ready → dischargeRemaining j s = 0) :
    ReadyDischarged (changeStep i new cause op lock s) := by
  intro j hj
  have hduty : (changeStep i new cause op lock s).duty = s.duty := (changeStep_sameBut _ _ _ _ _ _).same .duty (by simp)
  rw [changeStep_stepState] at hj
  unfold dischargeRemaining at *
  rw [hduty]
  split at hj
  · next hij => exact hij ▸ hready hj
  · next hij => exact h j (Ne.symm hij) hj

theorem readyDischarged_kept : Kept ReadyDischarged where
  move {s t} hmove h := by
    cases hmove with
    | change i new cause op lock _ _ _ hready => exact changeStep_readyDischarged hready fun j _ => h j
    | load i =>
      have hothers : ∀ j, j ≠ i → (loadDischarge i s).stepState j = .ready → dischargeRemaining j (loadDischarge i s) = 0 := by
        intro j hj hstate
        have hsame : (loadDischarge i s).duty.steps[j] = s.duty.steps[j] := by
          unfold loadDischarge
          dsimp only
          rw [State.updDuty_steps, if_neg (Ne.symm hj)]
        unfold dischargeRemaining
        rw [hsame]
        exact h j hstate
      unfold handLoading
      dsimp only
      split
      next => exact changeStep_readyDischarged nofun hothers
      next hnot => exact fun j hj => hothers j (fun hji => hnot (hji ▸ hj)) hj
    | grant =>
      exact grantTo_keeps (fun hst => hst.readyDischarged (by simp) (by simp))
        (fun hnew h => changeStep_readyDischarged (fun he => absurd he hnew) fun j _ => h j) h
    | step i f _ hstate =>
      intro j hj
      rw [State.stepState_eq, State.updStep_steps] at hj
      refine h j ?_
      split at hj
      · next hij => subst hij; exact hstate.symm.trans hj
      · exact hj
    | duty i f _ _ htimer =>
      intro j hj
      have hj := h j hj
      unfold dischargeRemaining at *
      rw [State.updDuty_steps]
      rw [remaining_eq_zero] at hj ⊢
      split
      · next hij => subst hij; exact htimer.elim (·.trans hj) id
      · exact hj
    | tick =>
      intro i hi
      have hi := h i hi
      unfold dischargeRemaining at *
      rw [remaining_eq_zero] at hi ⊢
      have htick : (tick s).duty.steps[i].discharge = s.duty.steps[i].discharge.map (· - 1) := by
        simp [tick, DutyLive.tick]
      rw [htick, hi]
      rfl
    | port => exact (setPort_sameBut _ _ _).readyDischarged (by simp) (by simp) h
    | release => exact (releaseSlot_sameBut _ _).readyDischarged (by simp) (by simp) h
    | other _ _ hst => exact hst.readyDischarged (by simp) (by simp) h
    | log | acknowledge | link | hand | take | switching | seconds | memory => exact h
  other hst := hst.readyDischarged (by simp) (by simp)
  reset k {s} _ := by
    intro i hi
    simp [State.stepState, resetPart, State.reset, StepLive.reset] at hi

theorem startStep_stepState (i j : Fin 8) (s : State) :
    (startStep s i).stepState j = s.stepState j ∨ (startStep s i).stepState j = .unresolved := by
  unfold startStep
  split
  · rw [State.stepState_eq, State.updStep_steps]
    split
    · exact .inr rfl
    · exact .inl rfl
  · exact .inl rfl

theorem startStep_readyDischarged {i : Fin 8} {s : State} (h : ReadyDischarged s) : ReadyDischarged (startStep s i) := by
  intro j hj
  have hduty : (startStep s i).duty = s.duty := (startStep_sameBut s i).same .duty (by simp)
  unfold ReadyDischarged dischargeRemaining at *
  rw [hduty]
  rcases startStep_stepState i j s with heq | heq
  · exact h j (heq ▸ hj)
  · simp [heq] at hj

end Sys2Proof.Machine


namespace Sys2Proof.Machine

/-! ### Between a reset and start-up (R168) -/

/-- The parts that the commands of a part in reset can touch. -/
abbrev resetParts : List Part := [.pending, .mail, .timebase, .keylock, .ports, .agent]

theorem reply_sameBut (q : Requester) (link : LinkRow) (a : Answer) (s : State) :
    SameBut [.mail, .ports, .agent] s (reply q link a s) :=
  ((agent_sameBut _ s).trans (enterOrigin_sameBut _ _ _)).mono (by simp)

theorem serve_refused_sameBut (q : Requester) (c : Code) (s : State) :
    SameBut [.mail, .ports, .agent] s (serve q (refused c) s) := by
  unfold serve
  split
  · exact .refl _ s
  · split
    · exact (agent_sameBut _ s).mono (by simp)
    · exact reply_sameBut _ _ _ _

theorem consume_sameBut (p : Port) (bs : List Byte) (s : State) : SameBut [.mail, .ports, .agent] s (consume p bs s) := by
  unfold consume handRequest
  dsimp only
  split
  · split
    · exact (hand_sameBut _ s).mono (by simp)
    · exact serve_refused_sameBut _ _ s
  · exact serve_refused_sameBut _ _ s

theorem forward_sameBut (p : Port) (bytes : List Byte) (s : State) : SameBut [.ports] s (forward p bytes s) :=
  setPort_sameBut _ _ s

theorem handOn_sameBut (p : Port) (bs : List Byte) (s : State) : SameBut [.mail] s (handOn p bs s) := by
  unfold handOn
  split
  · exact hand_sameBut _ s
  · split
    · exact hand_sameBut _ s
    · exact .refl _ s

theorem learnReportPort_sameBut (p : Port) (a : Addr) (link : LinkRow) (s : State) :
    SameBut [.ports] s (learnReportPort p a link s) := by
  unfold learnReportPort
  split
  · exact ports_sameBut _ s
  · exact .refl _ s

theorem judgeFrame_sameBut (p : Port) (bytes : List Byte) (link : LinkRow) (s : State) :
    SameBut [.mail, .ports, .agent] s (judgeFrame p bytes link s) := by
  unfold judgeFrame
  dsimp only
  have hlearn := learnReportPort_sameBut p (frameSource (content bytes)) link s
  split
  · exact (forward_sameBut _ _ s).mono (by simp)
  · split
    · exact ((hlearn.trans (setPort_sameBut _ _ _)).trans (forward_sameBut _ _ _)).mono (by simp)
    · split
      · exact (hlearn.trans (consume_sameBut _ _ _)).mono (by simp)
      · exact ((hlearn.trans (handOn_sameBut _ _ _)).trans (forward_sameBut _ _ _)).mono (by simp)

theorem receiveFrame_sameBut (p : Port) (bytes : List Byte) (checkOk : Bool) (s : State) :
    SameBut [.mail, .ports, .agent] s (receiveFrame p bytes checkOk s) := by
  unfold receiveFrame
  dsimp only
  split
  · split
    · exact ((setPort_sameBut _ _ s).trans (judgeFrame_sameBut _ _ _ _)).mono (by simp)
    · exact ((setPort_sameBut _ _ s).trans (forward_sameBut _ _ _)).mono (by simp)
  · exact (setPort_sameBut _ _ s).mono (by simp)

theorem transmissionEnds_sameBut (p : Port) (s : State) : SameBut [.mail, .ports] s (transmissionEnds p s) := by
  unfold transmissionEnds replySent
  split
  · split
    · exact ((setPort_sameBut _ _ s).trans (restartDue_sameBut _ _)).mono (by simp)
    · exact (setPort_sameBut _ _ s).mono (by simp)
  · exact .refl _ s

/-- The commands that a part in reset takes too; every other one is taken as `taking` gives. -/
def actsInReset : Instr → Bool
  | .coldReset | .startUp _ | .restartReset | .keylockChange _ | .portDown _ | .portUp _ | .frameReceived _ _ _
  | .transmissionEnd _ => true
  | _ => false

theorem exec_eq_taking {c : Instr} (hc : actsInReset c = false) (s : State) :
    ∃ uses body, exec c s = .next (taking c uses body s) := by
  cases c with
  | coldReset | startUp | restartReset | keylockChange | portDown | portUp | frameReceived | transmissionEnd => cases hc
  | _ => exact ⟨_, _, rfl⟩

/-- A part in reset that takes a command starts up, is reset again, or changes its mail, its ports and its inputs alone. -/
theorem exec_inReset {c : Instr} {s t : State} {k : ResetKind} (hk : s.phase = .inReset k) (h : exec c s = .next t) :
    SameBut resetParts s t ∨ t = resetPart .cold s ∨ ∃ xs, t = startUp k xs s := by
  cases hc : actsInReset c with
  | false =>
    obtain ⟨uses, body, heq⟩ := exec_eq_taking hc s
    rw [heq, taking_inReset hk] at h
    cases h
    exact .inl ((State.dropMail_sameBut c s).mono (by simp))
  | true =>
    cases c with
    | coldReset => cases h; exact .inr (.inl rfl)
    | startUp xs =>
      simp only [exec, execStartUp, hk, Host.Outcome.next.injEq] at h
      exact .inr (.inr ⟨xs, h.symm⟩)
    | restartReset =>
      simp only [exec, execRestartReset, State.dropMail_phase, hk] at h
      cases h
      exact .inl ((State.dropMail_sameBut _ s).mono (by simp))
    | keylockChange b =>
      change execKeylockChange b s = .next t at h
      unfold execKeylockChange at h
      split at h
      next hrun => cases hk.symm.trans hrun
      next =>
        cases h
        exact .inl ((keylock_sameBut b s).mono (qs := resetParts) (by simp))
    | portDown p =>
      simp only [exec, execPortDown, hk] at h
      cases h
      exact .inl ((setPort_sameBut _ _ s).mono (by simp))
    | portUp p =>
      simp only [exec, execPortUp, hk] at h
      cases h
      exact .inl ((setPort_sameBut _ _ s).mono (by simp))
    | frameReceived p bytes ok =>
      simp only [exec, execFrameReceived, hk] at h
      cases h
      exact .inl ((receiveFrame_sameBut _ _ _ s).mono (by simp))
    | transmissionEnd p =>
      simp only [exec, execTransmissionEnd, hk] at h
      cases h
      exact .inl ((transmissionEnds_sameBut _ s).mono (by simp))
    | _ => cases hc

theorem Turn.phase_pending {s t : State} (h : Turn s t) : t.phase = s.phase ∧ t.pending = s.pending := by
  cases h with
  | move hmove => exact hmove.phase_pending
  | operate _ _ _ _ _ hr => exact (makeRoom_moves hr).phase_pending
  | beginStore | copy | endStore => exact ⟨rfl, rfl⟩

theorem Turns.phase_pending {s t : State} (h : Turns s t) : t.phase = s.phase ∧ t.pending = s.pending := by
  induction h with
  | refl => exact ⟨rfl, rfl⟩
  | tail _ hturn ih => exact ⟨hturn.phase_pending.1.trans ih.1, hturn.phase_pending.2.trans ih.2⟩

/-- Start-up up to its first look at the steps. -/
def startEarly (k : ResetKind) (xs : List Strike) (s : State) : State :=
  fillStates { startLink (logEvent .startUp .none (some (resetNumber k)) (loadTables xs s)) with phase := .running }

/-- Start-up from there on, before switching control starts. -/
def startMiddle (s : State) : State := setNextCount (allLimits.foldl startElements s)

/-- Start-up from there on. -/
def startLate (s : State) : State := armAtStartUp (allUnits.foldl startUnit (startAgeClock s))

theorem startUp_eq (k : ResetKind) (xs : List Strike) (s : State) :
    startUp k xs s = startLate (startSwitching (startMiddle (allSteps.foldl startStep (startEarly k xs s)))) := rfl

theorem startEarly_phase (k : ResetKind) (xs : List Strike) (s : State) : (startEarly k xs s).phase = .running := by
  unfold startEarly
  generalize startLink _ = u
  exact (fillStates_sameBut { u with phase := .running }).same .phase (by simp)

theorem startMiddle_moves (s : State) : Moves s (startMiddle s) :=
  setNextCount_moves (foldl_moves (fun _ _ => startElements_moves) .refl)

theorem startLate_moves (s : State) : Moves s (startLate s) :=
  armAtStartUp_moves (foldl_moves (fun _ _ => startUnit_moves) (startAgeClock_moves .refl))

/-- After start-up the part is running. -/
theorem startUp_phase (k : ResetKind) (xs : List Strike) (s : State) : (startUp k xs s).phase = .running := by
  rw [startUp_eq, (startLate_moves _).phase_pending.1, (startSwitching_sameBut _).same .phase (by simp),
    (startMiddle_moves _).phase_pending.1, (SameBut.foldl startStep_sameBut _ _).same .phase (by simp), startEarly_phase]

/-- A command that leaves the part in reset is a reset, or one of a part in reset that touches little. -/
theorem exec_leaves_inReset {c : Instr} {s t : State} (h : exec c s = .next t) (ht : t.phase ≠ .running) :
    (s.phase ≠ .running ∧ SameBut resetParts s t) ∨ ∃ k u, t = resetPart k u := by
  cases hk : s.phase with
  | inReset k =>
    rcases exec_inReset hk h with hsame | hcold | ⟨xs, hstart⟩
    · exact .inl ⟨nofun, hsame⟩
    · exact .inr ⟨_, _, hcold⟩
    · rw [hstart] at ht
      exact absurd (startUp_phase _ _ _) ht
  | running =>
    obtain ⟨t', ht', hran⟩ := exec_ran c s
    cases ht'.symm.trans h
    cases hran with
    | turns hturns => exact absurd (hturns.phase_pending.1.trans hk) ht
    | reset k => exact .inr ⟨_, _, rfl⟩
    | startUp k xs hk' => cases hk.symm.trans hk'
    | @report a _ r _ ha hat =>
      have hphase : (if releasing c then releaseSlot (stepUnit r.step) a else a).phase = a.phase := by
        split
        · exact (releaseSlot_sameBut _ _).same .phase (by simp)
        · rfl
      have hdrop : (s.dropMail c).phase = .running := hk
      exact absurd ((hat.phase_pending.1.trans hphase).trans (ha.phase_pending.1.trans hdrop)) ht

/-- A step that leaves the part in reset is a reset, or one of a part in reset that touches little. -/
theorem step_inReset {s t : State} (h : step s = .next t) (ht : t.phase ≠ .running) :
    (s.phase ≠ .running ∧ SameBut resetParts s t) ∨ ∃ k u, t = resetPart k u := by
  unfold step at h
  split at h
  next c rest _ =>
    rcases exec_leaves_inReset h ht with ⟨hphase, hsame⟩ | hreset
    · exact .inl ⟨hphase, ((pending_sameBut rest s).trans hsame).mono (by simp)⟩
    · exact .inr hreset
  next =>
    unfold idle at h
    split at h
    next _ hk =>
      cases h
      exact .inl ⟨by simp [hk], (timebase_sameBut _ s).mono (by simp)⟩
    next hk =>
      split at h
      next => exact exec_leaves_inReset h ht
      next =>
        split at h
        next => exact exec_leaves_inReset h ht
        next =>
          cases h
          exact absurd hk ht

end Sys2Proof.Machine


namespace Sys2Proof.Machine

/-! ### Start-up, part by part -/

theorem loadRow_sameBut (r : RowRef) (s : State) : SameBut [.memory, .eventList] s (loadRow s r) := by
  unfold loadRow
  split
  · exact markDamaged_sameBut r s
  · split
    · exact .refl _ s
    · exact (correctRow_sameBut r s).mono (by simp)
    · exact markDamaged_sameBut r s

theorem startLink_sameBut (s : State) : SameBut [.ports] s (startLink s) := ports_sameBut _ s

theorem loadTables_sameBut (xs : List Strike) (s : State) : SameBut [.memory, .eventList] s (loadTables xs s) := by
  unfold loadTables
  split
  · have hrows (u : State) : SameBut [.memory, .eventList] u (allRows.foldl loadRow u) :=
      SameBut.foldl (fun u r => loadRow_sameBut r u) _ _
    exact ((updMemory_sameBut _ s).trans ((updMemory_sameBut _ _).trans (hrows _))).mono (by simp)
  · exact ((updMemory_sameBut _ s).trans (logEvent_sameBut _ _ _ _)).mono (by simp)

theorem startEarly_sameBut (k : ResetKind) (xs : List Strike) (s : State) :
    SameBut [.phase, .ports, .acceptance, .memory, .eventList] s (startEarly k xs s) := by
  have hload := (loadTables_sameBut xs s).trans (logEvent_sameBut .startUp .none (some (resetNumber k)) _)
  have hlink := hload.trans (startLink_sameBut _)
  have hrun := hlink.trans (phase_sameBut .running _)
  exact (hrun.trans (fillStates_sameBut _)).mono (by simp)

/-- R111: start-up's first look at the steps leaves each one's state or makes it UNRESOLVED, and nothing of its hold of the
slot or of the lists. -/
theorem startSteps_supervisor (l : List (Fin 8)) (s : State) :
    (l.foldl startStep s).supervisor.openList = s.supervisor.openList ∧
      (l.foldl startStep s).supervisor.closedList = s.supervisor.closedList ∧
      ∀ i : Fin 8, ((l.foldl startStep s).stepState i = s.stepState i ∨ (l.foldl startStep s).stepState i = .unresolved) ∧
        (l.foldl startStep s).supervisor.steps[i].slotHeld = s.supervisor.steps[i].slotHeld := by
  induction l generalizing s with
  | nil => exact ⟨rfl, rfl, fun i => ⟨.inl rfl, rfl⟩⟩
  | cons j l ih =>
    obtain ⟨hopen, hclosed, hsteps⟩ := ih (startStep s j)
    have hlists : (startStep s j).supervisor.openList = s.supervisor.openList ∧
        (startStep s j).supervisor.closedList = s.supervisor.closedList := by
      unfold startStep
      split <;> exact ⟨rfl, rfl⟩
    have hslot (i : Fin 8) : (startStep s j).supervisor.steps[i].slotHeld = s.supervisor.steps[i].slotHeld := by
      unfold startStep
      split
      · rw [State.updStep_steps]
        split <;> rfl
      · rfl
    refine ⟨hopen.trans hlists.1, hclosed.trans hlists.2, fun i => ⟨?_, (hsteps i).2.trans (hslot i)⟩⟩
    rcases (hsteps i).1 with heq | heq
    · rcases startStep_stepState j i s with heq' | heq'
      · exact .inl (heq.trans heq')
      · exact .inr (heq.trans heq')
    · exact .inr heq

/-! ### The Open List and the Closed List (R92) -/

/-- What `ListsOk` asks of a running part. -/
def ListsCore (s : State) : Prop :=
  s.supervisor.openList.Nodup ∧ s.supervisor.closedList.Nodup ∧
    (∀ i, i ∈ s.supervisor.openList ↔ s.stepState i = .cooling ∨ s.stepState i = .ready) ∧
    ∀ i, i ∈ s.supervisor.closedList ↔ s.stepState i = .inService

theorem SameBut.listsCore {ps : List Part} {s t : State} (hst : SameBut ps s t) (hsup : .supervisor ∉ ps)
    (h : ListsCore s) : ListsCore t := by
  have heq : t.supervisor = s.supervisor := hst.same _ hsup
  unfold ListsCore State.stepState at *
  rw [heq]
  exact h

/-- A step taken out of a list, or put at its tail, or left where it stands. -/
theorem mem_moved {i : Fin 8} {l : List (Fin 8)} {was now : Prop} [Decidable was] [Decidable now] (hl : l.Nodup)
    (hi : i ∈ l ↔ was) (j : Fin 8) :
    j ∈ (if now then (if was then l else l.erase i ++ [i]) else l.erase i) ↔ if i = j then now else j ∈ l := by
  split_ifs <;> simp_all [hl.mem_erase_iff] <;> grind

theorem nodup_moved {i : Fin 8} {l : List (Fin 8)} {was now : Prop} [Decidable was] [Decidable now] (hl : l.Nodup) :
    (if now then (if was then l else l.erase i ++ [i]) else l.erase i).Nodup := by
  have happend : (l.erase i ++ [i]).Nodup :=
    List.nodup_append.2 ⟨hl.erase i, List.nodup_singleton i, by simpa [hl.mem_erase_iff] using fun _ hne _ => hne⟩
  split
  · split
    · exact hl
    · exact happend
  · exact hl.erase i

theorem changeStep_lists (i : Fin 8) (new : StepState) (cause : StateCause) (op : Option Operation)
    (lock : Option LockoutCause) (s : State) :
    (changeStep i new cause op lock s).supervisor.openList = moveOpenList i (s.stepState i) new s.supervisor.openList ∧
      (changeStep i new cause op lock s).supervisor.closedList =
        moveClosedList i (s.stepState i) new s.supervisor.closedList := by
  have hsup : (changeStep i new cause op lock s).supervisor =
      { steps := s.supervisor.steps.set i (s.supervisor.steps[i].enter new op lock)
        openList := moveOpenList i (s.stepState i) new s.supervisor.openList
        closedList := moveClosedList i (s.stepState i) new s.supervisor.closedList } := by
    unfold changeStep
    dsimp only
    rw [(handReports_sameBut _ _).same .supervisor (by simp), (logAlarms_sameBut _ _ _ _).same .supervisor (by simp),
      logEvent_supervisor]
    rfl
  rw [hsup]
  exact ⟨rfl, rfl⟩

theorem isResting_iff (x : StepState) : isResting x = true ↔ x = .cooling ∨ x = .ready := by simp [isResting]

theorem changeStep_listsCore {i : Fin 8} {new : StepState} {cause : StateCause} {op : Option Operation}
    {lock : Option LockoutCause} {s : State} (h : ListsCore s) : ListsCore (changeStep i new cause op lock s) := by
  obtain ⟨hopen, hclosed, hmemOpen, hmemClosed⟩ := h
  obtain ⟨heqOpen, heqClosed⟩ := changeStep_lists i new cause op lock s
  refine ⟨?_, ?_, fun j => ?_, fun j => ?_⟩
  · rw [heqOpen]; exact nodup_moved hopen
  · rw [heqClosed]; exact nodup_moved hclosed
  · rw [heqOpen, changeStep_stepState]
    refine (mem_moved hopen ((hmemOpen i).trans (isResting_iff _).symm) j).trans ?_
    split
    · exact isResting_iff new
    · exact hmemOpen j
  · rw [heqClosed, changeStep_stepState]
    refine (mem_moved hclosed (hmemClosed i) j).trans ?_
    split
    · exact Iff.rfl
    · exact hmemClosed j

theorem listsCore_kept : Kept ListsCore where
  move {s t} hmove h := by
    cases hmove with
    | change => exact changeStep_listsCore h
    | load i =>
      unfold handLoading
      dsimp only
      have hload := (loadDischarge_sameBut i s).listsCore (by simp) h
      split
      · exact changeStep_listsCore hload
      · exact hload
    | grant => exact grantTo_keeps (fun hst => hst.listsCore (by simp)) (fun _ => changeStep_listsCore) h
    | step i f _ hstate =>
      have heq (j : Fin 8) : (s.updStep i f).stepState j = s.stepState j := by
        rw [State.stepState_eq, State.updStep_steps]
        split
        · next hij => subst hij; exact hstate
        · rfl
      unfold ListsCore
      simp only [heq]
      exact h
    | port => exact (setPort_sameBut _ _ _).listsCore (by simp) h
    | release => exact (releaseSlot_sameBut _ _).listsCore (by simp) h
    | other _ _ hst => exact hst.listsCore (by simp) h
    | log | acknowledge | link | hand | take | duty | switching | seconds | memory | tick => exact h
  other hst := hst.listsCore (by simp)
  reset k {s} _ := by
    refine ⟨List.nodup_nil, List.nodup_nil, fun i => ?_, fun i => ?_⟩ <;>
      simp [State.stepState, resetPart, State.reset, StepLive.reset]

theorem startUp_listsCore {k : ResetKind} {xs : List Strike} {s : State} (hphase : s.phase ≠ .running) (h : ListsOk s) :
    ListsCore (startUp k xs s) := by
  obtain ⟨hwithdrawn, hopen, hclosed, hmemOpen, hmemClosed⟩ := h
  have hearly : (startEarly k xs s).supervisor = s.supervisor := (startEarly_sameBut k xs s).same .supervisor (by simp)
  have hnoOpen : s.supervisor.openList = [] :=
    List.eq_nil_iff_forall_not_mem.2 fun i hi => by simpa [hwithdrawn hphase i] using (hmemOpen i).1 hi
  have hnoClosed : s.supervisor.closedList = [] :=
    List.eq_nil_iff_forall_not_mem.2 fun i hi => by simpa [hwithdrawn hphase i] using (hmemClosed i).1 hi
  obtain ⟨heqOpen, heqClosed, hsteps⟩ := startSteps_supervisor allSteps (startEarly k xs s)
  have hidle (i : Fin 8) : (allSteps.foldl startStep (startEarly k xs s)).stepState i = .withdrawn ∨
      (allSteps.foldl startStep (startEarly k xs s)).stepState i = .unresolved := by
    refine (hsteps i).1.imp_left fun heq => heq.trans ?_
    rw [State.stepState_eq, hearly]
    exact hwithdrawn hphase i
  rw [startUp_eq]
  refine listsCore_kept.moves (startLate_moves _) ((startSwitching_sameBut _).listsCore (by simp)
    (listsCore_kept.moves (startMiddle_moves _) ?_))
  unfold ListsCore
  rw [heqOpen, heqClosed, hearly, hnoOpen, hnoClosed]
  refine ⟨List.nodup_nil, List.nodup_nil, fun i => ?_, fun i => ?_⟩ <;> rcases hidle i with hi | hi <;> simp [hi]

theorem listsOk_kept {s t : State} (h : ListsOk s) (hstep : step s = .next t) : ListsOk t := by
  refine ⟨fun ht => ?_, ?_⟩
  · rcases step_inReset hstep ht with ⟨hs, hsame⟩ | ⟨k, u, rfl⟩
    · have hsup : t.supervisor = s.supervisor := hsame.same .supervisor (by simp)
      unfold State.stepState
      rw [hsup]
      exact h.1 hs
    · intro i
      simp [State.stepState, resetPart, State.reset, StepLive.reset]
  · refine listsCore_kept.step (fun k xs cs hk => startUp_listsCore (by simp [hk]) ?_) hstep h.2
    exact h

/-- Settles O57: a change of state moves its step from one list to the other as the state does (`changeStep_lists`), enters
READY with no discharge remaining alone, and leaves the figures, which each update keeps within their ranges. -/
theorem listsKept : Obligations.ListsKept :=
  ⟨fun _ _ => listsOk_kept,
    fun _ _ h hstep => readyDischarged_kept.step_of_startStep (fun _ _ => startStep_readyDischarged) hstep h,
    fun _ _ h hstep => dutyOk_kept.step_of_startStep (fun i {s} => (startStep_sameBut s i).dutyOk (by simp)) hstep h⟩

end Sys2Proof.Machine


namespace Sys2Proof.Machine

/-! ### The switching queue (R123) -/

theorem SameBut.switching_eq {ps : List Part} {s t : State} (hst : SameBut ps s t) (hps : .switching ∉ ps) :
    t.switching = s.switching := hst.same .switching hps

/-- A change of switching control that leaves the queue and the control state. -/
theorem QueueMove.of_eq {w w' : SwitchingState} (hqueue : w'.queue = w.queue) (hctl : w'.control = w.control) :
    QueueMove w w' := .of_same hqueue hctl.trans

theorem QueueMove.refl (w : SwitchingState) : QueueMove w w := .of_eq rfl rfl

theorem QueueMove.trans {a b c : SwitchingState} (h₁ : QueueMove a b) (h₂ : QueueMove b c) : QueueMove a c :=
  fun hcore => ⟨(h₂ (h₁ hcore).1).1, fun hspare => (h₂ (h₁ hcore).1).2 ((h₁ hcore).2 hspare)⟩

theorem releaseSlot_switching (u : Fin 9) (s : State) :
    (releaseSlot u s).switching = s.switching ∨ (releaseSlot u s).switching = { s.switching with holder := none } := by
  unfold releaseSlot
  split
  · split
    · exact .inr rfl
    · exact .inl rfl
  · exact .inl rfl

theorem releaseSlot_queueMove (u : Fin 9) (s : State) : QueueMove s.switching (releaseSlot u s).switching := by
  rcases releaseSlot_switching u s with heq | heq <;> rw [heq] <;> exact .of_eq rfl rfl

theorem grantTo_switching (u : Fin 9) (k : CmdKind) (reason : Option Reason) (s : State) :
    (grantTo u k reason s).switching =
      { s.switching with holder := some { target := u, kind := k, reason := reason } } := by
  unfold grantTo
  rw [(startOperation_sameBut _ _ _ _).switching_eq (by simp)]
  rfl

theorem Move.queueMove {s t : State} (h : Move s t) : QueueMove s.switching t.switching := by
  cases h with
  | switching f _ hqueue => exact hqueue
  | grant => exact grantTo_switching _ _ _ s ▸ .of_eq rfl rfl
  | release => exact releaseSlot_queueMove _ s
  | tick => exact .of_eq rfl rfl
  | change => exact (changeStep_sameBut _ _ _ _ _ _).switching_eq (by simp) ▸ .refl _
  | load => exact (handLoading_sameBut _ _).switching_eq (by simp) ▸ .refl _
  | port => exact (setPort_sameBut _ _ _).switching_eq (by simp) ▸ .refl _
  | other _ _ hst => exact hst.switching_eq (by simp) ▸ .refl _
  | log | acknowledge | hand | take | link | step | duty | seconds | memory => exact .refl _

theorem Moves.queueMove {s t : State} (h : Moves s t) : QueueMove s.switching t.switching := by
  induction h with
  | refl => exact .refl _
  | tail _ hmove ih => exact ih.trans hmove.queueMove

theorem Turn.queueCore {s t : State} (hturn : Turn s t) (h : QueueCore s.switching) : QueueCore t.switching := by
  cases hturn with
  | move hmove => exact (hmove.queueMove h).1
  | operate k u _ r hspare hr =>
    obtain ⟨hcore, hkept⟩ := hr.queueMove h
    have hmade := ((makeRoom_moves (s := r) .refl).queueMove hcore).1
    exact enqueue_queueCore hmade (makeRoom_room hcore (hkept hspare)) nofun
  | beginStore | copy | endStore => exact h

theorem Turns.queueCore {s t : State} (hturns : Turns s t) (h : QueueCore s.switching) : QueueCore t.switching := by
  induction hturns with
  | refl => exact h
  | tail _ hturn ih => exact hturn.queueCore ih

theorem queueCore_of_empty {w : SwitchingState} (h : w.queue = []) : QueueCore w := by
  unfold QueueCore
  rw [h]
  exact ⟨Nat.zero_le _, ⟨[], [], rfl, rfl, rfl, Nat.zero_le _⟩, .nil, nofun⟩

theorem startSwitching_queue (s : State) : (startSwitching s).switching.queue = s.switching.queue := by
  unfold startSwitching
  split <;> rfl

theorem startUp_queueCore {k : ResetKind} {xs : List Strike} {s : State} (h : s.switching.queue = []) :
    QueueCore (startUp k xs s).switching := by
  have hsteps : (allSteps.foldl startStep (startEarly k xs s)).switching = s.switching :=
    ((SameBut.foldl startStep_sameBut _ _).switching_eq (by simp)).trans
      ((startEarly_sameBut k xs s).switching_eq (by simp))
  rw [startUp_eq]
  generalize allSteps.foldl startStep (startEarly k xs s) = u at hsteps
  have hmiddle : (startMiddle u).switching = u.switching := by
    have hset := setNextCount_sameBut (allLimits.foldl startElements u)
    have hfold : SameBut [.harmonic, .eventList] u (allLimits.foldl startElements u) := by
      refine SameBut.foldl (fun u i => ?_) _ _
      unfold startElements
      dsimp only
      split
      · exact (createElements_sameBut i u).mono (by simp)
      · exact .refl _ u
    exact (hset.switching_eq (by simp)).trans (hfold.switching_eq (by simp))
  refine ((startLate_moves _).queueMove (queueCore_of_empty ?_)).1
  rw [startSwitching_queue, hmiddle, hsteps, h]

theorem exec_queueCore {c : Instr} {s t : State} (hempty : s.phase ≠ .running → s.switching.queue = [])
    (h : QueueCore s.switching) (hexec : exec c s = .next t) : QueueCore t.switching := by
  obtain ⟨t', ht', hran⟩ := exec_ran c s
  cases ht'.symm.trans hexec
  cases hran with
  | turns hturns => exact hturns.queueCore h
  | @report a _ r _ ha hat =>
    have hcore := (ha.queueMove h).1
    refine (hat.queueMove ?_).1
    split
    · exact (releaseSlot_queueMove _ _ hcore).1
    · exact hcore
  | reset => exact queueCore_of_empty rfl
  | startUp k xs hk => exact startUp_queueCore (hempty (by simp [hk]))

theorem queueOk_kept {s t : State} (h : QueueOk s) (hstep : step s = .next t) : QueueOk t := by
  refine ⟨fun ht => ?_, ?_⟩
  · rcases step_inReset hstep ht with ⟨hs, hsame⟩ | ⟨k, u, rfl⟩
    · rw [hsame.switching_eq (by simp)]
      exact h.1 hs
    · rfl
  · have hcore : QueueCore s.switching := h.2
    show QueueCore t.switching
    unfold step at hstep
    split at hstep
    next c rest _ => exact exec_queueCore (s := { s with pending := rest }) h.1 hcore hstep
    next =>
      unfold idle at hstep
      split at hstep
      next => cases hstep; exact hcore
      next =>
        split at hstep
        next => exact exec_queueCore h.1 hcore hstep
        next =>
          split at hstep
          next => exact exec_queueCore h.1 hcore hstep
          next => cases hstep; exact ((Move.tick s).queueMove hcore).1

end Sys2Proof.Machine


namespace Sys2Proof.Machine

/-! ### The slot (R100, R124, R128) -/

/-- A waiting message that releases the slot names the step whose hold it ends. -/
theorem releasing_iff (m : Instr) : releasing m = true ↔
    ∃ r, m = .controlStepReport r ∧ r.slotHeld = true ∧ (r.old = .closing ∨ r.old = .opening) := by
  cases m <;> simp [releasing]

/-- What `SlotOk` asks of a running part. -/
def SlotCore (s : State) : Prop :=
  (∀ i : Fin 8, s.stepState i = .closing → s.supervisor.steps[i].slotHeld = true) ∧
    (∀ i : Fin 8, s.supervisor.steps[i].slotHeld = true →
      (s.stepState i = .closing ∨ s.stepState i = .opening) ∧
        ∃ h, s.switching.holder = some h ∧ h.target = stepUnit i) ∧
    (∀ r, Instr.controlStepReport r ∈ s.mail → releasing (.controlStepReport r) = true →
      ∃ h, s.switching.holder = some h ∧ h.target = stepUnit r.step) ∧
    s.mail.countP releasing + allSteps.countP (fun i => s.supervisor.steps[i].slotHeld) ≤ 1

/-- No step holds the slot, and no message that waits releases it. -/
structure NoHold (s : State) : Prop where
  closing : ∀ i : Fin 8, s.stepState i ≠ .closing
  slotHeld : ∀ i : Fin 8, s.supervisor.steps[i].slotHeld = false
  mail : ∀ m ∈ s.mail, releasing m = false

theorem NoHold.slotCore {s : State} (h : NoHold s) : SlotCore s := by
  have hmail : s.mail.countP releasing = 0 := List.countP_eq_zero.2 fun m hm => by simp [h.mail m hm]
  have hsteps : allSteps.countP (fun i => s.supervisor.steps[i].slotHeld) = 0 :=
    List.countP_eq_zero.2 fun i _ => by rw [h.slotHeld i]; nofun
  refine ⟨fun i hi => absurd hi (h.closing i), fun i hi => ?_, fun r hr hrel => ?_, by omega⟩
  · cases hi.symm.trans (h.slotHeld i)
  · cases hrel.symm.trans (h.mail _ hr)

/-- While no step's unit is the one that the holder record names, no step holds the slot. -/
theorem SlotCore.noHold {s : State} (h : SlotCore s)
    (hnone : ∀ x, s.switching.holder = some x → ∀ i, x.target ≠ stepUnit i) : NoHold s := by
  obtain ⟨hclosing, hheld, hmail, -⟩ := h
  have hslot (i : Fin 8) : s.supervisor.steps[i].slotHeld = false := Bool.eq_false_iff.2 fun hi => by
    obtain ⟨-, x, hx, htarget⟩ := hheld i hi
    exact hnone x hx i htarget
  refine ⟨fun i hi => ?_, hslot, fun m hm => Bool.eq_false_iff.2 fun hrel => ?_⟩
  · cases (hclosing i hi).symm.trans (hslot i)
  · obtain ⟨r, rfl, -⟩ := (releasing_iff m).1 hrel
    obtain ⟨x, hx, htarget⟩ := hmail r hm hrel
    exact hnone x hx r.step htarget

theorem mem_allSteps (i : Fin 8) : i ∈ allSteps := List.mem_finRange i

theorem unitStep_eq_some {u : Fin 9} {i : Fin 8} : unitStep u = some i ↔ u = stepUnit i := by
  unfold unitStep stepUnit
  split
  · simp [Fin.ext_iff]
  · simp [Fin.ext_iff]; omega

theorem stepUnit_ne_incomer (i : Fin 8) : stepUnit i ≠ incomer := by
  have hi := i.isLt
  simp [stepUnit, incomer, Fin.ext_iff]
  omega

/-- A move that leaves the states, the slot and the releasing messages keeps the slot's invariant. -/
theorem SlotCore.congr {s t : State} (h : SlotCore s) (hsup : t.supervisor = s.supervisor)
    (hholder : t.switching.holder = s.switching.holder)
    (hmail : (t.mail.filter releasing).Sublist (s.mail.filter releasing)) : SlotCore t := by
  obtain ⟨hclosing, hheld, hmails, hcount⟩ := h
  unfold SlotCore State.stepState at *
  rw [hsup, hholder]
  refine ⟨hclosing, hheld, fun r hr hrel => ?_, ?_⟩
  · exact hmails r (List.mem_filter.1 (hmail.subset (List.mem_filter.2 ⟨hr, hrel⟩))).1 hrel
  · have hle := hmail.length_le
    rw [← List.countP_eq_length_filter, ← List.countP_eq_length_filter] at hle
    omega

theorem SameBut.slotCore {ps : List Part} {s t : State} (hst : SameBut ps s t) (hsup : .supervisor ∉ ps)
    (hswitching : .switching ∉ ps) (hmail : .mail ∉ ps) (h : SlotCore s) : SlotCore t := by
  have heq : t.mail = s.mail := hst.same .mail hmail
  exact h.congr (hst.same .supervisor hsup) (congrArg _ (hst.switching_eq hswitching)) (heq ▸ .refl _)

theorem hand_slotCore {m : Instr} {s : State} (hm : releasing m = false) (h : SlotCore s) : SlotCore (hand m s) :=
  h.congr rfl rfl (by simp [hm])

theorem dropMail_slotCore {m : Instr} {s : State} (h : SlotCore s) : SlotCore (s.dropMail m) :=
  h.congr rfl rfl (List.erase_sublist.filter _)

theorem logAlarms_mail (i : Fin 8) (x y : StepLive) (s : State) : (logAlarms i x y s).mail = s.mail :=
  (logAlarms_sameBut _ _ _ _).same .mail (by simp)

theorem changeStep_mail (i : Fin 8) (new : StepState) (cause : StateCause) (op : Option Operation)
    (lock : Option LockoutCause) (s : State) :
    ∃ r, r.step = i ∧ r.old = s.stepState i ∧ r.slotHeld = s.supervisor.steps[i].slotHeld ∧
      (changeStep i new cause op lock s).mail = s.mail ++
        [.heatModeChange r, .unbalanceStepReport r, .harmonicStepReport r, .controlStepReport r] := by
  refine ⟨{ step := i, old := s.stepState i, new := new, cause := cause, slotHeld := s.supervisor.steps[i].slotHeld },
    rfl, rfl, rfl, ?_⟩
  unfold changeStep handReports
  dsimp only
  simp only [hand_mail, logAlarms_mail, logEvent_mail, List.append_assoc, List.cons_append, List.nil_append]
  rfl

/-- Of the reports of a change of state, the one to switching control releases the slot if its step held it. -/
theorem changeStep_filter_releasing (i : Fin 8) (new : StepState) (cause : StateCause) (op : Option Operation)
    (lock : Option LockoutCause) (s : State) :
    ∃ r, r.step = i ∧ (changeStep i new cause op lock s).mail.filter releasing = s.mail.filter releasing ++
      if s.supervisor.steps[i].slotHeld && (s.stepState i = .closing || s.stepState i = .opening) then
        [.controlStepReport r] else [] := by
  obtain ⟨r, hstep, hold, hslot, hmail⟩ := changeStep_mail i new cause op lock s
  refine ⟨r, hstep, ?_⟩
  rw [hmail, List.filter_append]
  simp [releasing, hold, hslot, List.filter_cons]

/-- Of two counts over the steps that differ in one step alone. -/
theorem countP_allSteps_update (i : Fin 8) {p q : Fin 8 → Bool} (h : ∀ j, j ≠ i → q j = p j) :
    allSteps.countP q + (if p i then 1 else 0) = allSteps.countP p + (if q i then 1 else 0) := by
  have hperm := List.perm_cons_erase (mem_allSteps i)
  have hrest : (allSteps.erase i).countP q = (allSteps.erase i).countP p :=
    List.countP_congr fun j hj => by
      rw [h j ((List.Nodup.mem_erase_iff (List.nodup_finRange 8)).1 hj).1]
  rw [hperm.countP_eq, hperm.countP_eq, List.countP_cons, List.countP_cons, hrest]
  omega

theorem changeStep_holder (i : Fin 8) (new : StepState) (cause : StateCause) (op : Option Operation)
    (lock : Option LockoutCause) (s : State) :
    (changeStep i new cause op lock s).switching.holder = s.switching.holder :=
  congrArg _ ((changeStep_sameBut _ _ _ _ _ _).switching_eq (by simp))

theorem changeStep_slotHeld (i j : Fin 8) (new : StepState) (cause : StateCause) (op : Option Operation)
    (lock : Option LockoutCause) (s : State) :
    (changeStep i new cause op lock s).supervisor.steps[j].slotHeld =
      if i = j then (op.map Operation.slotHeld).getD false else s.supervisor.steps[j].slotHeld := by
  rw [changeStep_steps]
  split <;> rfl

theorem releasing_mem_changeStep {i : Fin 8} {new : StepState} {cause : StateCause} {op : Option Operation}
    {lock : Option LockoutCause} {s : State} {r : StepReport}
    (hr : Instr.controlStepReport r ∈ (changeStep i new cause op lock s).mail)
    (hrel : releasing (.controlStepReport r) = true) :
    Instr.controlStepReport r ∈ s.mail ∨ r.step = i ∧ s.supervisor.steps[i].slotHeld = true := by
  obtain ⟨r', hstep, hfilter⟩ := changeStep_filter_releasing i new cause op lock s
  have hmem := List.mem_filter.2 ⟨hr, hrel⟩
  rw [hfilter, List.mem_append] at hmem
  refine hmem.imp (fun hold => (List.mem_filter.1 hold).1) fun hnew => ?_
  split at hnew
  case isTrue hheld =>
    obtain rfl : r = r' := by simpa using hnew
    exact ⟨hstep, (Bool.and_eq_true_iff.1 hheld).1⟩
  case isFalse => cases hnew

/-- A step that changes its state without holding the slot in the new one hands its hold to the report. -/
theorem changeStep_slotCore {i : Fin 8} {new : StepState} {cause : StateCause} {op : Option Operation}
    {lock : Option LockoutCause} {s : State} (hnew : new ≠ .closing)
    (hop : (op.map Operation.slotHeld).getD false = false) (h : SlotCore s) :
    SlotCore (changeStep i new cause op lock s) := by
  obtain ⟨hclosing, hheld, hmail, hcount⟩ := h
  refine ⟨fun j hj => ?_, fun j hj => ?_, fun r hr hrel => ?_, ?_⟩
  · rw [changeStep_stepState] at hj
    rw [changeStep_slotHeld]
    split at hj
    · exact absurd hj hnew
    · next hij => rw [if_neg hij]; exact hclosing j hj
  · rw [changeStep_slotHeld] at hj
    split at hj
    · cases hj.symm.trans hop
    · next hij =>
      rw [changeStep_stepState, if_neg hij, changeStep_holder]
      exact hheld j hj
  · rw [changeStep_holder]
    rcases releasing_mem_changeStep hr hrel with hold | ⟨hstep, hslot⟩
    · exact hmail r hold hrel
    · rw [hstep]
      exact (hheld i hslot).2
  · obtain ⟨r, -, hfilter⟩ := changeStep_filter_releasing i new cause op lock s
    have hsteps := countP_allSteps_update i (p := fun j => s.supervisor.steps[j].slotHeld)
      (q := fun j => (changeStep i new cause op lock s).supervisor.steps[j].slotHeld)
      fun j hj => by rw [changeStep_slotHeld, if_neg (Ne.symm hj)]
    rw [changeStep_slotHeld, if_pos rfl, hop] at hsteps
    rw [List.countP_eq_length_filter, hfilter, List.length_append, ← List.countP_eq_length_filter]
    cases hslot : s.supervisor.steps[i].slotHeld with
    | false =>
      simp only [hslot, Bool.false_and] at hsteps ⊢
      simp only [Bool.false_eq_true, if_false, Nat.add_zero, List.length_nil] at hsteps ⊢
      rw [hsteps]
      exact hcount
    | true =>
      have hstate := (hheld i hslot).1
      simp only [hslot, Bool.true_and] at hsteps ⊢
      have hone : (if (decide (s.stepState i = .closing) || decide (s.stepState i = .opening)) = true then
          [Instr.controlStepReport r] else []).length = 1 := by simp [hstate]
      rw [hone]
      simp only [if_true, Bool.false_eq_true, if_false] at hsteps
      omega

theorem NoHold.congr {s t : State} (h : NoHold s) (hsup : t.supervisor = s.supervisor)
    (hmail : (t.mail.filter releasing).Sublist (s.mail.filter releasing)) : NoHold t := by
  refine ⟨fun i => ?_, fun i => ?_, fun m hm => Bool.eq_false_iff.2 fun hrel => ?_⟩
  · unfold State.stepState
    rw [hsup]
    exact h.closing i
  · rw [hsup]
    exact h.slotHeld i
  · have hm := List.mem_filter.1 (hmail.subset (List.mem_filter.2 ⟨hm, hrel⟩))
    cases hrel.symm.trans (h.mail m hm.1)

/-- R100: a step that starts its operation with the slot is the one that holds it. -/
theorem NoHold.operateStep_slotCore {i : Fin 8} {new : StepState} {op : Operation} {s : State} {x : Holder}
    (h : NoHold s) (hnew : new = .closing ∨ new = .opening) (hop : op.slotHeld = true)
    (hholder : s.switching.holder = some x) (htarget : x.target = stepUnit i) : SlotCore (operateStep i new op s) := by
  unfold operateStep
  refine ⟨fun j hj => ?_, fun j hj => ?_, fun r hr hrel => ?_, ?_⟩
  · rw [changeStep_stepState] at hj
    rw [changeStep_slotHeld]
    split at hj
    · next hij => rw [if_pos hij]; exact hop
    · exact absurd hj (h.closing j)
  · rw [changeStep_slotHeld] at hj
    split at hj
    · next hij =>
      subst hij
      rw [changeStep_stepState, if_pos rfl, changeStep_holder]
      exact ⟨hnew, x, hholder, htarget⟩
    · cases hj.symm.trans (h.slotHeld j)
  · rcases releasing_mem_changeStep hr hrel with hold | ⟨-, hslot⟩
    · cases hrel.symm.trans (h.mail _ hold)
    · cases hslot.symm.trans (h.slotHeld i)
  · obtain ⟨r, -, hfilter⟩ := changeStep_filter_releasing i new op.cause (some op) none s
    have hmail : s.mail.filter releasing = [] := List.filter_eq_nil_iff.2 fun m hm => by simp [h.mail m hm]
    have hnone : allSteps.countP (fun j => s.supervisor.steps[j].slotHeld) = 0 :=
      List.countP_eq_zero.2 fun j _ => by rw [h.slotHeld j]; nofun
    have hsteps := countP_allSteps_update i (p := fun j => s.supervisor.steps[j].slotHeld)
      (q := fun j => (changeStep i new op.cause (some op) none s).supervisor.steps[j].slotHeld)
      fun j hj => by rw [changeStep_slotHeld, if_neg (Ne.symm hj)]
    rw [hnone, changeStep_slotHeld, if_pos rfl] at hsteps
    rw [List.countP_eq_length_filter, hfilter, hmail, h.slotHeld i]
    simp only [Bool.false_and, Bool.false_eq_true, if_false, List.append_nil, List.length_nil]
    split at hsteps <;> split at hsteps <;> omega

theorem grantTo_slotCore {u : Fin 9} {k : CmdKind} {reason : Option Reason} {s : State}
    (hfree : s.switching.holder = none) (h : SlotCore s) : SlotCore (grantTo u k reason s) := by
  have hno : NoHold (s.updSwitching fun w => { w with holder := some { target := u, kind := k, reason := reason } }) :=
    (h.noHold (by rw [hfree]; nofun)).congr rfl (.refl _)
  unfold grantTo startOperation
  split
  next i hi =>
    unfold closeStart
    split
    · exact hand_slotCore rfl (hno.operateStep_slotCore (.inl rfl) rfl rfl (unitStep_eq_some.1 hi))
    · exact hno.slotCore
  next i hi =>
    unfold openStart
    split
    · exact hand_slotCore rfl (hno.operateStep_slotCore (.inr rfl) rfl rfl (unitStep_eq_some.1 hi))
    · exact hno.slotCore
  · exact hand_slotCore rfl hno.slotCore

theorem releaseIncomer_slotCore {s : State} (h : SlotCore s) : SlotCore (releaseSlot incomer s) := by
  unfold releaseSlot
  split
  next x hx =>
    split
    next htarget =>
      have hno : NoHold s := h.noHold fun y hy i htarget' => by
        cases hx.symm.trans hy
        exact stepUnit_ne_incomer i (htarget'.symm.trans htarget)
      exact (hno.congr (t := s.updSwitching _) rfl (.refl _)).slotCore
    next => exact h
  next => exact h

theorem handLoading_slotCore {i : Fin 8} {s : State} (h : SlotCore s) : SlotCore (handLoading i s) := by
  have hload := (loadDischarge_sameBut i s).slotCore (by simp) (by simp) (by simp) h
  unfold handLoading
  dsimp only
  split
  · exact changeStep_slotCore nofun rfl hload
  · exact hload

theorem Move.slotCore {s t : State} (hmove : Move s t) (h : SlotCore s) : SlotCore t := by
  cases hmove with
  | hand _ _ hm => exact hand_slotCore hm h
  | take => exact dropMail_slotCore h
  | change _ _ _ _ _ _ hnew hop => exact changeStep_slotCore hnew hop h
  | load => exact handLoading_slotCore h
  | grant _ _ _ _ hfree => exact grantTo_slotCore hfree h
  | release => exact releaseIncomer_slotCore h
  | switching f _ _ hholder => exact h.congr rfl hholder (.refl _)
  | step i f _ hstate hslot =>
    have hstates (j : Fin 8) : (s.updStep i f).stepState j = s.stepState j := by
      rw [State.stepState_eq, State.updStep_steps]
      split
      · next hij => subst hij; exact hstate
      · rfl
    have hslots (j : Fin 8) : (s.updStep i f).supervisor.steps[j].slotHeld = s.supervisor.steps[j].slotHeld := by
      rw [State.updStep_steps]
      split
      · next hij => subst hij; exact hslot
      · rfl
    unfold SlotCore
    simp only [hstates, hslots]
    exact h
  | other _ _ hst => exact hst.slotCore (by simp) (by simp) (by simp) h
  | port => exact (setPort_sameBut _ _ _).slotCore (by simp) (by simp) (by simp) h
  | log | acknowledge | link | duty | seconds | memory | tick => exact h

end Sys2Proof.Machine


namespace Sys2Proof.Machine

/-- R128: while the report that is to release the slot is taken, the holder record still names its step, and nothing else
holds the slot. -/
structure Releasing (u : Fin 9) (s : State) : Prop where
  noHold : NoHold s
  holder : ∃ x, s.switching.holder = some x ∧ x.target = u

theorem Releasing.congr {u : Fin 9} {s t : State} (h : Releasing u s) (hsup : t.supervisor = s.supervisor)
    (hholder : t.switching.holder = s.switching.holder)
    (hmail : (t.mail.filter releasing).Sublist (s.mail.filter releasing)) : Releasing u t :=
  ⟨h.noHold.congr hsup hmail, hholder ▸ h.holder⟩

theorem SameBut.slotReleasing {ps : List Part} {u : Fin 9} {s t : State} (hst : SameBut ps s t) (hsup : .supervisor ∉ ps)
    (hswitching : .switching ∉ ps) (hmail : .mail ∉ ps) (h : Releasing u s) : Releasing u t := by
  have heq : t.mail = s.mail := hst.same .mail hmail
  exact h.congr (hst.same .supervisor hsup) (congrArg _ (hst.switching_eq hswitching)) (heq ▸ .refl _)

theorem changeStep_slotReleasing {u : Fin 9} {i : Fin 8} {new : StepState} {cause : StateCause} {op : Option Operation}
    {lock : Option LockoutCause} {s : State} (hnew : new ≠ .closing)
    (hop : (op.map Operation.slotHeld).getD false = false) (h : Releasing u s) :
    Releasing u (changeStep i new cause op lock s) := by
  refine ⟨⟨fun j => ?_, fun j => ?_, fun m hm => Bool.eq_false_iff.2 fun hrel => ?_⟩, changeStep_holder _ _ _ _ _ s ▸ h.holder⟩
  · rw [changeStep_stepState]
    split
    · exact hnew
    · exact h.noHold.closing j
  · rw [changeStep_slotHeld]
    split
    · exact hop
    · exact h.noHold.slotHeld j
  · obtain ⟨r, rfl, -⟩ := (releasing_iff m).1 hrel
    rcases releasing_mem_changeStep hm hrel with hold | ⟨-, hslot⟩
    · cases hrel.symm.trans (h.noHold.mail _ hold)
    · cases hslot.symm.trans (h.noHold.slotHeld i)

theorem Move.slotReleasing {u : Fin 9} {s t : State} (hu : u ≠ incomer) (hmove : Move s t) (h : Releasing u s) :
    Releasing u t := by
  obtain ⟨x, hx, htarget⟩ := h.holder
  cases hmove with
  | hand m _ hm => exact h.congr rfl rfl (by simp [hm])
  | take m => exact h.congr rfl rfl (List.erase_sublist.filter _)
  | change _ _ _ _ _ _ hnew hop => exact changeStep_slotReleasing hnew hop h
  | load i =>
    have hload := (loadDischarge_sameBut i s).slotReleasing (by simp) (by simp) (by simp) h
    unfold handLoading
    dsimp only
    split
    · exact changeStep_slotReleasing nofun rfl hload
    · exact hload
  | grant _ _ _ _ hfree => cases hx.symm.trans hfree
  | release =>
    have hkept : releaseSlot incomer s = s := by
      unfold releaseSlot
      rw [hx]
      exact if_neg (htarget ▸ hu)
    rw [hkept]
    exact h
  | switching f _ _ hholder => exact h.congr rfl hholder (.refl _)
  | step i f _ hstate hslot =>
    refine ⟨⟨fun j => ?_, fun j => ?_, h.noHold.mail⟩, h.holder⟩
    · rw [State.stepState_eq, State.updStep_steps]
      split
      · next hij => subst hij; exact hstate ▸ h.noHold.closing i
      · exact h.noHold.closing j
    · rw [State.updStep_steps]
      split
      · next hij => subst hij; exact hslot.trans (h.noHold.slotHeld i)
      · exact h.noHold.slotHeld j
  | other _ _ hst => exact hst.slotReleasing (by simp) (by simp) (by simp) h
  | port => exact (setPort_sameBut _ _ _).slotReleasing (by simp) (by simp) (by simp) h
  | log | acknowledge | link | duty | seconds | memory | tick => exact h.congr rfl rfl (.refl _)

theorem Moves.slotReleasing {u : Fin 9} {s t : State} (hu : u ≠ incomer) (hmoves : Moves s t) (h : Releasing u s) :
    Releasing u t := by
  induction hmoves with
  | refl => exact h
  | tail _ hmove ih => exact hmove.slotReleasing hu ih

theorem Moves.slotCore {s t : State} (hmoves : Moves s t) (h : SlotCore s) : SlotCore t := by
  induction hmoves with
  | refl => exact h
  | tail _ hmove ih => exact hmove.slotCore ih

theorem Turn.slotCore {s t : State} (hturn : Turn s t) (h : SlotCore s) : SlotCore t := by
  cases hturn with
  | move hmove => exact hmove.slotCore h
  | operate _ _ _ r _ hr =>
    exact ((makeRoom_moves hr).slotCore h).congr rfl rfl (.refl _)
  | beginStore | copy | endStore => exact h

theorem Turns.slotCore {s t : State} (hturns : Turns s t) (h : SlotCore s) : SlotCore t := by
  induction hturns with
  | refl => exact h
  | tail _ hturn ih => exact hturn.slotCore ih

/-- The report that releases the slot, taken from the mail. -/
theorem dropMail_slotReleasing {r : StepReport} {s : State} (h : SlotCore s) (hmem : Instr.controlStepReport r ∈ s.mail)
    (hrel : releasing (.controlStepReport r) = true) :
    Releasing (stepUnit r.step) (s.dropMail (.controlStepReport r)) := by
  obtain ⟨hclosing, -, hmail, hcount⟩ := h
  have hpos : 0 < s.mail.countP releasing := List.countP_pos_iff.2 ⟨_, hmem, hrel⟩
  have hslot (i : Fin 8) : s.supervisor.steps[i].slotHeld = false := by
    have hzero : allSteps.countP (fun i => s.supervisor.steps[i].slotHeld) = 0 := by omega
    simpa using List.countP_eq_zero.1 hzero i (mem_allSteps i)
  have herase : (s.mail.erase (.controlStepReport r)).countP releasing = 0 := by
    rw [List.countP_erase]
    simp only [hmem, hrel, and_self, if_true]
    omega
  refine ⟨⟨fun i hi => ?_, hslot, fun m hm => ?_⟩, hmail r hmem hrel⟩
  · cases (hclosing i hi).symm.trans (hslot i)
  · simpa using List.countP_eq_zero.1 herase m hm

theorem releaseSlot_slotCore {u : Fin 9} {s : State} (h : Releasing u s) : SlotCore (releaseSlot u s) := by
  obtain ⟨x, hx, htarget⟩ := h.holder
  unfold releaseSlot
  rw [hx]
  simp only [htarget, if_true]
  exact (h.noHold.congr (t := s.updSwitching _) rfl (.refl _)).slotCore

theorem startSwitching_holder (s : State) : (startSwitching s).switching.holder = s.switching.holder := by
  unfold startSwitching
  split <;> rfl

theorem startUp_slotCore {k : ResetKind} {xs : List Strike} {s : State}
    (hnone : ∀ i : Fin 8, s.supervisor.steps[i].slotHeld = false) (h : SlotCore s) : SlotCore (startUp k xs s) := by
  have hearly := startEarly_sameBut k xs s
  have hstart : SlotCore (startEarly k xs s) := hearly.slotCore (by simp) (by simp) (by simp) h
  have hslot (i : Fin 8) : (startEarly k xs s).supervisor.steps[i].slotHeld = false := by
    have hsup : (startEarly k xs s).supervisor = s.supervisor := hearly.same .supervisor (by simp)
    rw [hsup]
    exact hnone i
  rw [startUp_eq]
  generalize startEarly k xs s = u at hstart hslot
  have hsteps : SlotCore (allSteps.foldl startStep u) := by
    obtain ⟨hclosing, -, hmail, hcount⟩ := hstart
    obtain ⟨-, -, hall⟩ := startSteps_supervisor allSteps u
    have hsame := SameBut.foldl startStep_sameBut allSteps u
    have hmails : (allSteps.foldl startStep u).mail = u.mail := hsame.same .mail (by simp)
    have hslots (i : Fin 8) : (allSteps.foldl startStep u).supervisor.steps[i].slotHeld = false :=
      (hall i).2.trans (hslot i)
    have hzero : allSteps.countP (fun i => (allSteps.foldl startStep u).supervisor.steps[i].slotHeld) = 0 :=
      List.countP_eq_zero.2 fun i _ => by rw [hslots i]; nofun
    refine ⟨fun i hi => ?_, fun i hi => ?_, ?_, ?_⟩
    · rcases (hall i).1 with heq | heq
      · cases (hclosing i (heq.symm.trans hi)).symm.trans (hslot i)
      · cases heq.symm.trans hi
    · cases hi.symm.trans (hslots i)
    · rw [hmails, hsame.switching_eq (by simp)]
      exact hmail
    · rw [hmails, hzero]
      omega
  have hmiddle := (startMiddle_moves _).slotCore hsteps
  refine (startLate_moves _).slotCore ?_
  generalize startMiddle (allSteps.foldl startStep u) = v at hmiddle
  have hsame := startSwitching_sameBut v
  have hmail : (startSwitching v).mail = v.mail := hsame.same .mail (by simp)
  exact hmiddle.congr (hsame.same .supervisor (by simp)) (startSwitching_holder _) (hmail ▸ .refl _)

theorem resetPart_supervisor (k : ResetKind) (s : State) : (resetPart k s).supervisor = State.reset.supervisor := rfl

theorem resetPart_mail (k : ResetKind) (s : State) : (resetPart k s).mail = [] := rfl

theorem exec_slotCore {c : Instr} {s t : State} (hreset : s.phase ≠ .running → ∀ i : Fin 8, s.supervisor.steps[i].slotHeld = false)
    (hc : releasing c = true → c ∈ s.mail) (h : SlotCore s) (hexec : exec c s = .next t) : SlotCore t := by
  obtain ⟨t', ht', hran⟩ := exec_ran c s
  cases ht'.symm.trans hexec
  cases hran with
  | turns hturns => exact hturns.slotCore h
  | @report a _ r hcr ha hat =>
    refine hat.slotCore ?_
    split
    case isTrue hrel =>
      subst hcr
      exact releaseSlot_slotCore (ha.slotReleasing (stepUnit_ne_incomer _) (dropMail_slotReleasing h (hc hrel) hrel))
    case isFalse => exact ha.slotCore (dropMail_slotCore h)
  | reset k =>
    refine NoHold.slotCore ⟨fun i => ?_, fun i => ?_, ?_⟩
    · simp [State.stepState, resetPart_supervisor, State.reset, StepLive.reset]
    · simp [resetPart_supervisor, State.reset, StepLive.reset]
    · rw [resetPart_mail]
      exact fun _ hm => absurd hm List.not_mem_nil
  | startUp k xs hk => exact startUp_slotCore (hreset (by simp [hk])) h

theorem releasing_dueWhen {p : Bool} {d : Instr} (hd : releasing d = false) : ∀ c ∈ dueWhen p d, releasing c = false := by
  unfold dueWhen
  split
  · exact fun c hc => List.mem_singleton.1 hc ▸ hd
  · exact fun _ hc => absurd hc List.not_mem_nil

/-- No timer that is due releases the slot. -/
theorem releasing_dueTimers (s : State) : ∀ c ∈ dueTimers s, releasing c = false := by
  have hflat {α : Type} {l : List α} {f : α → List Instr} (hf : ∀ a, ∀ c ∈ f a, releasing c = false) :
      ∀ c ∈ l.flatMap f, releasing c = false := fun c hc => by
    obtain ⟨a, -, ha⟩ := List.mem_flatMap.1 hc
    exact hf a c ha
  have hrestart : ∀ c ∈ restartWaited s, releasing c = false := by
    unfold restartWaited
    split
    · exact releasing_dueWhen rfl
    · exact fun _ hc => absurd hc List.not_mem_nil
  have hloss (i : Fin 16) : ∀ c ∈ lossDue s i, releasing c = false := by
    unfold lossDue
    split
    · exact releasing_dueWhen rfl
    · exact fun _ hc => absurd hc List.not_mem_nil
  have hengine : ∀ c ∈ engineDue s, releasing c = false := by
    unfold engineDue
    simp only [List.forall_mem_append]
    exact ⟨releasing_dueWhen rfl, releasing_dueWhen rfl⟩
  have hduty (i : Fin 8) : ∀ c ∈ dutyDue s i, releasing c = false := by
    unfold dutyDue
    simp only [List.forall_mem_append]
    exact ⟨releasing_dueWhen rfl, releasing_dueWhen rfl⟩
  have hunit (u : Fin 9) : ∀ c ∈ unitDue s u, releasing c = false := by
    unfold unitDue
    simp only [List.forall_mem_append]
    exact ⟨⟨releasing_dueWhen rfl, releasing_dueWhen rfl⟩, releasing_dueWhen rfl⟩
  have hswitching : ∀ c ∈ switchingDue s, releasing c = false := by
    unfold switchingDue
    simp only [List.forall_mem_append]
    exact ⟨⟨⟨⟨releasing_dueWhen rfl, releasing_dueWhen rfl⟩, releasing_dueWhen rfl⟩, releasing_dueWhen rfl⟩, releasing_dueWhen rfl⟩
  have hreport : ∀ c ∈ reportDue s, releasing c = false := by
    unfold reportDue
    simp only [List.forall_mem_append]
    exact ⟨releasing_dueWhen rfl, releasing_dueWhen rfl⟩
  intro c hc
  unfold dueTimers at hc
  simp only [List.mem_append] at hc
  rcases hc with (((((((((hc | hc) | hc) | hc) | hc) | hc) | hc) | hc) | hc) | hc)
  · exact hrestart c hc
  · exact hflat hloss c hc
  · exact hengine c hc
  · exact releasing_dueWhen rfl c hc
  · exact hflat hduty c hc
  · exact hflat hunit c hc
  · exact hswitching c hc
  · exact releasing_dueWhen rfl c hc
  · exact hreport c hc
  · exact hflat (fun _ => releasing_dueWhen rfl) c hc

theorem exec_pending {c : Instr} {s t : State} (hexec : exec c s = .next t) : t.pending = s.pending := by
  obtain ⟨t', ht', hran⟩ := exec_ran c s
  cases ht'.symm.trans hexec
  cases hran with
  | turns hturns => exact hturns.phase_pending.2
  | @report a _ r _ ha hat =>
    have hrelease : (if releasing c then releaseSlot (stepUnit r.step) a else a).pending = a.pending := by
      split
      · exact (releaseSlot_sameBut _ _).same .pending (by simp)
      · rfl
    exact (hat.phase_pending.2.trans hrelease).trans ha.phase_pending.2
  | reset k hu => exact hu.phase_pending.2
  | startUp k xs hk =>
    rw [startUp_eq, (startLate_moves _).phase_pending.2, (startSwitching_sameBut _).same .pending (by simp),
      (startMiddle_moves _).phase_pending.2, (SameBut.foldl startStep_sameBut _ _).same .pending (by simp),
      (startEarly_sameBut k xs s).same .pending (by simp)]

/-- Settles O55: `exec_ran` names the next state of every command, and none of the four touches the queue. -/
theorem everyCommandCompletes : Obligations.EveryCommandCompletes := fun c s => by
  obtain ⟨t, ht, -⟩ := exec_ran c s
  exact ⟨t, ht, exec_pending ht⟩

theorem slotOk_kept {s t : State} (h : SlotOk s) (hstep : step s = .next t) : SlotOk t := by
  obtain ⟨hpending, hreset, hcore⟩ := h
  have hcore : SlotCore s := hcore
  refine ⟨?_, fun ht => ?_, show SlotCore t from ?_⟩
  · have hpend : t.pending = s.pending.tail := by
      unfold step at hstep
      split at hstep
      next c rest heq => exact (exec_pending hstep).trans (by rw [heq]; rfl)
      next heq =>
        unfold idle at hstep
        rw [heq]
        split at hstep
        next => cases hstep; exact heq
        next =>
          split at hstep
          next => exact (exec_pending hstep).trans heq
          next =>
            split at hstep
            next => exact (exec_pending hstep).trans heq
            next => cases hstep; exact heq
    rw [hpend]
    exact fun r hr => hpending r (List.mem_of_mem_tail hr)
  · rcases step_inReset hstep ht with ⟨hs, hsame⟩ | ⟨k, u, rfl⟩
    · have hsup : t.supervisor = s.supervisor := hsame.same .supervisor (by simp)
      rw [hsup]
      exact hreset hs
    · intro i
      simp [resetPart, State.reset, StepLive.reset]
  · unfold step at hstep
    split at hstep
    next c rest heq =>
      refine exec_slotCore (s := { s with pending := rest }) hreset (fun hrel => ?_) hcore hstep
      obtain ⟨r, rfl, -⟩ := (releasing_iff c).1 hrel
      exact absurd (heq ▸ List.mem_cons_self) (hpending r)
    next =>
      unfold idle at hstep
      split at hstep
      next => cases hstep; exact hcore
      next =>
        split at hstep
        next c rest heq => exact exec_slotCore hreset (fun _ => heq ▸ List.mem_cons_self) hcore hstep
        next =>
          split at hstep
          next c rest heq =>
            have hmem : c ∈ dueTimers s := heq ▸ List.mem_cons_self
            exact exec_slotCore hreset (fun hrel => by cases hrel.symm.trans (releasing_dueTimers s c hmem)) hcore hstep
          next => cases hstep; exact (Move.tick s).slotCore hcore

/-- Settles O59: the queue by the moves of switching control (`Move.queueMove`), with the room that an OPERATE was promised
kept through its reads (`Spare`); the slot by the moves (`Move.slotCore`), with the hold of a step that leaves its operation
passing to the report, whose release `Releasing` follows. -/
theorem queueKept : Obligations.QueueKept := ⟨fun _ _ => queueOk_kept, fun _ _ => slotOk_kept⟩

end Sys2Proof.Machine


namespace Sys2Proof.Machine

/-! ## Right after reset -/

theorem reset_slotOk : SlotOk State.reset := by
  refine ⟨fun _ => List.not_mem_nil, fun _ i => ?_, NoHold.slotCore ⟨fun i => ?_, fun i => ?_, fun _ hm => ?_⟩⟩
  · simp [State.reset, StepLive.reset]
  · simp [State.stepState, State.reset, StepLive.reset]
  · simp [State.reset, StepLive.reset]
  · exact absurd hm List.not_mem_nil

theorem reset_window_state (m : Fin 38) (w : Fin 2) : (State.reset.window m w).state = .free := by
  simp [State.window, State.reset, InputLive.reset, Window.empty]

theorem reset_engineOk : EngineOk State.reset := by
  have hfill (m : Fin 38) : State.reset.acceptance.inputs[m].fill = .unmapped := by
    simp [State.reset, InputLive.reset]
  have hnotice (m : Fin 38) : State.reset.engine.notices[m] = none := by
    simp [State.reset, EngineState.reset]
  have hqueue : State.reset.engine.queue = [] := rfl
  have hcomputing : State.reset.engine.computing = none := rfl
  refine ⟨fun _ => reset_window_state, List.nodup_nil, fun _ => rfl, fun m => ?_, fun m w => ?_, fun m => ?_,
    fun m v w _ hv => ?_, fun m waits hw => ?_⟩
  · simp [reset_window_state, hqueue]
  · simp [reset_window_state, hcomputing]
  · rw [hfill m]
    simp [reset_window_state]
  · simp [reset_window_state] at hv
  · cases (hnotice m).symm.trans hw

theorem streamLaw_defaults : streamLaw Tables.defaults.stream = true := by decide

theorem unitLaw_defaults : unitLaw Tables.defaults.unit = true := by decide

theorem reset_tablesOk : TablesOk State.reset :=
  ⟨fun _ => rfl, streamLaw_defaults, unitLaw_defaults, nofun, nofun⟩

/-- Settles O60: nothing waits, nothing is in progress, and every live field stands at its after-COLD value. -/
theorem invariantsAtReset : Obligations.InvariantsAtReset := by
  refine ⟨⟨Nat.zero_le _, by decide, nofun⟩, ⟨fun _ i => ?_, List.nodup_nil, List.nodup_nil, fun i => ?_, fun i => ?_⟩, ?_,
    ⟨fun _ => rfl, queueCore_of_empty rfl⟩, reset_slotOk, reset_engineOk, reset_tablesOk, fun i hi => ?_, fun i => ?_⟩
  · simp [State.stepState, State.reset, StepLive.reset]
  · simp [State.stepState, State.reset, StepLive.reset]
  · simp [State.stepState, State.reset, StepLive.reset]
  · exact ⟨atReset_portOk (p := PortState.reset), atReset_portOk (p := PortState.reset)⟩
  · simp [State.stepState, State.reset, StepLive.reset] at hi
  · simp only [State.reset, Fin.getElem_fin, Vector.getElem_replicate]
    exact ⟨Nat.zero_le _, Nat.zero_le _, Nat.zero_le _⟩

/-! ## Records, the age clock and the hold (chapter 02) -/

theorem harmonicEnergy_eq_sum (rms : Vector Nat 15) :
    harmonicEnergy rms = ((List.finRange 14).map fun h => rms[h.val + 1] ^ 2).sum := by
  have hdrop : rms.toList.drop 1 = (List.finRange 14).map fun h => rms[h.val + 1] := by
    refine List.ext_getElem (by simp) fun n h₁ h₂ => ?_
    simp
  have hfold (l : List Nat) (q : Nat) : l.foldl (fun q x => q + x * x) q = q + (l.map (· ^ 2)).sum := by
    induction l generalizing q with
    | nil => rfl
    | cons x l ih => simp only [List.foldl_cons, ih, List.map_cons, List.sum_cons]; ring
  rw [harmonicEnergy, hdrop, hfold, Nat.zero_add, List.map_map]
  rfl

/-- Settles O10: every field as the computation forms it; the energy is the sum over the orders 2 to 15. -/
theorem computedRecord : Obligations.ComputedRecord := by
  intro w nominal old
  refine ⟨rfl, rfl, rfl, ?_, ?_, fun h => ?_, rfl, rfl, fun hlow => ⟨?_, fun h => ?_⟩, fun hlow => ?_⟩
  · cases hw : w.mark <;> simp [computeRecord, qualityOf, hw]
  · simp [computeRecord, lowFundamentalOf]
  · simp [computeRecord, windowRms, rmsOf, magnitude, sq]
  · exact if_pos hlow
  · have hlow' : lowFundamentalOf nominal (windowRms w.values)[0] = true := hlow
    simp [computeRecord, hlow']
  · have hlow' : lowFundamentalOf nominal (windowRms w.values)[0] = false := hlow
    rw [← harmonicEnergy_eq_sum]
    simp [computeRecord, hlow', thdOf]

theorem exec_ageClockTick {s : State} (h : Ready s) :
    exec .ageClockTick s = .next (noteChange (s.dropMail .ageClockTick) (ageTick (s.dropMail .ageClockTick))) :=
  congrArg Host.Outcome.next (taking_ready h _ _ _)

/-- Settles O11. -/
theorem ageTickAndHoldExpiry : Obligations.AgeTickAndHoldExpiry :=
  ⟨fun _ h => exec_ageClockTick h, fun _ h => congrArg Host.Outcome.next (taking_ready h _ _ _)⟩

/-! ## Answers on counts (chapter 03) -/

theorem blockFromHeld_eq_true (i : Fin 15) (s : State) : blockFromHeld i s = true ↔
    ∃ (ph : Fin 3) (x : HeldRatios), s.harmonic.held[ph] = some x ∧
      s.memory.tables.harmonic[i].row.blockLevel ≤ limitValue x.ratios x.thd i := by
  unfold blockFromHeld
  rw [List.any_eq_true]
  constructor
  · rintro ⟨h, hmem, hx⟩
    obtain ⟨n, hn, rfl⟩ := List.getElem_of_mem hmem
    rw [Vector.length_toList] at hn
    cases hheld : s.harmonic.held[n] with
    | none => simp [hheld] at hx
    | some x => exact ⟨⟨n, hn⟩, x, hheld, by simpa [hheld] using hx⟩
  · rintro ⟨ph, x, hheld, hx⟩
    exact ⟨some x, by rw [← hheld]; simp, by simpa using hx⟩

theorem reformBlock_block {i : Fin 15} {s : State} (h : s.memory.tables.harmonic[i].damaged = false) (j : Fin 15) :
    (reformBlock s i).harmonic.block[j] = if i = j then blockFromHeld i s else s.harmonic.block[j] := by
  unfold reformBlock
  rw [h]
  simp [Vector.getElem_set, Fin.ext_iff]

theorem limitOfOrder_eq_some {h : Nat} {i : Fin 15} : limitOfOrder h = some i ↔ ∃ o : Fin 14, h = o.val + 2 ∧ i = orderRow o := by
  unfold limitOfOrder orderRow
  split
  next hrange =>
    constructor
    · rintro ⟨⟩
      exact ⟨⟨h - 2, by omega⟩, by simp; omega, rfl⟩
    · rintro ⟨o, rfl, rfl⟩
      simp
  next hrange =>
    constructor
    · nofun
    · rintro ⟨o, rfl, -⟩
      omega

theorem orderBlocked_eq_true (s : State) (h : Nat) :
    orderBlocked s h = true ↔ ∃ o : Fin 14, h = o.val + 2 ∧ blockTaken (orderRow o) s = true := by
  unfold orderBlocked
  cases hlimit : limitOfOrder h with
  | none =>
    simp only [Bool.false_eq_true, false_iff]
    rintro ⟨o, ho, -⟩
    cases hlimit.symm.trans (limitOfOrder_eq_some.2 ⟨o, ho, rfl⟩)
  | some i =>
    obtain ⟨o, rfl, rfl⟩ := limitOfOrder_eq_some.1 hlimit
    constructor
    · exact fun ht => ⟨o, rfl, ht⟩
    · rintro ⟨o', ho, ht⟩
      obtain rfl : o = o' := Fin.ext (by omega)
      exact ht

theorem orderSustained_eq_true (s : State) (h : Nat) : orderSustained s h = true ↔ ∃ o : Fin 14, h = o.val + 2 ∧
    s.memory.tables.harmonic[orderRow o].damaged = false ∧
      s.memory.tables.harmonic[orderRow o].row.pickup ≤ s.harmonic.sustain[o] := by
  unfold orderSustained
  split
  next hrange =>
    simp only [Bool.and_eq_true, Bool.not_eq_true', decide_eq_true_eq]
    constructor
    · exact fun ht => ⟨⟨h - 2, by omega⟩, by simp; omega, ht⟩
    · rintro ⟨o, rfl, ht⟩
      exact ht
  next hrange =>
    simp only [Bool.false_eq_true, false_iff]
    rintro ⟨o, rfl, -⟩
    omega

theorem countBlocked_eq_true (c : Fin 9) (s : State) : countBlocked c.val s = true ↔
    s.memory.tables.resonance[c].damaged = true ∨
    (∃ o : Fin 14, (o.val + 2) ∈ s.memory.tables.resonance[c].row.orders ∧ blockTaken (orderRow o) s = true) ∨
    (s.memory.tables.resonance[c].row.orders ≠ [] ∧ blockTaken 14 s = true) := by
  unfold countBlocked
  rw [dif_pos c.isLt]
  simp only [Bool.or_eq_true, or_assoc, List.any_eq_true, orderBlocked_eq_true, Bool.and_eq_true, decide_eq_true_eq]
  refine or_congr Iff.rfl (or_congr ⟨?_, ?_⟩ Iff.rfl)
  · rintro ⟨h, hmem, o, rfl, ht⟩
    exact ⟨o, hmem, ht⟩
  · rintro ⟨o, hmem, ht⟩
    exact ⟨_, hmem, o, rfl, ht⟩

theorem blockTaken_eq_true (i : Fin 15) (s : State) : blockTaken i s = true ↔
    s.memory.tables.harmonic[i].damaged = true ∨ s.harmonic.block[i] = true := by
  simp [blockTaken]

/-- Settles O13: each answer by the rows of its list, an order of a list being the row it names. -/
theorem harmonicAnswers : Obligations.HarmonicAnswers := by
  refine ⟨⟨fun i s h => ⟨?_, fun j hj => ?_⟩, fun s => rfl, fun c s => ?_⟩, fun o s => ?_, fun s n hn => ?_⟩
  · rw [reformBlock_block h, if_pos rfl]
    exact blockFromHeld_eq_true i s
  · rw [reformBlock_block h, if_neg (Ne.symm hj)]
  · rw [countBlocked_eq_true]
    simp only [blockTaken_eq_true]
    rfl
  · simp [updateSustain, sustainStep, orderRow, Config.sustainMax]
  · unfold detuneDue
    rw [← hn, dif_pos n.isLt]
    simp only [Bool.and_eq_true, Bool.or_eq_true, decide_eq_true_eq, Bool.not_eq_true', List.any_eq_true,
      orderSustained_eq_true, and_assoc, or_assoc]
    refine and_congr Iff.rfl (and_congr Iff.rfl (and_congr ⟨?_, ?_⟩ Iff.rfl))
    · rintro ⟨h, hmem, o, rfl, ht⟩
      exact ⟨o, hmem, ht⟩
    · rintro ⟨o, hmem, ht⟩
      exact ⟨_, hmem, o, rfl, ht⟩

theorem reformNextCount_eq (s : State) :
    let n := nextCount s
    let v : State := { s with harmonic := { s.harmonic with nextCount := n, nextBlocked := countBlocked n s } }
    reformNextCount s =
      if s.harmonic.nextBlocked = false ∧ countBlocked n s = true then logEvent .resonanceBlockOn .none (some n) v
      else if s.harmonic.nextBlocked = true ∧ countBlocked n s = false then logEvent .resonanceBlockOff .none (some n) v
      else v := by
  simp only [reformNextCount, setNextCount, Bool.not_eq_true']

theorem isEnergised_iff (x : StepState) : isEnergised x = true ↔ x = .inService ∨ x = .closing := by simp [isEnergised]

/-- Settles O14. -/
theorem harmonicStepReport : Obligations.HarmonicStepReport := by
  intro r s hs s₀ u n v
  have hexec : exec (.harmonicStepReport r) s = .next (noteChange s₀ (harmonicReport r s₀)) :=
    congrArg Host.Outcome.next (taking_ready hs _ _ _)
  have hu : (if (r.old = .inService ∨ r.new = .inService) ∧ s₀.inCount ≠ s₀.harmonic.countSeen then
      { clearSustain s₀ with harmonic := { (clearSustain s₀).harmonic with countSeen := s₀.inCount } } else s₀) = u := rfl
  have hcount : nextCount u = n := by
    show u.energisedCount + 1 = _
    have : u.supervisor = s.supervisor := by
      simp only [u]
      split <;> rfl
    unfold State.energisedCount State.countIn State.stepState
    rw [this]
    rfl
  have hblocked : u.harmonic.nextBlocked = s.harmonic.nextBlocked := by
    simp only [u]
    split <;> rfl
  refine ⟨fun hmoves => ?_, fun hstays => ?_⟩
  · rw [hexec]
    congr 2
    unfold harmonicReport
    dsimp only
    rw [hu, if_pos (by simpa only [isEnergised_iff, or_assoc] using hmoves), reformNextCount_eq, hcount, hblocked]
  · rw [hexec]
    have hreport : harmonicReport r s₀ = s₀ := by
      unfold harmonicReport
      dsimp only
      rw [if_neg, if_neg]
      · exact fun hin => hstays (hin.1.elim .inl fun h => .inr (.inr (.inl h)))
      · simpa only [isEnergised_iff, or_assoc] using hstays
    rw [hreport, noteChange_self]

end Sys2Proof.Machine


namespace Sys2Proof.Machine

/-! ## A command taken by a part that is ready -/

section
variable {c : Instr} {uses : State → List RowRef} {body : State → State} {s : State}

theorem exec_of_body (hexec : exec c s = .next (taking c uses body s)) (hs : Ready s) {t : State}
    (hbody : body (s.dropMail c) = t) : exec c s = .next (noteChange (s.dropMail c) t) := by
  rw [hexec, taking_ready hs, hbody]

/-- A command whose body does nothing leaves its message taken and nothing else. -/
theorem exec_of_body_self (hexec : exec c s = .next (taking c uses body s)) (hs : Ready s)
    (hbody : body (s.dropMail c) = s.dropMail c) : exec c s = .next (s.dropMail c) := by
  rw [exec_of_body hexec hs hbody, noteChange_self]

end

/-! ## Updates of one entry -/

theorem upd_upd {α : Type} {n : Nat} (v : Vector α n) (i : Fin n) (f g : α → α) :
    upd (upd v i f) i g = upd v i (g ∘ f) := by
  simp [upd]

theorem State.updStep_updStep (i : Fin 8) (f g : StepLive → StepLive) (s : State) :
    (s.updStep i f).updStep i g = s.updStep i (g ∘ f) := by
  simp only [State.updStep, upd_upd]

theorem logEvent_updStep (k : EventKind) (x : Subject) (v : Option Nat) (i : Fin 8) (f : StepLive → StepLive) (s : State) :
    (logEvent k x v s).updStep i f = logEvent k x v (s.updStep i f) := rfl

/-! ## The duty monitor's timers (chapter 05) -/

/-- Settles O22: the duty bar by its row's limit and base; the operation report is its count and its timer as one update. -/
theorem operationsAndDutyBar : Obligations.OperationsAndDutyBar := by
  intro i s row d
  refine ⟨fun hdamaged => if_pos hdamaged, fun hwhole => ⟨fun hlimit hbar => ?_, fun hlimit hbar => ?_,
    fun hlimit hbase hbar => ?_, fun hlimit hkept => ?_⟩, ?_⟩
  · have hbar : s.duty.steps[i].dutyBar = false := hbar
    simp only [reformDutyBar, hwhole, hbar, Bool.false_eq_true, if_false]
    exact if_pos hlimit
  · have hbar : s.duty.steps[i].dutyBar = true := hbar
    simp only [reformDutyBar, hwhole, hbar, Bool.false_eq_true, if_false, if_true]
    exact if_pos hlimit
  · have hbar : s.duty.steps[i].dutyBar = true := hbar
    simp only [reformDutyBar, hwhole, hbar, Bool.false_eq_true, if_false, if_true]
    rw [if_neg (Nat.not_le.2 hlimit)]
    exact if_pos hbase
  · have hlimit : s.duty.steps[i].operations < (s.stepRow i).opsLimit := hlimit
    simp only [reformDutyBar, hwhole, Bool.false_eq_true, if_false, if_neg (Nat.not_le.2 hlimit)]
    rcases hkept with hbase | hbar
    · exact if_neg (Nat.not_le.2 hbase)
    · have hbar : s.duty.steps[i].dutyBar = false := hbar
      rw [hbar]
      exact ite_self s
  · simp only [operationReport, Option.isNone_iff_eq_none, Config.operationsMax, decayTime]
    rfl

theorem setMode_heatModeOf (x : StepState) (d : DutyLive) : d.setMode (heatModeOf x) =
    if x = .inService ∨ x = .closing ∨ x = .opening ∨ x = .failed then { d with mode := .service }
    else { d with mode := .cooldown, lastP := 0, heatTripOperated := false } := by
  cases x <;> rfl

/-- Settles O21: a timer that is RUNNING runs out, one that is STOPPED does nothing. -/
theorem stepTimersAndHeatMode : Obligations.StepTimersAndHeatMode := by
  refine ⟨?discharge, ?decay, ?mode⟩
  case discharge =>
    intro i s hs s₀
    have hexec : exec (.dischargeTimerExpiry i) s = .next (taking (.dischargeTimerExpiry i) noRows (dischargeExpiry i) s) := rfl
    exact ⟨fun hrun => exec_of_body hexec hs (if_pos (Option.isSome_iff_ne_none.2 hrun)),
      fun hstop => exec_of_body_self hexec hs (if_neg fun hsome => Option.isSome_iff_ne_none.1 hsome hstop)⟩
  case decay =>
    intro i s hs s₀ period
    have hexec : exec (.decayTimerExpiry i) s = .next (taking (.decayTimerExpiry i) (decayUses i) (decayExpiry i) s) := rfl
    exact ⟨fun hrun => exec_of_body hexec hs (if_pos (Option.isSome_iff_ne_none.2 hrun)),
      fun hstop => exec_of_body_self hexec hs (if_neg fun hsome => Option.isSome_iff_ne_none.1 hsome hstop)⟩
  case mode =>
    intro r s hs
    have hexec : exec (.heatModeChange r) s = .next (taking (.heatModeChange r) noRows (takeHeatMode r) s) := rfl
    exact exec_of_body hexec hs
      (congrArg (fun f => (s.dropMail (.heatModeChange r)).updDuty r.step f) (funext (setMode_heatModeOf r.new)))

/-! ## Operations of a step (chapter 06) -/

/-- Settles O24. -/
theorem discharge : Obligations.Discharge := by
  refine ⟨fun i s => ⟨fun hready => if_pos hready, fun hready => if_neg hready⟩, ?_⟩
  intro i s hs s₀
  have hexec : exec (.dischargedReport i) s = .next (taking (.dischargedReport i) noRows (takeDischarged i) s) := rfl
  refine ⟨fun hcool hzero => exec_of_body hexec hs (if_pos ⟨hcool, hzero⟩),
    fun hnot => exec_of_body_self hexec hs (if_neg fun ⟨hcool, hzero⟩ => ?_)⟩
  exact hnot.elim (fun hne => hne hcool) fun hpos => Nat.ne_of_gt hpos hzero

theorem handLoading_duty (i : Fin 8) (s : State) : (handLoading i s).duty = (loadDischarge i s).duty := by
  unfold handLoading
  dsimp only
  split
  · exact (changeStep_sameBut _ _ _ _ _ _).same .duty (by simp)
  · rfl

/-- R82, R92: a step whose discharge timer has just been loaded comes to rest in COOLING. -/
theorem restStep_handLoading (i : Fin 8) (cause : StateCause) (s : State) :
    restStep i cause (handLoading i s) = moveStep i .cooling cause (handLoading i s) := by
  have hload : (loadDischarge i s).duty.steps[i].discharge ≠ none := by
    unfold loadDischarge
    dsimp only
    rw [State.updDuty_steps, if_pos rfl]
    nofun
  have hpos : 0 < dischargeRemaining i (handLoading i s) := by
    rw [Nat.pos_iff_ne_zero, dischargeRemaining, handLoading_duty, Ne, remaining_eq_zero]
    exact hload
  unfold restStep restingState
  rw [if_pos hpos]

/-- A report that resolves a step: its positions and the end of its resolution are one update. -/
theorem takePosition_of_due {i : Fin 8} {pos : Position} {s : State} (hdue : s.supervisor.steps[i].resolutionDue = true) :
    takePosition i pos s = resolveStep i pos
      (if pos = .intermediate then logEvent .positionIntermediate (.step i) none (s.updStep i (StepLive.seePosition pos))
       else s.updStep i (StepLive.seePosition pos)) := by
  unfold takePosition
  dsimp only
  rw [hdue, Bool.or_true, if_pos rfl, Bool.true_or, Bool.not_true, Bool.and_false, if_neg Bool.false_ne_true, if_pos rfl]

/-- R94: the last position again, in a step that is not to be resolved. -/
theorem takePosition_of_same {i : Fin 8} {pos : Position} {s : State} (hdue : s.supervisor.steps[i].resolutionDue = false)
    (hlast : s.supervisor.steps[i].lastPosition = some pos) : takePosition i pos s = s := by
  unfold takePosition
  dsimp only
  rw [hdue, hlast, if_neg]
  simp only [ne_eq, not_true, decide_false, Bool.or_false, Bool.false_eq_true, not_false_iff]

/-- Settles O25. -/
theorem positionResolves : Obligations.PositionResolves := by
  intro i pos s hs s₀ x
  have hexec : exec (.positionReport i pos) s = .next (taking (.positionReport i pos) (positionUses i pos) (takePosition i pos) s) :=
    rfl
  refine ⟨fun hdue hlast => exec_of_body_self hexec hs (takePosition_of_same hdue hlast),
    fun hdue => ⟨?_, ?_, ?_⟩⟩
  · rintro rfl
    refine exec_of_body hexec hs ?_
    rw [takePosition_of_due (s := s.dropMail _) hdue]
    simp only [reduceCtorEq, if_false, resolveStep, State.updStep_updStep, restStep_handLoading]
    rfl
  · rintro rfl
    refine exec_of_body hexec hs ?_
    rw [takePosition_of_due (s := s.dropMail _) hdue]
    simp only [reduceCtorEq, if_false, resolveStep, State.updStep_updStep]
    rfl
  · rintro rfl
    refine exec_of_body hexec hs ?_
    rw [takePosition_of_due (s := s.dropMail _) hdue]
    simp only [if_true, resolveStep, logEvent_updStep, State.updStep_updStep]
    rfl

/-- R99: the copy of the supervision and the alarm that follows it, the alarm's new standing named. -/
theorem takeSupervision_eq {i : Fin 8} {sup : Supervision} {s : State} {stands : Bool}
    (hstands : decide (sup = .silent ∧ s.supervisor.steps[i].state ≠ .withdrawn) = stands) :
    takeSupervision i sup s =
      let u := s.updStep i fun y => { y with unitSupervision := sup, unsupervised := stands }
      if stands = true ∧ s.supervisor.steps[i].unsupervised = false then logEvent .positionUnsupervised (.step i) none u
      else if stands = false ∧ s.supervisor.steps[i].unsupervised = true then logEvent .positionSupervised (.step i) none u
      else u := by
  unfold takeSupervision
  dsimp only
  rw [hstands]
  cases stands <;> cases s.supervisor.steps[i].unsupervised <;> rfl

theorem takeBusy_self {r : BusyRefusal} {s : State}
    (hnot : ¬ ((r.kind = .close ∧ s.supervisor.steps[r.step].state = .closing) ∨
      (r.kind = .opn ∧ s.supervisor.steps[r.step].state = .opening ∧ s.supervisor.steps[r.step].opClass = some .control ∧
        s.supervisor.steps[r.step].slotHeld = true))) : takeBusy r s = s := by
  obtain ⟨hclose, hopen⟩ := not_or.1 hnot
  unfold takeBusy
  dsimp only
  split
  · next hkind => exact if_neg fun hx => hclose ⟨hkind, hx⟩
  · next hkind => exact if_neg fun hx => hopen ⟨hkind, hx⟩

/-- Settles O27. -/
theorem unitNotices : Obligations.UnitNotices := by
  refine ⟨?notice, ?busy⟩
  case notice =>
    intro i sup s hs s₀ x stands u
    refine exec_of_body (c := .unitSupervisionNotice i sup) rfl hs (takeSupervision_eq (Bool.decide_and ..))
  case busy =>
    intro r s hs c s₀ x rest
    have hexec : exec (.unitBusyRefusal r) s = .next (taking (.unitBusyRefusal r) noRows (takeBusy r) s) := rfl
    refine ⟨fun hkind hx => exec_of_body hexec hs ?_, fun hkind hx hcls hslot => exec_of_body hexec hs ?_,
      fun hnot => exec_of_body_self hexec hs (takeBusy_self hnot)⟩
    · unfold takeBusy
      rw [hkind]
      exact if_pos hx
    · unfold takeBusy
      rw [hkind]
      exact if_pos ⟨hx, hcls, hslot⟩

/-! ### A trip start and a lockout notice -/

section
variable {i : Fin 8} {k : TripCause} {s : State}

theorem takeTripStart_of_operable (h : s.stepState i = .inService ∨ s.stepState i = .closing) :
    takeTripStart i k s =
      operateStep i .opening { cls := .trip, cause := tripStateCause k, slotHeld := false } s := by
  unfold takeTripStart
  dsimp only
  rcases h with h | h <;> rw [show s.supervisor.steps[i].state = _ from h]

theorem takeTripStart_of_opening (h : s.stepState i = .opening) : takeTripStart i k s =
    if s.supervisor.steps[i].opClass = some .trip then s
    else s.updStep i fun y => { y with opClass := some .trip, opCause := some (tripStateCause k) } := by
  unfold takeTripStart
  dsimp only
  rw [show s.supervisor.steps[i].state = _ from h]

theorem takeTripStart_self (h : ¬ (s.stepState i = .inService ∨ s.stepState i = .closing ∨
    (s.stepState i = .opening ∧ s.supervisor.steps[i].opClass ≠ some .trip))) : takeTripStart i k s = s := by
  obtain ⟨hin, hclosing, hopening⟩ := by simpa only [not_or] using h
  unfold takeTripStart
  dsimp only
  split
  · next hx => exact absurd hx hin
  · next hx => exact absurd hx hclosing
  · next hx => exact if_pos (not_not.1 fun hcls => hopening ⟨hx, hcls⟩)
  · rfl

theorem raisePending_unbalance (p : Option LockoutCause) : raisePending .unbalance p =
    if p = some .settingsFault then some .settingsFault else some .unbalance := by
  rcases p with _ | _ | _ | _ | _ <;> rfl

theorem raisePending_closeFail (p : Option LockoutCause) : raisePending .closeFail p =
    if p = none ∨ p = some .breakerFail then some .closeFail else p := by
  rcases p with _ | _ | _ | _ | _ <;> rfl

theorem takeLockoutNotice_pending (h : s.stepState i = .inService ∨ s.stepState i = .closing ∨ s.stepState i = .opening ∨
    s.stepState i = .failed) : takeLockoutNotice i s = setPending i .unbalance s := by
  unfold takeLockoutNotice
  rcases h with h | h | h | h <;> rw [h]

theorem takeLockoutNotice_locks (h : s.stepState i = .cooling ∨ s.stepState i = .ready) :
    takeLockoutNotice i s = lockStep i .unbalance s := by
  unfold takeLockoutNotice
  rcases h with h | h <;> rw [h]

theorem takeLockoutNotice_self (h : s.stepState i = .lockout ∨ s.stepState i = .unresolved ∨ s.stepState i = .withdrawn) :
    takeLockoutNotice i s = s := by
  unfold takeLockoutNotice
  rcases h with h | h | h <;> rw [h]

end

/-- Settles O28. -/
theorem tripStartAndLockoutNotice : Obligations.TripStartAndLockoutNotice := by
  refine ⟨?trip, ?lockout⟩
  case trip =>
    intro i cause s hs s₀ st k
    have hexec : exec (.tripStart i cause) s = .next (taking (.tripStart i cause) noRows (takeTripStart i cause) s) := rfl
    have hk : tripStateCause cause = k := by cases cause <;> rfl
    refine ⟨fun hst => exec_of_body hexec hs ?_, fun hst hcls => exec_of_body hexec hs ?_,
      fun hnot => exec_of_body_self hexec hs (takeTripStart_self hnot)⟩
    · exact (takeTripStart_of_operable (s := s₀) hst).trans (by rw [hk]; rfl)
    · exact (takeTripStart_of_opening (s := s₀) hst).trans (by rw [hk]; exact if_neg hcls)
  case lockout =>
    intro i s hs s₀ st
    have hexec : exec (.unbalanceLockoutNotice i) s =
        .next (taking (.unbalanceLockoutNotice i) noRows (takeLockoutNotice i) s) := rfl
    refine ⟨fun hst => exec_of_body hexec hs ?_, fun hst => exec_of_body hexec hs (takeLockoutNotice_locks hst),
      fun hst => exec_of_body_self hexec hs (takeLockoutNotice_self hst)⟩
    refine (takeLockoutNotice_pending (s := s₀) hst).trans ?_
    simp only [setPending, raisePending_unbalance]

/-! ### The outcomes of a close and of an open -/

theorem passedResult_failed {o : CmdOutcome} (h : o ≠ .done) : passedResult o = .failed := by
  cases o with
  | done => exact absurd rfl h
  | _ => rfl

/-- Settles O29. -/
theorem closeOutcome : Obligations.CloseOutcome := by
  intro i o s hs c s₀
  have hexec : exec (.closeOutcome i o) s = .next (taking (.closeOutcome i o) (closeOutcomeUses i o) (takeCloseOutcome i o) s) := rfl
  refine ⟨?_, fun hst ho => exec_of_body hexec hs ?_, fun hst => exec_of_body_self hexec hs (if_neg hst)⟩
  · rintro hst rfl
    exact exec_of_body hexec hs (if_pos hst)
  · refine (if_pos hst).trans ?_
    rw [if_neg ho, passedResult_failed ho]
    simp only [failedClose, setPending, raisePending_closeFail]
    rfl

section
variable {i : Fin 8} {o : CmdOutcome} {s : State}

theorem openOutcomeMove_failed (ho : o ≠ .done) : openOutcomeMove i o s =
    hand (.captureTrigger .breakerFailure (some i)) (moveStep i .failed .openFail s) := by
  unfold openOutcomeMove
  dsimp only
  split
  · exact absurd rfl ho
  · exact absurd rfl ho
  · rfl

theorem openOutcomeMove_locks {p : LockoutCause} (hp : s.supervisor.steps[i].lockoutPending = some p) :
    openOutcomeMove i .done s = lockStep i p s := by
  unfold openOutcomeMove
  dsimp only
  rw [hp]

theorem openOutcomeMove_rests (hp : s.supervisor.steps[i].lockoutPending = none) :
    openOutcomeMove i .done s = restStep i (openedCause s.supervisor.steps[i]) s := by
  unfold openOutcomeMove
  dsimp only
  rw [hp]

end

theorem openedCause_eq {x : StepLive} {k : StateCause}
    (h : x.opClass = some .trip ∧ x.opCause = some k ∨ x.opClass ≠ some .trip ∧ k = .control) : openedCause x = k := by
  unfold openedCause
  rcases h with ⟨hcls, hcause⟩ | ⟨hcls, rfl⟩
  · rw [if_pos hcls, hcause]
    rfl
  · exact if_neg hcls

/-- Settles O30. -/
theorem openOutcome : Obligations.OpenOutcome := by
  intro i o s hs c s₀ x rest pass
  have hexec : exec (.openOutcome i o) s = .next (taking (.openOutcome i o) noRows (takeOpenOutcome i o) s) := rfl
  refine ⟨fun hst => ⟨?_, ?_, fun ho => exec_of_body hexec hs ((if_pos hst).trans ?_)⟩,
    fun hst => exec_of_body_self hexec hs (if_neg hst)⟩
  · rintro rfl p hp
    refine exec_of_body hexec hs ((if_pos hst).trans ?_)
    rw [openOutcomeMove_locks (s := s₀) hp]
    rfl
  · rintro rfl hp k hk
    refine exec_of_body hexec hs ((if_pos hst).trans ?_)
    rw [openOutcomeMove_rests (s := s₀) hp, openedCause_eq (x := s₀.supervisor.steps[i]) hk]
    rfl
  · rw [openOutcomeMove_failed ho, passedResult_failed ho]
    rfl

end Sys2Proof.Machine

namespace Sys2Proof.Machine

/-! ## A report of another position (R94, R96 to R98, R105) -/

/-- R94: the state that a report of another position acts on, the positions and the reports to the duty monitor in place. -/
def reported (i : Fin 8) (pos : Position) (s : State) : State :=
  let seen := s.updStep i (StepLive.seePosition pos)
  let told := if pos = .intermediate then logEvent .positionIntermediate (.step i) none seen else seen
  if s.supervisor.steps[i].lastPosition = none then told
  else dutyReports i pos s.supervisor.steps[i].settledPosition told

section
variable {i : Fin 8} {pos : Position} {s : State}

theorem takePosition_of_changed (hdue : s.supervisor.steps[i].resolutionDue = false)
    (hlast : s.supervisor.steps[i].lastPosition ≠ some pos) :
    takePosition i pos s = positionByState i pos (reported i pos s) := by
  unfold takePosition reported
  dsimp only
  rw [hdue, if_neg Bool.false_ne_true, decide_eq_true hlast, Bool.true_or, if_pos rfl, Bool.false_or, Bool.true_and]
  by_cases hfirst : s.supervisor.steps[i].lastPosition = none
  · rw [decide_eq_true hfirst, if_pos hfirst]
    rfl
  · rw [decide_eq_false hfirst, if_neg hfirst]
    rfl

/-- R94: the reports to the duty monitor, the operation report and then the loading. -/
theorem reported_eq : reported i pos s =
    let told := if pos = .intermediate
      then logEvent .positionIntermediate (.step i) none (s.updStep i (StepLive.seePosition pos))
      else s.updStep i (StepLive.seePosition pos)
    let counted := if s.supervisor.steps[i].lastPosition = none ∨ pos = .intermediate then told else operationReport i told
    if s.supervisor.steps[i].lastPosition ≠ none ∧ pos = .opened ∧ s.supervisor.steps[i].settledPosition = some .closed
    then handLoading i counted else counted := by
  unfold reported dutyReports
  by_cases hfirst : s.supervisor.steps[i].lastPosition = none
  · simp only [hfirst, if_true, true_or, ne_eq, not_true, false_and, if_false]
  · simp only [hfirst, if_false, false_or, ne_eq, not_false_iff, true_and]

/-- R82, R106: a loading changes no step, unless it takes one from READY to COOLING. -/
theorem handLoading_supervisor (h : (handLoading i s).stepState i ≠ .cooling) :
    (handLoading i s).supervisor = s.supervisor := by
  unfold handLoading at h ⊢
  dsimp only at h ⊢
  split at h
  · exact absurd ((changeStep_stepState i i .cooling .recharge none none _).trans (if_pos rfl)) h
  · next hready =>
    rw [if_neg hready]
    exact (loadDischarge_sameBut i s).same .supervisor (by simp)

/-- R94: but for a step that a loading has taken to COOLING, a step reported on keeps all but its positions. -/
theorem reported_step (h : (reported i pos s).stepState i ≠ .cooling) :
    (reported i pos s).supervisor.steps[i] = s.supervisor.steps[i].seePosition pos := by
  have hseen : (s.updStep i (StepLive.seePosition pos)).supervisor.steps[i] = s.supervisor.steps[i].seePosition pos :=
    (State.updStep_steps i i _ s).trans (if_pos rfl)
  rw [← hseen]
  have hsup : (reported i pos s).supervisor = (s.updStep i (StepLive.seePosition pos)).supervisor := by
    rw [reported_eq] at h ⊢
    dsimp only at h ⊢
    generalize htold : (if pos = .intermediate
      then logEvent .positionIntermediate (.step i) none (s.updStep i (StepLive.seePosition pos))
      else s.updStep i (StepLive.seePosition pos)) = told at h ⊢
    have htoldSup : told.supervisor = (s.updStep i (StepLive.seePosition pos)).supervisor := by
      rw [← htold]
      split <;> rfl
    rw [← htoldSup]
    generalize hcounted : (if s.supervisor.steps[i].lastPosition = none ∨ pos = .intermediate then told
      else operationReport i told) = counted at h ⊢
    have hcountedSup : counted.supervisor = told.supervisor := by
      rw [← hcounted]
      split
      · rfl
      · exact (operationReport_sameBut i told).same .supervisor (by simp)
    rw [← hcountedSup]
    split at h
    · next hload => rw [if_pos hload]; exact handLoading_supervisor h
    · next hload => rw [if_neg hload]
  rw [hsup]

/-! ### What the report does, by the step's state -/

theorem positionByState_uncommandedOpen (h : s.stepState i = .inService) :
    positionByState i .opened s = uncommandedOpen i s := by
  unfold positionByState
  rw [h]

theorem uncommandedOpen_locks {p : LockoutCause} (hp : s.supervisor.steps[i].lockoutPending = some p) :
    uncommandedOpen i s = lockStep i p s := by
  unfold uncommandedOpen
  rw [hp]

theorem uncommandedOpen_rests (hp : s.supervisor.steps[i].lockoutPending = none) :
    uncommandedOpen i s = restStep i .uncommandedOpen s := by
  unfold uncommandedOpen
  rw [hp]

theorem positionByState_uncommandedClose (h : s.stepState i = .cooling ∨ s.stepState i = .ready) :
    positionByState i .closed s = uncommandedClose i s := by
  unfold positionByState
  rcases h with h | h <;> rw [h]

theorem positionByState_failed (h : s.stepState i = .failed) : positionByState i .opened s = lockStep i .breakerFail s := by
  unfold positionByState
  rw [h]

theorem positionByState_outOfService (h : s.stepState i = .lockout ∨ s.stepState i = .withdrawn) :
    positionByState i pos s = outOfServiceReport i pos s := by
  unfold positionByState
  rcases h with h | h <;> rw [h]

theorem positionByState_self (h : pos = .intermediate ∨ s.stepState i = .closing ∨ s.stepState i = .opening ∨
    s.stepState i = .unresolved ∨ (s.stepState i = .inService ∧ pos = .closed) ∨
    ((s.stepState i = .cooling ∨ s.stepState i = .ready) ∧ pos = .opened) ∨
    (s.stepState i = .failed ∧ pos = .closed)) : positionByState i pos s = s := by
  unfold positionByState
  cases hst : s.stepState i <;> cases pos <;> simp_all only [reduceCtorEq, false_or, or_false, and_true, and_false] <;> rfl

end

/-- Settles O26. -/
theorem positionMoves : Obligations.PositionMoves := by
  intro i pos s hs c s₀ x hdue hlast seen told counted u
  have hexec : exec (.positionReport i pos) s = .next (taking (.positionReport i pos) (positionUses i pos) (takePosition i pos) s) :=
    rfl
  have htake : takePosition i pos s₀ = positionByState i pos (reported i pos s₀) := takePosition_of_changed hdue hlast
  have hstep := reported_step (i := i) (pos := pos) (s := s₀)
  have hu : reported i pos s₀ = u := reported_eq
  rw [hu] at htake hstep
  clear_value u
  have hpending : u.stepState i ≠ .cooling → u.supervisor.steps[i].lockoutPending = x.lockoutPending := fun h => by
    rw [hstep h]
    rfl
  refine ⟨?_, ?_, ?_, ?_, fun hst => ⟨?_, ?_⟩, fun hst => exec_of_body hexec hs (htake.trans (positionByState_self hst))⟩
  · rintro hst rfl p hp
    rw [← hpending (by rw [hst]; decide)] at hp
    exact exec_of_body hexec hs (htake.trans ((positionByState_uncommandedOpen hst).trans (uncommandedOpen_locks hp)))
  · rintro hst rfl hp
    rw [← hpending (by rw [hst]; decide)] at hp
    exact exec_of_body hexec hs (htake.trans ((positionByState_uncommandedOpen hst).trans (uncommandedOpen_rests hp)))
  · rintro hst rfl
    exact exec_of_body hexec hs (htake.trans (positionByState_uncommandedClose hst))
  · rintro hst rfl
    exact exec_of_body hexec hs (htake.trans (positionByState_failed hst))
  · rintro rfl
    have hcool : u.stepState i ≠ .cooling := by rcases hst with h | h <;> rw [h] <;> decide
    have hout : u.supervisor.steps[i].outOfServiceClose = x.outOfServiceClose := by
      rw [hstep hcool]
      rfl
    rw [← hout]
    exact exec_of_body hexec hs (htake.trans (positionByState_outOfService hst))
  · rintro rfl
    exact exec_of_body hexec hs (htake.trans (positionByState_outOfService hst))

/-! ## A change of state (R92, R93) -/

/-- R169: an entry stays while fewer than 255 younger ones stand behind it and one more is written. -/
theorem logEvent_keeps {k : EventKind} {x : Subject} {v : Option Nat} {s : State} {e : EventEntry} {old young : List EventEntry}
    (hyoung : young.length < 255) (h : s.events.entries = old ++ e :: young) :
    ∃ old' new, (logEvent k x v s).events.entries = old' ++ e :: (young ++ [new]) := by
  simp only [logEvent, h, decide_eq_true_eq]
  split
  · next hfull =>
    cases old with
    | nil =>
      simp only [Config.eventCapacity, List.nil_append, List.length_cons] at hfull
      omega
    | cons first old => exact ⟨old, _, List.append_assoc old (e :: young) _⟩
  · exact ⟨old, _, List.append_assoc old (e :: young) _⟩

theorem logAlarms_eq (i : Fin 8) (x y : StepLive) (s : State) : logAlarms i x y s =
    let told := if y.unsupervised = true ∧ x.unsupervised = false then logEvent .positionUnsupervised (.step i) none s
      else if y.unsupervised = false ∧ x.unsupervised = true then logEvent .positionSupervised (.step i) none s
      else s
    if y.outOfServiceClose = true then logEvent .closedOutOfService (.step i) none told else told := by
  unfold logAlarms
  cases y.unsupervised <;> cases x.unsupervised <;> rfl

theorem logAlarms_keeps {i : Fin 8} {x y : StepLive} {s : State} {e : EventEntry} {old : List EventEntry}
    (h : s.events.entries = old ++ [e]) : e ∈ (logAlarms i x y s).events.entries := by
  rw [logAlarms_eq]
  dsimp only
  generalize htold : (if y.unsupervised = true ∧ x.unsupervised = false
      then logEvent .positionUnsupervised (.step i) none s
      else if y.unsupervised = false ∧ x.unsupervised = true then logEvent .positionSupervised (.step i) none s
      else s) = told
  have hkept : ∃ old young, young.length < 2 ∧ told.events.entries = old ++ e :: young := by
    rw [← htold]
    split
    · obtain ⟨old', new, heq⟩ := logEvent_keeps (k := .positionUnsupervised) (x := .step i) (v := none) (by simp) h
      exact ⟨old', [new], by simp, heq⟩
    · split
      · obtain ⟨old', new, heq⟩ := logEvent_keeps (k := .positionSupervised) (x := .step i) (v := none) (by simp) h
        exact ⟨old', [new], by simp, heq⟩
      · exact ⟨old, [], by simp, h⟩
  obtain ⟨old', young, hyoung, heq⟩ := hkept
  split
  · obtain ⟨old'', new, heq'⟩ := logEvent_keeps (k := .closedOutOfService) (x := .step i) (v := none)
      (lt_trans hyoung (by decide)) heq
    rw [heq']
    simp
  · rw [heq]
    simp

section
variable (i : Fin 8) (new : StepState) (cause : StateCause) (op : Option Operation) (lock : Option LockoutCause) (s : State)

/-- R93, R98, R99: the events of a change of state: that of the state entered, then those of the alarms. -/
theorem changeStep_events : (changeStep i new cause op lock s).events =
    (logAlarms i s.supervisor.steps[i] (s.supervisor.steps[i].enter new op lock)
      (logEvent (stateEvent new) (.step i) (some (causeNumber cause)) s)).events := by
  rw [logAlarms_eq]
  unfold changeStep
  dsimp only [handReports, hand]
  rw [logAlarms_eq]
  dsimp only
  cases (s.supervisor.steps[i].enter new op lock).outOfServiceClose <;>
    cases (s.supervisor.steps[i].enter new op lock).unsupervised <;> cases s.supervisor.steps[i].unsupervised <;> rfl

theorem changeStep_step : (changeStep i new cause op lock s).supervisor.steps[i] = s.supervisor.steps[i].enter new op lock :=
  (changeStep_steps i i new cause op lock s).trans (if_pos rfl)

end

/-- Settles O23. -/
theorem stepChange : Obligations.StepChange := by
  intro i new cause op lock s x r rests t y
  have hy : y = x.enter new op lock := changeStep_step i new cause op lock s
  obtain ⟨hopen, hclosed⟩ := changeStep_lists i new cause op lock s
  have hevents := changeStep_events i new cause op lock s
  have hsame := changeStep_sameBut i new cause op lock s
  obtain ⟨r', hr', hmail⟩ : ∃ r', r' = r ∧ t.mail = s.mail ++
      [.heatModeChange r', .unbalanceStepReport r', .harmonicStepReport r', .controlStepReport r'] := by
    refine ⟨r, rfl, ?_⟩
    simp only [t, changeStep, handReports, hand_mail, logAlarms_mail, logEvent_mail, List.append_assoc, List.cons_append,
      List.nil_append]
    rfl
  have houtOfService : isOutOfService new || isResting new ↔
      new = .lockout ∨ new = .withdrawn ∨ new = .cooling ∨ new = .ready := by cases new <;> decide
  rw [hy]
  refine ⟨rfl, rfl, decide_eq_true_iff, ?_, ?_, ?_, decide_eq_true_iff, ?_, rfl, rfl, rfl, ?_, ?_, ?_, ?_, ?_, ?_, ?_⟩
  · rintro o rfl
    exact ⟨rfl, rfl, rfl⟩
  · rintro rfl
    exact ⟨rfl, rfl, rfl⟩
  · exact if_congr houtOfService rfl rfl
  · exact decide_eq_true_iff.trans (and_congr (by cases new <;> decide) Iff.rfl)
  · intro j hj
    exact (changeStep_steps i j new cause op lock s).trans (if_neg (Ne.symm hj))
  · refine hopen.trans ?_
    have hrests (st : StepState) : isResting st = rests st := by cases st <;> rfl
    unfold moveOpenList
    rw [hrests, hrests]
    rfl
  · exact hclosed
  · exact hr' ▸ hmail
  · have hentered := logAlarms_keeps (i := i) (x := x) (y := x.enter new op lock)
      (s := logEvent (stateEvent new) (.step i) (some (causeNumber cause)) s) rfl
    rw [← hevents] at hentered
    exact ⟨_, hentered, rfl, rfl, rfl, rfl, rfl⟩
  · exact hevents.trans (congrArg State.events (logAlarms_eq i x _ _))
  · exact hsame.mono (by simp)

end Sys2Proof.Machine

namespace Sys2Proof.Machine

/-! ## Null capture (R67 to R70) -/

section
variable {i : Fin 8} {c : NullContext} {record : ResultRecord} {s : State}

theorem abandonNull_serving (hc : s.unbalance.context = some c) (hi : c.step = i) :
    abandonNull i s = logEvent .nullAborted (.step i) (some c.counted)
      { s with unbalance := { s.unbalance with context := none } } := by
  unfold abandonNull
  rw [hc]
  exact if_pos hi

theorem abandonNull_other (h : ∀ c, s.unbalance.context = some c → c.step ≠ i) : abandonNull i s = s := by
  unfold abandonNull
  split
  · next c hc => exact if_neg (h c hc)
  · rfl

theorem offerNull_other (h : ∀ c, s.unbalance.context = some c → c.step ≠ i) : offerNull i record s = s := by
  unfold offerNull
  split
  · next c hc => exact if_neg (h c hc)
  · rfl

/-- A record offered to a capture that serves its step, by the record's quality. -/
theorem offerNull_serving (hc : s.unbalance.context = some c) (hi : c.step = i) : offerNull i record s =
    match record.quality with
    | .invalid => abandonNull i s
    | .doubtful => s
    | .good =>
      let next : NullContext :=
        { step := i, counted := c.counted + 1, sumR := c.sumR + record.r1, sumI := c.sumI + record.i1 }
      if 31 ≤ c.counted then completeNull next s
      else { s with unbalance := { s.unbalance with context := some next } } := by
  subst hi
  unfold offerNull
  rw [hc]
  dsimp only
  rw [if_pos rfl]
  cases record.quality with
  | good => exact if_congr Nat.succ_le_succ_iff rfl rfl
  | _ => rfl

end

/-- A step report at unbalance protection that is neither an entry into IN nor a departure from it. -/
theorem takeUnbalanceReport_self {r : StepReport} {s : State} (h : r.old = .inService ↔ r.new = .inService) :
    takeUnbalanceReport r s = s := by
  unfold takeUnbalanceReport
  rw [if_neg fun ⟨hold, hnew⟩ => hnew (h.1 hold), if_neg fun ⟨hold, hnew⟩ => hold (h.2 hnew)]

/-- Settles O17. -/
theorem nullCaptureAndStepReport : Obligations.NullCaptureAndStepReport := by
  refine ⟨?capture, ?report⟩
  case capture =>
    intro i c record s hc hi hcount hgood kr ki idle
    have hoffer := offerNull_serving (record := record) hc hi
    rw [hgood] at hoffer
    dsimp only at hoffer
    rw [if_pos (by rw [hcount])] at hoffer
    exact ⟨fun hok => hoffer.trans (if_pos hok), fun hout => hoffer.trans (if_neg hout)⟩
  case report =>
    intro r s hs i s₀ fresh u
    have hexec : exec (.unbalanceStepReport r) s =
        .next (taking (.unbalanceStepReport r) (unbalanceReportUses r) (takeUnbalanceReport r) s) := rfl
    refine ⟨fun hold hnew => exec_of_body hexec hs (if_pos ⟨hold, hnew⟩), fun hold hnew => ?_,
      fun hsame => exec_of_body_self hexec hs (takeUnbalanceReport_self hsame)⟩
    have henter : takeUnbalanceReport r s₀ = unbalanceEnter i s₀ :=
      (if_neg fun hleave => hold hleave.1).trans (if_pos ⟨hold, hnew⟩)
    refine ⟨fun hpresent hinvalid hclear => exec_of_body hexec hs (henter.trans (if_pos ⟨hpresent, hinvalid, ?_⟩)),
      fun hnot => exec_of_body_self hexec hs (henter.trans (if_neg fun ⟨hpresent, hinvalid, hclear⟩ => ?_))⟩
    · rw [show s₀.unbalance.steps[i].inputInvalid = false from hclear]
      rfl
    · rcases hnot with hnone | hvalid | hset
      · exact Bool.false_ne_true (hnone.symm.trans hpresent)
      · exact hvalid hinvalid
      · rw [show s₀.unbalance.steps[i].inputInvalid = true from hset] at hclear
        exact Bool.false_ne_true hclear

/-! ## An evaluation of unbalance protection (R58 to R63) -/

/-- The state with step `i`'s own unbalance state put to `x`. -/
def State.setUnbalance (i : Fin 8) (x : UnbalanceLive) (s : State) : State := s.updUnbalance i fun _ => x

section
variable {i : Fin 8} {x y : UnbalanceLive} {s : State}

theorem State.setUnbalance_self : s.setUnbalance i s.unbalance.steps[i] = s := by
  simp [State.setUnbalance, State.updUnbalance, upd]

theorem State.updUnbalance_setUnbalance (f : UnbalanceLive → UnbalanceLive) :
    (s.setUnbalance i x).updUnbalance i f = s.setUnbalance i (f x) := by
  simp [State.setUnbalance, State.updUnbalance, upd]

theorem State.setUnbalance_step : (s.setUnbalance i x).unbalance.steps[i] = x := State.updUnbalance_steps_same i s _

theorem logEvent_setUnbalance {k : EventKind} {z : Subject} {v : Option Nat} :
    logEvent k z v (s.setUnbalance i x) = (logEvent k z v s).setUnbalance i x := rfl

/-- R63: the input-invalid status and its event. -/
theorem judgeInputInvalid_setUnbalance (q : Quality) : judgeInputInvalid i q (s.setUnbalance i x) =
    (if q = .invalid ∧ x.inputInvalid = false then logEvent .unbalanceInputInvalid (.step i) none s else s).setUnbalance i
      { x with inputInvalid := q = .invalid } := by
  unfold judgeInputInvalid
  dsimp only
  rw [State.setUnbalance_step, State.updUnbalance_setUnbalance]
  cases x.inputInvalid <;> cases q <;> rfl

theorem formLastU_setUnbalance {record : ResultRecord} {u : Nat} : formLastU i record u (s.setUnbalance i x) =
    s.setUnbalance i { x with lastU := if record.quality = .invalid then x.lastU else some u } := by
  unfold formLastU
  split
  · rfl
  · exact State.updUnbalance_setUnbalance _

/-- R61: the alarm stage: its count, the alarm and the alarm's event. -/
theorem alarmStage_setUnbalance {row : StepRow} {q : Quality} {u : Nat} : alarmStage i row q u (s.setUnbalance i x) =
    (if stageOperates q u row.alarmLevel row.alarmDelay x.alarmCount = true ∧ x.alarm = false
      then logEvent .unbalanceAlarm (.step i) (some u) s
      else if q = .good ∧ u < row.alarmLevel * 15 / 16 ∧ x.alarm = true
      then logEvent .unbalanceAlarmClear (.step i) (some u) s
      else s).setUnbalance i
      { x with
        alarmCount := stageCounter q u row.alarmLevel x.alarmCount
        alarm := stageOperates q u row.alarmLevel row.alarmDelay x.alarmCount ||
          (x.alarm && !(q = .good && u < row.alarmLevel * 15 / 16)) } := by
  have hapart : stageOperates q u row.alarmLevel row.alarmDelay x.alarmCount = true →
      ¬ (q = .good ∧ u < row.alarmLevel * 15 / 16) := by
    intro hop ⟨hq, hlow⟩
    obtain ⟨-, hlevel, -⟩ := of_decide_eq_true hop
    omega
  unfold alarmStage
  dsimp only
  rw [State.setUnbalance_step, State.updUnbalance_setUnbalance, State.updUnbalance_setUnbalance,
    State.updUnbalance_setUnbalance]
  unfold resetThreshold
  generalize stageOperates q u row.alarmLevel row.alarmDelay x.alarmCount = operates at hapart
  obtain ⟨alarmCount, tripCount, alarm, tripOperated, inputInvalid, lastU⟩ := x
  cases alarm with
  | false => cases operates <;> simp [logEvent_setUnbalance]
  | true =>
    by_cases hlow : q = .good ∧ u < row.alarmLevel * 15 / 16
    · obtain ⟨rfl, hu⟩ := hlow
      rw [Bool.eq_false_iff.2 fun hop => hapart hop ⟨rfl, hu⟩]
      simp [hu, logEvent_setUnbalance]
    · have hkept : (!(decide (q = .good) && decide (u < row.alarmLevel * 15 / 16))) = true := by
        rw [← Bool.decide_and, decide_eq_false hlow]
        rfl
      rw [hkept, Bool.and_true, Bool.or_true]
      simp [hlow]

/-- R62: the trip stage, but for what its trip does. -/
theorem tripStage_setUnbalance {row : StepRow} {q : Quality} {u : Nat} : tripStage i row q u (s.setUnbalance i x) =
    if (stageOperates q u row.tripLevel row.tripDelay x.tripCount && !x.tripOperated) = true
    then abandonNull i (hand (.unbalanceLockoutNotice i) (hand (.captureTrigger .unbalanceTrip (some i))
      (hand (.commandRequest { unit := stepUnit i, kind := .opn, cls := .trip, cause := .unbalance })
        ((logEvent .unbalanceTrip (.step i) (some u) s).setUnbalance i
          { x with tripCount := stageCounter q u row.tripLevel x.tripCount, tripOperated := true }))))
    else s.setUnbalance i { x with tripCount := stageCounter q u row.tripLevel x.tripCount } := by
  unfold tripStage
  dsimp only
  rw [State.setUnbalance_step, State.updUnbalance_setUnbalance]
  refine if_congr (Bool.and_eq_true _ _ ▸ Iff.rfl) ?_ rfl
  unfold unbalanceTrip
  dsimp only
  rw [State.updUnbalance_setUnbalance, logEvent_setUnbalance]

end

theorem compensation_eq (row : StepRow) : compensation row =
    (if row.compMode = .none then 0 else row.kr, if row.compMode = .none then 0 else row.ki) := by
  unfold compensation
  cases row.compMode <;> rfl

theorem logEvent_events_congr {k : EventKind} {x : Subject} {v : Option Nat} {s t : State} (hevents : s.events = t.events)
    (htime : s.timebase = t.timebase) : (logEvent k x v s).events = (logEvent k x v t).events := by
  simp only [logEvent, hevents, htime]

theorem abandonNull_context {i : Fin 8} {s : State} {c : NullContext} (hc : (abandonNull i s).unbalance.context = some c) :
    c.step ≠ i := by
  intro hi
  by_cases h : ∀ c, s.unbalance.context = some c → c.step ≠ i
  · rw [abandonNull_other h] at hc
    exact h c hc hi
  · push Not at h
    obtain ⟨d, hd, hdi⟩ := h
    rw [abandonNull_serving hd hdi] at hc
    exact absurd hc (by nofun)

theorem offerNull_steps (i : Fin 8) (record : ResultRecord) (s : State) :
    (offerNull i record s).unbalance.steps = s.unbalance.steps := by
  by_cases h : ∀ c, s.unbalance.context = some c → c.step ≠ i
  · rw [offerNull_other h]
  · push Not at h
    obtain ⟨c, hc, hi⟩ := h
    rw [offerNull_serving hc hi]
    cases record.quality with
    | invalid => exact abandonNull_steps i s
    | doubtful => rfl
    | good =>
      dsimp only
      split
      · unfold completeNull
        dsimp only
        split <;> rfl
      · rfl

section
variable (i : Fin 8) (s : State)

/-- R59: U at the latest record of step `i`'s neutral input. -/
def evaluatedU : Nat := compensatedU (s.stepRow i) s.engine.results[stepInput i 3]

/-- R61: whether the alarm stage operates. -/
def evaluatedAlarms : Bool :=
  stageOperates s.engine.results[stepInput i 3].quality (evaluatedU i s) (s.stepRow i).alarmLevel (s.stepRow i).alarmDelay
    s.unbalance.steps[i].alarmCount

/-- R62: whether the trip stage operates, and trips. -/
def evaluatedTrips : Bool :=
  stageOperates s.engine.results[stepInput i 3].quality (evaluatedU i s) (s.stepRow i).tripLevel (s.stepRow i).tripDelay
    s.unbalance.steps[i].tripCount && !s.unbalance.steps[i].tripOperated

/-- R59, R61 to R63: the step's own unbalance state after an evaluation. -/
def evaluatedStep : UnbalanceLive :=
  let row := s.stepRow i
  let q := s.engine.results[stepInput i 3].quality
  let u := evaluatedU i s
  let x := s.unbalance.steps[i]
  { alarmCount := stageCounter q u row.alarmLevel x.alarmCount
    tripCount := stageCounter q u row.tripLevel x.tripCount
    alarm := evaluatedAlarms i s || (x.alarm && !(q = .good && u < row.alarmLevel * 15 / 16))
    tripOperated := evaluatedTrips i s || x.tripOperated
    inputInvalid := q = .invalid
    lastU := if q = .invalid then x.lastU else some u }

/-- The events of the input-invalid status and of the alarm, in this order. -/
def evaluatedAlarmed : State :=
  let x := s.unbalance.steps[i]
  let q := s.engine.results[stepInput i 3].quality
  let u := evaluatedU i s
  let invalid := if q = .invalid ∧ x.inputInvalid = false then logEvent .unbalanceInputInvalid (.step i) none s else s
  if evaluatedAlarms i s = true ∧ x.alarm = false then logEvent .unbalanceAlarm (.step i) (some u) invalid
  else if q = .good ∧ u < (s.stepRow i).alarmLevel * 15 / 16 ∧ x.alarm = true then
    logEvent .unbalanceAlarmClear (.step i) (some u) invalid
  else invalid

/-- The events of the evaluation, the trip's the last, but for those of a null capture. -/
def evaluatedTold : State :=
  if evaluatedTrips i s then logEvent .unbalanceTrip (.step i) (some (evaluatedU i s)) (evaluatedAlarmed i s)
  else evaluatedAlarmed i s

/-- What an evaluation leaves, but for what becomes of a null capture. -/
def evaluated : State :=
  (if evaluatedTrips i s then
    hand (.unbalanceLockoutNotice i) (hand (.captureTrigger .unbalanceTrip (some i))
      (hand (.commandRequest { unit := stepUnit i, kind := .opn, cls := .trip, cause := .unbalance }) (evaluatedTold i s)))
   else evaluatedTold i s).setUnbalance i (evaluatedStep i s)

variable {i s}

theorem unbalanceEvaluate_eq (h : s.stepState i = .inService ∧ (s.stepRow i).neutralPresent = true ∧ s.stepDamaged i = false) :
    unbalanceEvaluate i s = if evaluatedTrips i s then abandonNull i (evaluated i s)
      else offerNull i s.engine.results[stepInput i 3] (evaluated i s) := by
  obtain ⟨hin, hpresent, hwhole⟩ := h
  unfold unbalanceEvaluate
  dsimp only
  rw [if_pos ⟨hin, hpresent, by rw [hwhole]; rfl⟩]
  conv_lhs => rw [← State.setUnbalance_self (i := i) (s := s)]
  have hx : (s.setUnbalance i s.unbalance.steps[i]).engine = s.engine := rfl
  rw [hx]
  rw [judgeInputInvalid_setUnbalance, formLastU_setUnbalance, alarmStage_setUnbalance, tripStage_setUnbalance]
  by_cases htrips : evaluatedTrips i s = true
  · rw [if_pos htrips]
    refine (congrArg _ (if_pos htrips)).trans ?_
    rw [offerNull_other fun c hc => abandonNull_context hc]
    simp only [evaluated, evaluatedStep, evaluatedTold, htrips, Bool.true_or]
    rfl
  · rw [if_neg htrips]
    refine (congrArg _ (if_neg htrips)).trans ?_
    rw [Bool.not_eq_true] at htrips
    simp only [evaluated, evaluatedStep, evaluatedTold, htrips, Bool.false_eq_true, if_false, Bool.false_or]
    rfl

theorem evaluatedTold_sameBut : SameBut [.eventList] s (evaluatedTold i s) := by
  simp only [evaluatedTold, evaluatedAlarmed]
  simp (disch := decide) only [SameBut.refl_iff, SameBut.ite_iff, logEvent_iff, implies_true, and_self]

theorem evaluated_unbalance : (evaluated i s).unbalance =
    { s.unbalance with steps := s.unbalance.steps.set i (evaluatedStep i s) } := by
  have htold : (evaluatedTold i s).unbalance = s.unbalance := evaluatedTold_sameBut.same .unbalance (by simp)
  unfold evaluated State.setUnbalance
  rw [State.updUnbalance_unbalance]
  split <;> simp only [hand_unbalance, htold] <;> rfl

theorem evaluated_mail : (evaluated i s).mail = s.mail ++ (if evaluatedTrips i s then
    [.commandRequest { unit := stepUnit i, kind := .opn, cls := .trip, cause := .unbalance },
      .captureTrigger .unbalanceTrip (some i), .unbalanceLockoutNotice i] else []) := by
  have htold : (evaluatedTold i s).mail = s.mail := evaluatedTold_sameBut.same .mail (by simp)
  unfold evaluated State.setUnbalance
  rw [State.updUnbalance_mail]
  split
  · simp only [hand_mail, htold, List.append_assoc, List.cons_append, List.nil_append]
  · rw [htold, List.append_nil]

theorem evaluated_events : (evaluated i s).events = (evaluatedTold i s).events := by
  unfold evaluated State.setUnbalance
  rw [State.updUnbalance_events]
  split <;> rfl

theorem evaluated_sameBut : SameBut [.eventList, .mail, .unbalance] s (evaluated i s) := by
  unfold evaluated State.setUnbalance
  rw [State.updUnbalance_iff _ _ _ (by simp)]
  split
  · rw [hand_iff _ _ (by simp), hand_iff _ _ (by simp), hand_iff _ _ (by simp)]
    exact evaluatedTold_sameBut.mono (by simp)
  · exact evaluatedTold_sameBut.mono (by simp)

end

theorem stageOperates_eq (q : Quality) (u level delay count : Nat) : stageOperates q u level delay count =
    (decide (q = .good) && decide (level ≤ u) && decide (delay ≤ stageCounter .good u level count)) := by
  cases q with
  | good => simp [stageOperates]
  | _ => rfl

/-- Settles O16: the evaluation up to the null capture is `evaluated`, then the capture by the record's quality. -/
theorem unbalanceEvaluation : Obligations.UnbalanceEvaluation := by
  intro i s row record x kr ki u alarms trips t
  refine ⟨fun hnot => if_neg fun ⟨hin, hpresent, hwhole⟩ => hnot ⟨hin, hpresent, by simpa using hwhole⟩, fun h => ?_⟩
  have hu : evaluatedU i s = u := by simp only [evaluatedU, compensatedU, compensation_eq]; rfl
  have halarms : evaluatedAlarms i s = alarms := by simp only [evaluatedAlarms, stageOperates_eq, hu]; rfl
  have htrips : evaluatedTrips i s = trips := by simp only [evaluatedTrips, stageOperates_eq, hu]; rfl
  have heval : t = if trips then abandonNull i (evaluated i s) else offerNull i record (evaluated i s) :=
    htrips ▸ unbalanceEvaluate_eq h
  have hsteps : t.unbalance.steps = s.unbalance.steps.set i (evaluatedStep i s) := by
    rw [heval]
    split
    · rw [abandonNull_steps, evaluated_unbalance]
    · rw [offerNull_steps, evaluated_unbalance]
  have hmail : t.mail = (evaluated i s).mail := by
    rw [heval]
    split
    · exact (abandonNull_sameBut i _).same .mail (by simp)
    · exact (offerNull_sameBut i record _).same .mail (by simp)
  have hcontext : (evaluated i s).unbalance.context = s.unbalance.context := by rw [evaluated_unbalance]
  have hmemory : (evaluated i s).memory = s.memory := evaluated_sameBut.same .memory (by simp)
  have htimebase : (evaluated i s).timebase = (evaluatedTold i s).timebase :=
    (evaluated_sameBut.same .timebase (by simp)).trans (evaluatedTold_sameBut.same .timebase (by simp)).symm
  have hlog (k : EventKind) (z : Subject) (v : Option Nat) :
      (logEvent k z v (evaluated i s)).events = (logEvent k z v (evaluatedTold i s)).events :=
    logEvent_events_congr evaluated_events htimebase
  refine ⟨?_, fun j hj => ?_, hmail.trans (htrips ▸ evaluated_mail), (unbalanceEvaluate_sameBut i s).mono (by simp), ?_⟩
  · rw [hsteps]
    refine (Vector.getElem_set_self i.isLt).trans ?_
    simp only [evaluatedStep, hu, halarms, htrips]
    rfl
  · rw [hsteps]
    exact Vector.getElem_set_ne i.isLt j.isLt fun hij => hj (Fin.ext hij.symm)
  intro invalid alarmed e left
  have he : evaluatedTold i s = e := by simp only [evaluatedTold, evaluatedAlarmed, hu, halarms, htrips]; rfl
  rw [he] at hlog
  refine ⟨fun hother => ?_, fun c hc hi => ?_⟩
  · have hsame : t = evaluated i s := by
      rw [← hcontext] at hother
      rw [heval, abandonNull_other hother, offerNull_other hother, ite_self]
    exact ⟨hsame ▸ hcontext, hsame ▸ hmemory, hsame ▸ evaluated_events.trans (congrArg _ he)⟩
  intro sumR sumI mr mi ok
  have hserving : (evaluated i s).unbalance.context = some c := hcontext.trans hc
  have habandon : t = abandonNull i (evaluated i s) → left none s.memory (logEvent .nullAborted (.step i) (some c.counted) e) := by
    intro ht
    rw [abandonNull_serving hserving hi] at ht
    exact ⟨ht ▸ rfl, ht ▸ hmemory, ht ▸ hlog _ _ _⟩
  have hoffer := fun hquiet : trips = false =>
    (heval.trans (if_neg (Bool.eq_false_iff.1 hquiet))).trans (offerNull_serving (record := record) hserving hi)
  refine ⟨fun hgone => habandon ?_, fun hdoubtful => ?_, fun hgood hquiet => ?_⟩
  · by_cases hquiet : trips = true
    · exact heval.trans (if_pos hquiet)
    · have ht := hoffer (Bool.eq_false_iff.2 hquiet)
      rwa [hgone.resolve_left hquiet] at ht
  · have hquiet : trips = false := by simp only [trips, hdoubtful]; rfl
    have ht := hoffer hquiet
    rw [hdoubtful] at ht
    exact ⟨ht ▸ hserving, ht ▸ hmemory, ht ▸ evaluated_events.trans (congrArg _ he)⟩
  · have ht := hoffer hquiet
    rw [hgood] at ht
    dsimp only at ht
    refine ⟨fun hcount => ?_, fun hcount hok => ?_, fun hcount hout => ?_⟩
    · rw [if_neg (Nat.not_le.2 hcount)] at ht
      exact ⟨ht ▸ rfl, ht ▸ hmemory, ht ▸ evaluated_events.trans (congrArg _ he)⟩
    · replace ht := (ht.trans (if_pos hcount)).trans (if_pos hok)
      refine ⟨ht ▸ rfl, ?_, ht ▸ hlog _ _ _⟩
      rw [ht, logEvent_memory]
      simp only [State.putTables, State.stepRow, hmemory]
      rfl
    · replace ht := (ht.trans (if_pos hcount)).trans (if_neg hout)
      exact ⟨ht ▸ rfl, ht ▸ hmemory, ht ▸ hlog _ _ _⟩

end Sys2Proof.Machine

namespace Sys2Proof.Machine

/-! ## The heat update (R77, R80, R81) -/

/-- The state with step `i`'s own duty state put to `d`. -/
def State.setDuty (i : Fin 8) (d : DutyLive) (s : State) : State := s.updDuty i fun _ => d

section
variable {i : Fin 8} {d : DutyLive} {row : StepRow} {s : State}

theorem State.updDuty_eq_setDuty (f : DutyLive → DutyLive) : s.updDuty i f = s.setDuty i (f s.duty.steps[i]) := rfl

theorem State.updDuty_setDuty (f : DutyLive → DutyLive) : (s.setDuty i d).updDuty i f = s.setDuty i (f d) := by
  simp [State.setDuty, State.updDuty, upd]

theorem State.setDuty_step : (s.setDuty i d).duty.steps[i] = d := (State.updDuty_steps i i _ s).trans (if_pos rfl)

theorem logEvent_setDuty {k : EventKind} {z : Subject} {v : Option Nat} :
    logEvent k z v (s.setDuty i d) = (logEvent k z v s).setDuty i d := rfl

/-- R80: the event of the heat alarm at heat `h`, judged against the alarm `was`. -/
def heatAlarmTold (i : Fin 8) (row : StepRow) (h : Nat) (was : Bool) (s : State) : State :=
  if row.heatAlarm ≤ h ∧ was = false then logEvent .heatAlarm (.step i) (some h) s
  else if h ≤ row.heatReclose ∧ was = true then logEvent .heatAlarmClear (.step i) (some h) s
  else s

/-- R80: the heat alarm judged, and its event. -/
theorem judgeHeatAlarm_setDuty : judgeHeatAlarm i row (s.setDuty i d) =
    (heatAlarmTold i row d.heat d.heatAlarm s).setDuty i { d with
      heatAlarm := if row.heatAlarm ≤ d.heat ∧ d.heatAlarm = false then true
        else if d.heat ≤ row.heatReclose ∧ d.heatAlarm = true then false else d.heatAlarm } := by
  unfold judgeHeatAlarm heatAlarmTold
  dsimp only
  rw [State.setDuty_step, State.updDuty_setDuty, State.updDuty_setDuty]
  simp only [Bool.not_eq_true']
  split
  · rfl
  · split <;> rfl

theorem heatAlarmTold_sameBut (h : Nat) (was : Bool) : SameBut [.eventList] s (heatAlarmTold i row h was s) := by
  unfold heatAlarmTold
  simp (disch := decide) only [SameBut.refl_iff, SameBut.ite_iff, logEvent_iff, implies_true, and_self]

end

/-- Of the phase energies present, the largest (R77 step 1). -/
theorem largest_phaseEnergy (rs : List ResultRecord) : largest (rs.map phaseEnergy) =
    if rs.filter (fun r => r.quality ≠ .invalid) = [] then none
    else some (((rs.filter fun r => r.quality ≠ .invalid).map fun r => (r.rms.toList.map fun x => x * x).sum).foldl max 0) := by
  have henergy (r : ResultRecord) : r.rms.toList.foldl (fun e x => e + x * x) 0 = (r.rms.toList.map fun x => x * x).sum := by
    rw [List.sum_eq_foldl, List.foldl_map]
  have hfold : ∀ (rs : List ResultRecord) (m : Option Nat), (rs.map phaseEnergy).foldl (fun m e => match m, e with
      | some a, some b => some (max a b)
      | some a, none => some a
      | none, e => e) m =
      if m = none ∧ rs.filter (fun r => r.quality ≠ .invalid) = [] then none
      else some (((rs.filter fun r => r.quality ≠ .invalid).map fun r =>
        (r.rms.toList.map fun x => x * x).sum).foldl max (m.getD 0)) := by
    intro rs
    induction rs with
    | nil => intro m; cases m <;> rfl
    | cons r rs ih =>
      intro m
      rw [List.map_cons, List.foldl_cons, ih]
      by_cases hq : r.quality = .invalid
      · cases m <;> simp [phaseEnergy, hq]
      · cases m <;> simp [phaseEnergy, hq, henergy]
  exact (hfold rs none).trans (by simp)

section
variable (i : Fin 8) (s : State)

/-- R77: the load figure that an update of step `i` takes. -/
def updatedLoad : Nat :=
  match largest ((phaseRecords i s).map phaseEnergy) with
  | some e => loadFigure (s.stepRow i).rated e
  | none => s.duty.steps[i].lastP

/-- R77: the heat that an update of step `i` leaves. -/
def updatedHeat : Nat := heatToward s.duty.steps[i].heat (updatedLoad i s) (s.stepRow i).thermalCode

/-- R81: whether the update trips. -/
def updateTrips : Bool :=
  (s.stepRow i).heatTrip ≤ updatedHeat i s && (phaseRecords i s).all (fun r => r.quality = .good) &&
    (s.stepState i = .inService || s.stepState i = .closing || s.stepState i = .opening) &&
    !s.duty.steps[i].heatTripOperated

/-- R77, R80, R81: the step's own duty state after an update. -/
def updatedDuty : DutyLive :=
  let d := s.duty.steps[i]
  let row := s.stepRow i
  let h := updatedHeat i s
  { d with
    lastP := updatedLoad i s
    heat := h
    heatAlarm := if row.heatAlarm ≤ h ∧ d.heatAlarm = false then true
      else if h ≤ row.heatReclose ∧ d.heatAlarm = true then false else d.heatAlarm
    heatTripOperated := updateTrips i s || d.heatTripOperated }

/-- R80, R81: the events of the alarm and of the trip. -/
def updateTold : State :=
  let alarmed := heatAlarmTold i (s.stepRow i) (updatedHeat i s) s.duty.steps[i].heatAlarm s
  if updateTrips i s then logEvent .heatTrip (.step i) (some (updatedHeat i s)) alarmed else alarmed

/-- What an update leaves, but for a null capture that its trip ends. -/
def heatUpdated : State :=
  (if updateTrips i s then
    hand (.captureTrigger .heatTrip (some i))
      (hand (.commandRequest { unit := stepUnit i, kind := .opn, cls := .trip, cause := .overheat }) (updateTold i s))
   else updateTold i s).setDuty i (updatedDuty i s)

variable {i s}

theorem judgeHeatTrip_setDuty {d : DutyLive} {row : StepRow} (due : Bool) (hdue : heatTripDue i row (s.setDuty i d) = due) :
    judgeHeatTrip i row (s.setDuty i d) = if due then abandonNull i (hand (.captureTrigger .heatTrip (some i))
      (hand (.commandRequest { unit := stepUnit i, kind := .opn, cls := .trip, cause := .overheat })
        ((logEvent .heatTrip (.step i) (some d.heat) s).setDuty i { d with heatTripOperated := true })))
    else s.setDuty i d := by
  unfold judgeHeatTrip
  rw [hdue]
  dsimp only
  rw [State.setDuty_step, State.updDuty_setDuty, logEvent_setDuty]

theorem heatUpdate_eq (h : s.duty.steps[i].mode = .service ∧ s.stepDamaged i = false) :
    heatUpdate i s = if updateTrips i s then abandonNull i (heatUpdated i s) else heatUpdated i s := by
  obtain ⟨hmode, hwhole⟩ := h
  unfold heatUpdate
  dsimp only
  rw [if_pos ⟨hmode, by rw [hwhole]; rfl⟩, State.updDuty_eq_setDuty]
  rw [judgeHeatAlarm_setDuty]
  have htold := heatAlarmTold_sameBut (i := i) (row := s.stepRow i) (s := s) (updatedHeat i s) s.duty.steps[i].heatAlarm
  have hdue : heatTripDue i (s.stepRow i) ((heatAlarmTold i (s.stepRow i) (updatedHeat i s) s.duty.steps[i].heatAlarm
      s).setDuty i { s.duty.steps[i] with
        lastP := updatedLoad i s
        heat := updatedHeat i s
        heatAlarm := if (s.stepRow i).heatAlarm ≤ updatedHeat i s ∧ s.duty.steps[i].heatAlarm = false then true
          else if updatedHeat i s ≤ (s.stepRow i).heatReclose ∧ s.duty.steps[i].heatAlarm = true then false
          else s.duty.steps[i].heatAlarm }) = updateTrips i s := by
    unfold heatTripDue
    rw [State.setDuty_step]
    have hsup : (heatAlarmTold i (s.stepRow i) (updatedHeat i s) s.duty.steps[i].heatAlarm s).supervisor = s.supervisor :=
      htold.same .supervisor (by simp)
    have hengine : (heatAlarmTold i (s.stepRow i) (updatedHeat i s) s.duty.steps[i].heatAlarm s).engine = s.engine :=
      htold.same .engine (by simp)
    unfold State.stepState State.setDuty phaseRecords
    rw [State.updDuty_supervisor, State.updDuty_engine, hsup, hengine]
    simp only [Bool.decide_and, Bool.decide_or, Bool.decide_eq_true, ← Bool.and_assoc, ← Bool.or_assoc]
    rfl
  refine (judgeHeatTrip_setDuty _ hdue).trans ?_
  by_cases htrips : updateTrips i s = true
  · rw [if_pos htrips, if_pos htrips]
    simp only [heatUpdated, updatedDuty, updateTold, htrips, if_true, Bool.true_or]
    rfl
  · rw [if_neg htrips, if_neg htrips]
    rw [Bool.not_eq_true] at htrips
    simp only [heatUpdated, updatedDuty, updateTold, htrips, Bool.false_eq_true, if_false, Bool.false_or]

theorem updateTold_sameBut : SameBut [.eventList] s (updateTold i s) := by
  unfold updateTold
  dsimp only
  split
  · rw [logEvent_iff _ _ _ _ (by simp)]
    exact heatAlarmTold_sameBut _ _
  · exact heatAlarmTold_sameBut _ _

theorem heatUpdated_sameBut : SameBut [.eventList, .mail, .duty] s (heatUpdated i s) := by
  unfold heatUpdated State.setDuty
  rw [State.updDuty_iff _ _ _ (by simp)]
  split
  · rw [hand_iff _ _ (by simp), hand_iff _ _ (by simp)]
    exact updateTold_sameBut.mono (by simp)
  · exact updateTold_sameBut.mono (by simp)

theorem heatUpdated_duty : (heatUpdated i s).duty.steps = s.duty.steps.set i (updatedDuty i s) := by
  have htold : (updateTold i s).duty = s.duty := updateTold_sameBut.same .duty (by simp)
  unfold heatUpdated State.setDuty
  rw [State.updDuty_duty]
  split <;> simp only [hand_duty, htold] <;> rfl

theorem heatUpdated_mail : (heatUpdated i s).mail = s.mail ++ (if updateTrips i s then
    [.commandRequest { unit := stepUnit i, kind := .opn, cls := .trip, cause := .overheat },
      .captureTrigger .heatTrip (some i)] else []) := by
  have htold : (updateTold i s).mail = s.mail := updateTold_sameBut.same .mail (by simp)
  unfold heatUpdated State.setDuty
  rw [State.updDuty_mail]
  split
  · simp only [hand_mail, htold, List.append_assoc, List.cons_append, List.nil_append]
  · rw [htold, List.append_nil]

theorem heatUpdated_events : (heatUpdated i s).events = (updateTold i s).events := by
  unfold heatUpdated State.setDuty
  rw [State.updDuty_events]
  split <;> rfl

theorem updatedLoad_eq : updatedLoad i s =
    let rs := (phaseRecords i s).filter fun r => r.quality ≠ .invalid
    let l := min 4095 (isqrt ((rs.map fun r => (r.rms.toList.map fun x => x * x).sum).foldl max 0) * 1024 / (s.stepRow i).rated)
    if rs = [] then s.duty.steps[i].lastP else l * l := by
  unfold updatedLoad
  rw [largest_phaseEnergy]
  split
  · next e heq =>
    split at heq
    · exact absurd heq (by nofun)
    · next hrs =>
      cases heq
      exact (if_neg hrs).symm
  · next heq =>
    split at heq
    · next hrs => exact (if_pos hrs).symm
    · exact absurd heq (by nofun)

end

end Sys2Proof.Machine

namespace Sys2Proof
open Machine

/-- Settles O19. -/
theorem heatUpdate : Obligations.HeatUpdate := by
  intro i s row d e rs l p h trips t
  refine ⟨fun hnot => if_neg fun ⟨hmode, hwhole⟩ => hnot ⟨hmode, by simpa using hwhole⟩, fun hserves => ?_⟩
  have hp : updatedLoad i s = p := updatedLoad_eq
  have hh : updatedHeat i s = h := by simp only [updatedHeat, hp]; rfl
  have htrips : updateTrips i s = trips := by simp only [updateTrips, hh]; rfl
  have hupdate : t = if trips then abandonNull i (heatUpdated i s) else heatUpdated i s := htrips ▸ heatUpdate_eq hserves
  have hgone := abandonNull_sameBut i (heatUpdated i s)
  have hduty : t.duty.steps = s.duty.steps.set i (updatedDuty i s) := by
    rw [← heatUpdated_duty, hupdate]
    split
    · rw [hgone.same .duty (by simp)]
    · rfl
  have hmail : t.mail = (heatUpdated i s).mail := by
    rw [hupdate]
    split
    · exact hgone.same .mail (by simp)
    · rfl
  have hunbalance : (heatUpdated i s).unbalance = s.unbalance := heatUpdated_sameBut.same .unbalance (by simp)
  have htimebase : (heatUpdated i s).timebase = (updateTold i s).timebase :=
    (heatUpdated_sameBut.same .timebase (by simp)).trans (updateTold_sameBut.same .timebase (by simp)).symm
  refine ⟨?_, fun j hj => ?_, hmail.trans (htrips ▸ heatUpdated_mail), (heatUpdate_sameBut i s).mono (by simp), ?_⟩
  · rw [hduty]
    refine (Vector.getElem_set_self i.isLt).trans ?_
    simp only [updatedDuty, hh, hp, htrips]
    congr 1
    refine ite_congr rfl (fun _ => rfl) fun _ => ?_
    change (if h ≤ row.heatReclose ∧ d.heatAlarm = true then false else d.heatAlarm) =
      if h ≤ row.heatReclose then false else d.heatAlarm
    cases d.heatAlarm <;> simp
  · rw [hduty]
    exact Vector.getElem_set_ne i.isLt j.isLt fun hij => hj (Fin.ext hij.symm)
  intro alarmed told
  have htold : updateTold i s = told := by simp only [updateTold, hh, htrips]; rfl
  refine ⟨fun hkept => ?_, fun c htrip hc hi => ?_⟩
  · have hsame : t = heatUpdated i s := by
      rcases hkept with hquiet | hother
      · exact hupdate.trans (if_neg (Bool.eq_false_iff.1 hquiet))
      · rw [← hunbalance] at hother
        rw [hupdate, abandonNull_other hother, ite_self]
    exact ⟨hsame ▸ hunbalance, hsame ▸ heatUpdated_events.trans (congrArg _ htold)⟩
  · have ht := (hupdate.trans (if_pos htrip)).trans (abandonNull_serving (hunbalance ▸ hc) hi)
    rw [ht, ← htold]
    exact ⟨by rw [logEvent_unbalance, hunbalance], logEvent_events_congr heatUpdated_events htimebase⟩

end Sys2Proof

namespace Sys2Proof.Machine

/-! ## The cooldown updates of a tick (R78, R80) -/

section
variable (i : Fin 8) (s : State)

/-- R78: whether step `i` is cooled. -/
def cools : Bool := s.duty.steps[i].mode = .cooldown && !s.stepDamaged i

/-- R78: the heat that a cooldown update leaves. -/
def cooledHeat : Nat := s.duty.steps[i].heat - s.duty.steps[i].heat / 2 ^ ((s.stepRow i).thermalCode - 6)

/-- R78, R80: the duty state that a tick leaves step `i` in. -/
def cooledDuty : DutyLive :=
  let d := s.duty.steps[i]
  let row := s.stepRow i
  let h := cooledHeat i s
  if cools i s then
    { d with
      heat := h
      heatAlarm := if row.heatAlarm ≤ h ∧ d.heatAlarm = false then true
        else if h ≤ row.heatReclose ∧ d.heatAlarm = true then false else d.heatAlarm }
  else d

/-- R80: the event that a tick writes for step `i`, the alarms and heats before it those of `s`. -/
def coolTold (u : State) : State :=
  if cools i s then heatAlarmTold i (s.stepRow i) (cooledHeat i s) s.duty.steps[i].heatAlarm u else u

variable {i s}

theorem State.setDuty_self : s.setDuty i s.duty.steps[i] = s := by
  simp [State.setDuty, State.updDuty, upd]

theorem coolTold_sameBut (u : State) : SameBut [.eventList] u (coolTold i s u) := by
  unfold coolTold
  split
  · exact heatAlarmTold_sameBut _ _
  · exact SameBut.refl _ _

theorem cooldownUpdate_eq : cooldownUpdate i s = (coolTold i s s).setDuty i (cooledDuty i s) := by
  unfold cooldownUpdate coolTold cooledDuty
  dsimp only
  by_cases hcools : cools i s = true
  · obtain ⟨hmode, hwhole⟩ := by simpa only [cools, Bool.and_eq_true, decide_eq_true_eq] using hcools
    rw [if_pos ⟨hmode, hwhole⟩, if_pos hcools, if_pos hcools, State.updDuty_eq_setDuty, judgeHeatAlarm_setDuty,
      heatToward_of_ge _ (Nat.zero_le _)]
    rfl
  · have hnot : ¬ (s.duty.steps[i].mode = .cooldown ∧ (!s.stepDamaged i) = true) := by
      simpa only [cools, Bool.and_eq_true, decide_eq_true_eq] using hcools
    rw [if_neg hnot, if_neg hcools, if_neg hcools, State.setDuty_self]

/-- What an update of step `i` reads is the memory and the step's own duty state. -/
theorem coolTold_congr {t : State} (hmem : t.memory = s.memory) (hstep : t.duty.steps[i] = s.duty.steps[i]) (u : State) :
    coolTold i t u = coolTold i s u := by
  simp only [coolTold, cools, cooledHeat, State.stepRow, State.stepDamaged, hmem, hstep]
  rfl

theorem cooledDuty_congr {t : State} (hmem : t.memory = s.memory) (hstep : t.duty.steps[i] = s.duty.steps[i]) :
    cooledDuty i t = cooledDuty i s := by
  simp only [cooledDuty, cools, cooledHeat, State.stepRow, State.stepDamaged, hmem, hstep]
  rfl

theorem heatAlarmTold_events {row : StepRow} {h : Nat} {was : Bool} {t : State} (hevents : s.events = t.events)
    (htime : s.timebase = t.timebase) : (heatAlarmTold i row h was s).events = (heatAlarmTold i row h was t).events := by
  unfold heatAlarmTold
  split
  · exact logEvent_events_congr hevents htime
  · split
    · exact logEvent_events_congr hevents htime
    · exact hevents

theorem coolTold_events {u v : State} (hevents : u.events = v.events) (htime : u.timebase = v.timebase) :
    (coolTold i s u).events = (coolTold i s v).events := by
  unfold coolTold
  split
  · exact heatAlarmTold_events hevents htime
  · exact hevents

/-- R78: `t` is `s` with the steps of `l` cooled, and `told` holds their events. -/
structure CooledIn (l : List (Fin 8)) (s t told : State) : Prop where
  steps : ∀ j : Fin 8, t.duty.steps[j] = if j ∈ l then cooledDuty j s else s.duty.steps[j]
  left : t.duty.secondsLeft = s.duty.secondsLeft
  events : t.events = told.events
  time : told.timebase = s.timebase
  same : SameBut [.duty, .eventList] s t

theorem CooledIn.next {l : List (Fin 8)} {t told : State} (h : CooledIn l s t told) (hi : i ∉ l) :
    CooledIn (l ++ [i]) s (cooldownUpdate i t) (coolTold i s told) := by
  have hmem : t.memory = s.memory := h.same.same .memory (by simp)
  have htime : t.timebase = s.timebase := h.same.same .timebase (by simp)
  have hstep : t.duty.steps[i] = s.duty.steps[i] := (h.steps i).trans (if_neg hi)
  have hduty : (coolTold i s t).duty = t.duty := (coolTold_sameBut t).same .duty (by simp)
  refine ⟨fun j => ?_, ?_, ?_, ((coolTold_sameBut told).same .timebase (by simp)).trans h.time,
    (cooldownUpdate_sameBut i t).after h.same⟩
  · rw [cooldownUpdate_eq, coolTold_congr hmem hstep, cooledDuty_congr hmem hstep, State.setDuty, State.updDuty_steps,
      hduty, h.steps]
    by_cases hij : i = j
    · subst hij
      simp
    · rw [if_neg hij]
      exact if_congr (by simp [Ne.symm hij]) rfl rfl
  · rw [cooldownUpdate_eq, coolTold_congr hmem hstep, State.setDuty, State.updDuty_duty, hduty]
    exact h.left
  · rw [cooldownUpdate_eq, coolTold_congr hmem hstep, State.setDuty, State.updDuty_events]
    exact coolTold_events h.events (htime.trans h.time.symm)

theorem cooledIn_foldl (l : List (Fin 8)) (hnodup : l.Nodup) :
    CooledIn l s (l.foldl (fun u i => cooldownUpdate i u) s) (l.foldl (fun u i => coolTold i s u) s) := by
  induction l using List.reverseRecOn with
  | nil => exact ⟨fun j => rfl, rfl, rfl, rfl, SameBut.refl _ _⟩
  | append_singleton l i ih =>
    obtain ⟨hl, -, hdisjoint⟩ := List.nodup_append.1 hnodup
    rw [List.foldl_append, List.foldl_append]
    exact (ih hl).next fun hi => hdisjoint i hi i (List.mem_singleton_self i) rfl

/-- The events of a list of steps, whatever else the state they are written to holds. -/
theorem foldl_coolTold_events (l : List (Fin 8)) {u v : State} (hevents : u.events = v.events) (htime : u.timebase = v.timebase) :
    (l.foldl (fun u i => coolTold i s u) u).events = (l.foldl (fun u i => coolTold i s u) v).events := by
  induction l generalizing u v with
  | nil => exact hevents
  | cons i l ih =>
    exact ih (coolTold_events hevents htime) (((coolTold_sameBut u).same .timebase (by simp)).trans
      (htime.trans ((coolTold_sameBut v).same .timebase (by simp)).symm))

theorem coolTold_eq (u : State) : coolTold i s u =
    if cools i s = true ∧ (s.stepRow i).heatAlarm ≤ cooledHeat i s ∧ s.duty.steps[i].heatAlarm = false
    then logEvent .heatAlarm (.step i) (some (cooledHeat i s)) u
    else if cools i s = true ∧ cooledHeat i s ≤ (s.stepRow i).heatReclose ∧ s.duty.steps[i].heatAlarm = true
    then logEvent .heatAlarmClear (.step i) (some (cooledHeat i s)) u
    else u := by
  unfold coolTold
  by_cases hcools : cools i s = true
  · simp only [hcools, if_true, true_and, heatAlarmTold]
  · simp only [hcools, Bool.false_eq_true, if_false, false_and]

end

end Sys2Proof.Machine

namespace Sys2Proof
open Machine

/-- Settles O20. -/
theorem secondsTick : Obligations.SecondsTick := by
  intro s hs s₀ heat cools' raises clears
  have hexec : exec .secondsClockTick s = .next (taking .secondsClockTick cooldownUses Machine.secondsTick s) := rfl
  have hcools (i : Fin 8) : cools i s = true ↔ cools' i := by
    simp only [cools, Bool.and_eq_true, decide_eq_true_eq, Bool.not_eq_true']
    rfl
  let start : State := { s₀ with duty := { s₀.duty with secondsLeft := 1000 } }
  have htold : (fun (u : State) (i : Fin 8) => coolTold i start u) = fun u i =>
      if cools' i ∧ raises i then logEvent .heatAlarm (.step i) (some (heat i)) u
      else if cools' i ∧ clears i then logEvent .heatAlarmClear (.step i) (some (heat i)) u
      else u := by
    funext u i
    exact (coolTold_eq u).trans
      (if_congr (and_congr (hcools i) Iff.rfl) rfl (if_congr (and_congr (hcools i) Iff.rfl) rfl rfl))
  have hcooled : CooledIn allSteps start (Machine.secondsTick s₀) _ :=
    cooledIn_foldl allSteps (List.nodup_finRange 8)
  refine ⟨Machine.secondsTick s₀, exec_of_body hexec hs rfl, hcooled.left, fun i => ?_, hcooled.events.trans ?_,
    hcooled.same.after ((duty_sameBut _ s₀).mono (by simp))⟩
  · refine (hcooled.steps i).trans ((if_pos (mem_allSteps i)).trans ?_)
    exact if_congr (hcools i) rfl rfl
  · exact (foldl_coolTold_events (s := start) (u := start) (v := s₀) allSteps rfl rfl).trans
      (congrArg (fun f : State → Fin 8 → State => (allSteps.foldl f s₀).events) htold)

end Sys2Proof

namespace Sys2Proof.Machine

/-! ## A step of the part (R12 to R173) -/

theorem mem_dueWhen {p : Bool} {c d : Instr} : c ∈ dueWhen p d ↔ p = true ∧ c = d := by
  cases p <;> simp [dueWhen]

theorem ranOut_iff {t : Option Nat} : ranOut t = true ↔ t = some 0 := decide_eq_true_iff

section
variable {s : State} {c : Instr}

theorem mem_lossDue {i : Fin 16} : c ∈ lossDue s i ↔ ∃ t : LossTimer, s.acceptance.streams[i].status = .running ∧
    s.acceptance.streams[i].loss = some t ∧ t.limit ≤ t.elapsed ∧ c = .lossTimerExpiry i := by
  unfold lossDue
  cases s.acceptance.streams[i].loss with
  | none => simp
  | some t => simp [mem_dueWhen, and_assoc]

theorem mem_dutyDue {i : Fin 8} : c ∈ dutyDue s i ↔ (s.duty.steps[i].discharge = some 0 ∧ c = .dischargeTimerExpiry i) ∨
    (s.duty.steps[i].decay = some 0 ∧ c = .decayTimerExpiry i) := by
  simp only [dutyDue, List.mem_append, mem_dueWhen, ranOut_iff]

theorem timeCome_iff {t : Option Nat} : timeCome s t = true ↔ ∃ n, t = some n ∧ n ≤ s.timebase := by
  cases t <;> simp [timeCome]

theorem mem_unitDue {u : Fin 9} : c ∈ unitDue s u ↔
    (∃ t : Nat, s.commands[u].context.state = .sending ∧ s.commands[u].context.nextSend = some t ∧ t ≤ s.timebase ∧
      c = .nextSendTime u) ∨
    (∃ t : Nat, s.commands[u].context.state = .awaitingMove ∧ s.commands[u].context.deadline = some t ∧ t ≤ s.timebase ∧
      c = .operateDeadline u) ∨
    (∃ t : SupervisionTimer, s.commands[u].supervision = .alive ∧ s.commands[u].timer = some t ∧ t.limit ≤ t.elapsed ∧
      c = .supervisionTimerExpiry u) := by
  simp only [unitDue, List.mem_append, mem_dueWhen, Bool.and_eq_true, decide_eq_true_eq, timeCome_iff, or_assoc]
  refine or_congr ?_ (or_congr ?_ ?_)
  · tauto
  · tauto
  · cases s.commands[u].timer <;> simp [and_assoc]

theorem reached_iff {t : BandTimer} {limit : Nat} : t.reached limit = true ↔ ∃ n, t = .running n ∧ limit ≤ n := by
  cases t <;> simp [BandTimer.reached]

theorem countReached_iff {t : Option Nat} {limit : Nat} : countReached limit t = true ↔ ∃ n, t = some n ∧ limit ≤ n := by
  cases t <;> simp [countReached]

theorem mem_switchingDue : c ∈ switchingDue s ↔
    let w := s.switching
    (∃ n, w.control = .autoHigh ∧ w.expiryHeld = none ∧ w.high = .running n ∧ s.yard.highDelay * 1000 ≤ n ∧
      c = .highTimerExpiry) ∨
    (∃ n, w.control = .autoLow ∧ w.expiryHeld = none ∧ w.low = .running n ∧ s.yard.lowDelay * 1000 ≤ n ∧
      c = .lowTimerExpiry) ∨
    (∃ n, w.control = .autoSettle ∧ w.settle = some n ∧ s.yard.settleTime * 1000 ≤ n ∧ c = .settleTimerExpiry) ∨
    (∃ n, w.line = .restore ∧ w.restore = some n ∧ s.yard.restoreHold * 1000 ≤ n ∧ c = .restoreHoldExpiry) ∨
    (∃ x, w.selection = some x ∧ x.expiry ≤ s.timebase ∧ c = .selectExpiry) := by
  simp only [switchingDue, List.mem_append, mem_dueWhen, Bool.and_eq_true, decide_eq_true_eq, Option.isNone_iff_eq_none,
    reached_iff, countReached_iff, timeCome_iff, Option.map_eq_some_iff, or_assoc]
  refine or_congr ?_ (or_congr ?_ (or_congr ?_ (or_congr ?_ ?_)))
  · tauto
  · tauto
  · tauto
  · tauto
  · constructor
    · rintro ⟨⟨_, ⟨x, hx, rfl⟩, hle⟩, hc⟩
      exact ⟨x, hx, hle, hc⟩
    · rintro ⟨x, hx, hle, hc⟩
      exact ⟨⟨_, ⟨x, hx, rfl⟩, hle⟩, hc⟩

theorem mem_restartWaited : c ∈ restartWaited s ↔ ∃ t, s.agent.restartWait = some t ∧ 100 ≤ t ∧ c = .restartReset := by
  unfold restartWaited
  cases s.agent.restartWait <;> simp [mem_dueWhen]
  exact fun _ => Iff.rfl

theorem mem_captureDue {b : Fin 2} : c ∈ captureDue s b ↔
    s.events.buffers[b].status = .recording ∧ 400 ≤ s.events.buffers[b].elapsed ∧ c = .captureComplete b := by
  simp only [captureDue, mem_dueWhen, Bool.and_eq_true, decide_eq_true_eq, and_assoc]
  rfl

theorem mem_reportDue : c ∈ reportDue s ↔
    (s.link.period * 1000 ≤ s.events.reportTimer ∧ c = .reportTimerExpiry) ∨
    (s.link.destination ≠ 0 ∧ s.events.changePending = true ∧ s.events.changeHold = 0 ∧ c = .changeReportDue) := by
  simp only [reportDue, List.mem_append, mem_dueWhen, Bool.and_eq_true, decide_eq_true_eq, reporting, periodReached,
    and_assoc]

end

/-- Settles O1. -/
theorem stepTakesFront : Obligations.StepTakesFront := by
  refine ⟨?front, ?idle, ?due, ?tick⟩
  case front =>
    intro c rest s hpending
    unfold step
    rw [hpending]
  case idle =>
    intro s hpending
    have hidle : step s = idle s := by
      unfold step
      rw [hpending]
    rw [hidle]
    unfold idle
    refine ⟨fun hphase => ?_, fun hphase => ?_⟩
    · cases hs : s.phase with
      | running => exact absurd hs hphase
      | inReset => rfl
    · rw [hphase]
      refine ⟨fun c ms hmail => ?_, fun hmail => ⟨fun c cs hdue => ?_, fun hdue => ?_⟩⟩
      · rw [hmail]
      · rw [hmail, hdue]
      · rw [hmail, hdue]
  case due =>
    intro s c w
    simp only [dueTimers, engineDue, List.mem_append, List.mem_flatMap, mem_restartWaited, mem_lossDue, mem_dueWhen, mem_dutyDue,
      mem_unitDue, mem_switchingDue, mem_reportDue, mem_captureDue, ranOut_iff, allStreams, allSteps, allUnits, allBuffers,
      List.mem_finRange, true_and, decide_eq_true_eq, or_assoc, exists_or, w]
  case tick =>
    intro s run w
    have hrun (held : Bool) (t : BandTimer) : (if held then t else t.tick) = run held t := by
      cases held <;> cases t <;> rfl
    unfold tick SwitchingState.tick
    rw [hrun, hrun]
    rfl

end Sys2Proof.Machine

namespace Sys2Proof.Machine

/-! ## Sample frames (R6 to R8, R13) -/

/-- The first index that has a property. -/
theorem find?_finRange_eq_some {n : Nat} {p : Fin n → Bool} {i : Fin n} :
    (List.finRange n).find? p = some i ↔ p i = true ∧ ∀ j, j < i → p j = false := by
  rw [List.find?_eq_some_iff_getElem]
  refine and_congr_right fun _ => ⟨?_, fun h => ⟨i.val, by simp, by simp, fun j hj => ?_⟩⟩
  · rintro ⟨k, hk, rfl, h⟩ j hj
    simpa using h j.val (Fin.lt_def.1 (by simpa using hj))
  · simpa using h ⟨j, hj.trans i.isLt⟩ hj

theorem find?_finRange_eq_none {n : Nat} {p : Fin n → Bool} : (List.finRange n).find? p = none ↔ ∀ i, p i = false := by
  simp

section
variable {f : SampleFrame} {s : State} {i : Fin 16}

theorem carriesTag_iff : CarriesTag f s i ↔ (configured (streamHeld i s) && (streamHeld i s).row.address = f.sender &&
    (streamHeld i s).row.streamNumber = f.streamNumber) = true := by
  simp only [CarriesTag, configured, Bool.and_eq_true, Bool.not_eq_true', decide_eq_true_eq, and_assoc]

/-- R6: the configured stream with the frame's tag. -/
theorem matchStream_eq_some : matchStream f s = some i ↔ Matches f s i := by
  unfold matchStream Matches allStreams
  rw [find?_finRange_eq_some]
  refine and_congr carriesTag_iff.symm (forall_congr' fun j => imp_congr_right fun _ => ?_)
  rw [carriesTag_iff, Bool.not_eq_true]

theorem matchStream_eq_none : matchStream f s = none ↔ ∀ i, ¬ CarriesTag f s i := by
  unfold matchStream allStreams
  rw [find?_finRange_eq_none]
  refine forall_congr' fun j => ?_
  rw [carriesTag_iff, Bool.not_eq_true]

theorem acceptFrame_unmatched (h : ∀ i, ¬ CarriesTag f s i) : acceptFrame f s = s := by
  unfold acceptFrame
  rw [matchStream_eq_none.2 h]

/-- R6, R7: the stages of a frame whose row is `i`. -/
theorem acceptFrame_matched (h : Matches f s i) : acceptFrame f s =
    if (f.simulated && !(streamHeld i s).row.acceptSimulated) = true then s
    else if f.channels.length ≠ (streamHeld i s).row.channelCount then
      s.updStream i fun x => { x with wrongCount := (x.wrongCount + 1) % mod32 }
    else judgeCounter i f s := by
  unfold acceptFrame
  rw [matchStream_eq_some.2 h]

theorem passesSimulated_iff : PassesSimulated f s i ↔ ¬ (f.simulated && !(streamHeld i s).row.acceptSimulated) = true := by
  unfold PassesSimulated
  cases f.simulated <;> cases (streamHeld i s).row.acceptSimulated <;> simp

theorem acceptFrame_judged (h : Matches f s i) (hsim : PassesSimulated f s i)
    (hcount : f.channels.length = (streamHeld i s).row.channelCount) : acceptFrame f s = judgeCounter i f s :=
  (acceptFrame_matched h).trans ((if_neg (passesSimulated_iff.1 hsim)).trans (if_neg (not_not.2 hcount)))

/-- R8: a frame by its distance from the last counter. -/
theorem judgeCounter_next {last : Nat} (hlast : s.acceptance.streams[i].lastCounter = some last) : judgeCounter i f s =
    let d := counterDistance f.counter last
    if d = 1 then takeFrame i f s
    else if d = 0 then countGap i s
    else if d ≤ 3 then takeFrame i f (fillGap i (d - 1) ((last + 1) % mod16) (countGap i s))
    else takeFrame i f (abandonRow i (countGap i s)) := by
  unfold judgeCounter
  rw [hlast]
  rfl

theorem judgeCounter_first (hlast : s.acceptance.streams[i].lastCounter = none) : judgeCounter i f s = takeFrame i f s := by
  unfold judgeCounter
  rw [hlast]

end

/-- Settles O2. -/
theorem sampleFrameNotTaken : Obligations.SampleFrameNotTaken := by
  intro f s hs
  have hexec : exec (.sampleFrame f) s = .next (taking (.sampleFrame f) (sampleUses f) (acceptFrame f) s) := rfl
  refine ⟨fun hnone => exec_of_body_self hexec hs (acceptFrame_unmatched hnone), fun i hi => ⟨fun hsim => ?_, fun hsim => ⟨?_, ?_⟩⟩⟩
  · refine exec_of_body_self hexec hs ((acceptFrame_matched (s := s.dropMail _) hi).trans (if_pos ?_))
    exact not_not.1 (mt passesSimulated_iff.2 hsim)
  · intro hcount
    exact exec_of_body hexec hs ((acceptFrame_matched (s := s.dropMail _) hi).trans
      ((if_neg (passesSimulated_iff.1 hsim)).trans (if_pos hcount)))
  · intro hcount last hlast hzero
    refine exec_of_body hexec hs ((acceptFrame_judged (s := s.dropMail _) hi hsim hcount).trans ?_)
    rw [judgeCounter_next (s := s.dropMail _) hlast, hzero]
    rfl

/-- Settles O4. -/
theorem lossTimerExpiry : Obligations.LossTimerExpiry := by
  intro i s hs
  have hexec : exec (.lossTimerExpiry i) s = .next (taking (.lossTimerExpiry i) (lossUses i) (streamLost i) s) := rfl
  exact ⟨fun hrun => exec_of_body hexec hs (if_pos hrun), fun hrun => exec_of_body_self hexec hs (if_neg hrun)⟩

/-! ## Where a value goes (R15 to R17) -/

section
variable {m : Fin 38} {s : State}

theorem findWindow_eq_some {p : WindowState → Bool} {w : Fin 2} : findWindow m p s = some w ↔
    p (s.window m w).state = true ∧ ∀ w', w' < w → p (s.window m w').state = false := find?_finRange_eq_some

theorem findWindow_eq_none {p : WindowState → Bool} : findWindow m p s = none ↔ ∀ w, p (s.window m w).state = false :=
  find?_finRange_eq_none

theorem freeWindow_eq_some {w : Fin 2} : freeWindow m s = some w ↔
    (s.window m w).state = .free ∧ ∀ w', w' < w → (s.window m w').state ≠ .free := by
  simp only [freeWindow, findWindow_eq_some, decide_eq_true_eq, decide_eq_false_iff_not]

theorem freeWindow_eq_none : freeWindow m s = none ↔ ∀ w, (s.window m w).state ≠ .free := by
  simp only [freeWindow, findWindow_eq_none, decide_eq_false_iff_not]

theorem fillingWindow_eq_some {w : Fin 2} : fillingWindow m s = some w ↔
    (s.window m w).state = .filling ∧ ∀ w', w' < w → (s.window m w').state ≠ .filling := by
  simp only [fillingWindow, findWindow_eq_some, decide_eq_true_eq, decide_eq_false_iff_not]

theorem handSample_acceptance (v : Int) (c : Nat) (filled : Bool) : (handSample m v c filled s).acceptance = s.acceptance :=
  (handSample_sameBut m v c filled s).same .acceptance (by simp)

theorem handSample_window (v : Int) (c : Nat) (filled : Bool) : (handSample m v c filled s).window = s.window := by
  unfold State.window
  rw [handSample_acceptance]

theorem freeWindow_handSample (v : Int) (c : Nat) (filled : Bool) : freeWindow m (handSample m v c filled s) = freeWindow m s := by
  unfold freeWindow findWindow
  rw [handSample_window]

theorem fillingWindow_handSample (v : Int) (c : Nat) (filled : Bool) :
    fillingWindow m (handSample m v c filled s) = fillingWindow m s := by
  unfold fillingWindow findWindow
  rw [handSample_window]

theorem State.updInput_updInput (f g : InputLive → InputLive) : (s.updInput m f).updInput m g = s.updInput m (g ∘ f) := by
  simp only [State.updInput, upd_upd]

end

/-- R22: without a notice pending no window ends a part in one. -/
theorem endWait_none {m : Fin 38} {w : Fin 2} {s : State} (h : s.engine.notices[m] = none) : endWait m w s = s := by
  unfold endWait
  rw [h]

section
variable {m : Fin 38} {w : Fin 2} {s : State}

/-- R16: the windows after a boundary at which the other window opens. -/
def boundaryWindows (m : Fin 38) (w : Fin 2) (s : State) (x : InputLive) : Vector Window 2 :=
  (x.windows.set w { s.window m w with state := .queued }).set (otherWindow w)
    (Window.opened (((s.window m w).start + Config.windowSize) % mod16))

theorem windowBoundary_free (h : (s.window m (otherWindow w)).state = .free) : windowBoundary m w s =
    enqueueWindow m (s.updInput m fun x => { x with windows := boundaryWindows m w s x }) := by
  unfold windowBoundary
  dsimp only
  rw [h]
  simp only [setWindow, State.updInput_updInput]
  rfl

theorem windowBoundary_queued (h : (s.window m (otherWindow w)).state = .queued) : windowBoundary m w s =
    endWait m (otherWindow w) (s.updInput m fun x =>
      { x with windows := boundaryWindows m w s x, overruns := (x.overruns + 1) % mod16 }) := by
  unfold windowBoundary
  dsimp only
  rw [h]
  simp only [countOverrun, setWindow, State.updInput_updInput]
  rfl

theorem windowBoundary_computing {b : Bool} (h : (s.window m (otherWindow w)).state = .computing b) : windowBoundary m w s =
    enqueueWindow m (s.updInput m fun x =>
      { x with windows := x.windows.set w { s.window m w with state := .queued }, fill := .aligning }) := by
  unfold windowBoundary
  dsimp only
  rw [h]
  simp only [setFill, setWindow, State.updInput_updInput]
  rfl

end

/-- Settles O5. -/
theorem valuesAndWindows : Obligations.ValuesAndWindows := by
  refine ⟨?place, ?store, ?boundary⟩
  case place =>
    intro m c v d s
    refine ⟨fun hfill => ?_, fun hfill => ?_, fun hfill w hw hfirst => ?_⟩
    · have hfill : fillState m s = .unmapped := hfill
      exact ⟨by rw [placeReceived, hfill], by rw [placeFilled, hfill]; rfl⟩
    · have hfill : fillState m s = .aligning := hfill
      have hplace : placeReceived m c v d s = if c % Config.windowSize = 0 then
          match freeWindow m s with
          | some w => setFill m .collecting (setWindow m w ((Window.opened c).write 0 v d) (handSample m v c false s))
          | none => countOverrun m (handSample m v c false s)
        else handSample m v c false s := by
        rw [placeReceived, hfill]
        dsimp only
        rw [freeWindow_handSample] <;> rfl
      refine ⟨by rw [placeFilled, hfill]; rfl, fun hc => hplace.trans (if_neg hc), fun hc w hw hfirst => ?_, fun hc hnone => ?_⟩
      · rw [hplace, if_pos (show c % Config.windowSize = 0 from hc), freeWindow_eq_some.2 ⟨hw, hfirst⟩]
        exact State.updInput_updInput _ _
      · rw [hplace, if_pos (show c % Config.windowSize = 0 from hc), freeWindow_eq_none.2 hnone]
        rfl
    · have hfill : fillState m s = .collecting := hfill
      have hfound := fillingWindow_eq_some.2 ⟨hw, hfirst⟩
      refine ⟨?_, ?_⟩
      · rw [placeReceived, hfill]
        dsimp only
        rw [fillingWindow_handSample, hfound]
      · rw [placeFilled, if_pos hfill]
        dsimp only
        rw [fillingWindow_handSample, hfound]
  case store =>
    intro m c v d w s x p put written
    have hfull : p + 1 = Config.windowSize ↔ p = 63 := Nat.succ_inj
    exact ⟨fun hp => if_neg (mt hfull.1 hp), fun hp => if_pos (hfull.2 hp)⟩
  case boundary =>
    intro m w s o done opened
    refine ⟨fun ho => windowBoundary_free ho, fun ho hnone => (windowBoundary_queued ho).trans ?_,
      fun ho hsome => windowBoundary_queued ho, fun b ho => windowBoundary_computing ho⟩
    exact endWait_none hnone

end Sys2Proof.Machine

namespace Sys2Proof.Machine

/-! ## What a value or a break leaves of the streams and the tables -/

/-- `t` has the tables and the streams of `s`. -/
structure SameRows (s t : State) : Prop where
  memory : t.memory = s.memory
  streams : t.acceptance.streams = s.acceptance.streams

theorem SameRows.refl (s : State) : SameRows s s := ⟨rfl, rfl⟩

theorem SameRows.trans {s t u : State} (h : SameRows s t) (h' : SameRows t u) : SameRows s u :=
  ⟨h'.memory.trans h.memory, h'.streams.trans h.streams⟩

theorem SameBut.sameRows {ps : List Part} {s t : State} (h : SameBut ps s t) (hmem : .memory ∉ ps) (hacc : .acceptance ∉ ps) :
    SameRows s t := by
  have hmem : t.memory = s.memory := h.same .memory hmem
  have hacc : t.acceptance = s.acceptance := h.same .acceptance hacc
  exact ⟨hmem, by rw [hacc]⟩

theorem SameRows.foldl {α : Type} {f : State → α → State} (h : ∀ s a, SameRows s (f s a)) (l : List α) (s : State) :
    SameRows s (l.foldl f s) := by
  induction l generalizing s with
  | nil => exact .refl s
  | cons a l ih => exact (h s a).trans (ih _)

theorem inputStep_eq_some {m : Fin 38} {i : Fin 8} {k : Fin 4} : inputStep m = some (i, k) ↔ m = stepInput i k := by
  unfold inputStep stepInput
  constructor
  · intro h
    split at h
    · simp only [Option.some.injEq, Prod.mk.injEq] at h
      obtain ⟨rfl, rfl⟩ := h
      apply Fin.ext
      simp only
      omega
    · exact absurd h (by nofun)
  · rintro rfl
    rw [if_pos (by simp only; omega)]
    simp only [Option.some.injEq, Prod.mk.injEq]
    refine ⟨Fin.ext ?_, Fin.ext ?_⟩ <;> simp only <;> omega

/-- R68: an INVALID record ends a null capture without writing its row. -/
theorem unbalanceEvaluate_invalid {i : Fin 8} {s : State} (h : s.engine.results[stepInput i 3].quality = .invalid) :
    (unbalanceEvaluate i s).memory = s.memory := by
  by_cases hserves : s.stepState i = .inService ∧ (s.stepRow i).neutralPresent = true ∧ s.stepDamaged i = false
  · have hmem : (evaluated i s).memory = s.memory := evaluated_sameBut.same .memory (by simp)
    have hgone : (abandonNull i (evaluated i s)).memory = (evaluated i s).memory :=
      (abandonNull_sameBut i _).same .memory (by simp)
    rw [unbalanceEvaluate_eq hserves]
    split
    · exact hgone.trans hmem
    · unfold offerNull
      rw [h]
      split
      · split
        · exact hgone.trans hmem
        · exact hmem
      · exact hmem
  · exact congrArg State.memory (if_neg fun ⟨hin, hpresent, hwhole⟩ => hserves ⟨hin, hpresent, by simpa using hwhole⟩)

theorem actOnPublication_invalid {m : Fin 38} {s : State} (h : s.engine.results[m].quality = .invalid) :
    SameRows s (actOnPublication m s) := by
  have hharm := harmonicPublication_sameBut m s
  have hengine : (harmonicPublication m s).engine = s.engine := hharm.same .engine (by simp)
  have hcontrol (u : State) (hu : SameRows s u) : SameRows s (if m = 0 then controlEvaluation u else u) := by
    split
    · exact hu.trans ((controlEvaluation_sameBut u).sameRows (by simp) (by simp))
    · exact hu
  have hsame := hharm.sameRows (by simp) (by simp)
  unfold actOnPublication
  dsimp only
  refine hcontrol _ ?_
  split
  · next i k hstep =>
    split
    · next hk =>
      obtain rfl := inputStep_eq_some.1 hstep
      subst hk
      refine hsame.trans ⟨unbalanceEvaluate_invalid (by rw [hengine]; exact h), ?_⟩
      rw [show (unbalanceEvaluate i _).acceptance = _ from (unbalanceEvaluate_sameBut i _).same .acceptance (by simp)]
    · split
      · exact hsame.trans ((heatUpdate_sameBut _ _).sameRows (by simp) (by simp))
      · exact hsame
  · exact hsame

section
variable (m : Fin 38) (s : State)

theorem publishInvalid_sameRows : SameRows s (publishInvalid m s) := by
  unfold publishInvalid publish
  refine SameRows.trans (SameRows.trans ?_ (actOnPublication_invalid ?_)) ((markChange_sameBut _ _).sameRows (by simp) (by simp))
  · exact ⟨rfl, rfl⟩
  · exact congrArg ResultRecord.quality (Vector.getElem_set_self m.isLt)

theorem setNotice_sameRows (x : Option (Vector Bool 2)) : SameRows s (setNotice m x s) := ⟨rfl, rfl⟩

theorem updInput_sameRows (f : InputLive → InputLive) : SameRows s (s.updInput m f) := ⟨rfl, rfl⟩

theorem setWindow_sameRows (w : Fin 2) (x : Window) : SameRows s (setWindow m w x s) := ⟨rfl, rfl⟩

theorem settleNotice_sameRows : SameRows s (settleNotice m s) := by
  unfold settleNotice
  split
  · split
    · exact .refl s
    · exact (setNotice_sameRows m s none).trans (publishInvalid_sameRows m _)
  · exact .refl s

theorem endWait_sameRows (w : Fin 2) : SameRows s (endWait m w s) := by
  unfold endWait
  split
  · exact (setNotice_sameRows m s _).trans (settleNotice_sameRows m _)
  · exact .refl s

theorem handNotice_sameRows : SameRows s (handNotice m s) := (setNotice_sameRows m s _).trans (settleNotice_sameRows m _)

theorem engineTake_sameRows : SameRows s (engineTake s) := by
  unfold engineTake
  split
  · split
    · exact (setWindow_sameRows _ s _ _).trans ⟨rfl, rfl⟩
    · exact ⟨rfl, rfl⟩
  · exact .refl s

theorem enqueueWindow_sameRows : SameRows s (enqueueWindow m s) :=
  SameRows.trans (t := { s with engine := { s.engine with queue := s.engine.queue ++ [m] } }) ⟨rfl, rfl⟩ (engineTake_sameRows _)

theorem breakInput_sameRows : SameRows s (breakInput m s) := (updInput_sameRows m s _).trans (handNotice_sameRows m _)

theorem abandonInput_sameRows : SameRows s (abandonInput s m) := by
  unfold abandonInput
  split
  · exact breakInput_sameRows m s
  · exact .refl s

theorem windowBoundary_sameRows (w : Fin 2) : SameRows s (windowBoundary m w s) := by
  unfold windowBoundary
  dsimp only
  split
  · exact ((setWindow_sameRows m s w _).trans (setWindow_sameRows m _ _ _)).trans
      ((updInput_sameRows m _ _).trans (endWait_sameRows m _ _))
  · exact ((setWindow_sameRows m s w _).trans (updInput_sameRows m _ _)).trans (enqueueWindow_sameRows m _)
  · exact ((setWindow_sameRows m s w _).trans (setWindow_sameRows m _ _ _)).trans (enqueueWindow_sameRows m _)

theorem storeValue_sameRows (c : Nat) (v : Int) (d : Bool) (w : Fin 2) : SameRows s (storeValue m c v d w s) := by
  unfold storeValue
  dsimp only
  split
  · exact (setWindow_sameRows m s w _).trans (windowBoundary_sameRows m _ w)
  · exact setWindow_sameRows m s w _

theorem handSample_sameRows (v : Int) (c : Nat) (filled : Bool) : SameRows s (handSample m v c filled s) :=
  (handSample_sameBut m v c filled s).sameRows (by simp) (by simp)

theorem placeReceived_sameRows (c : Nat) (v : Int) (d : Bool) : SameRows s (placeReceived m c v d s) := by
  unfold placeReceived
  split
  · exact .refl s
  · refine (handSample_sameRows m s v c false).trans ?_
    dsimp only
    split
    · split
      · exact (setWindow_sameRows m _ _ _).trans (updInput_sameRows m _ _)
      · exact updInput_sameRows m _ _
    · exact .refl _
  · refine (handSample_sameRows m s v c false).trans ?_
    dsimp only
    split
    · exact storeValue_sameRows m _ _ _ _ _
    · exact .refl _

theorem placeFilled_sameRows (c : Nat) (v : Int) : SameRows s (placeFilled m c v s) := by
  unfold placeFilled
  split
  · refine (handSample_sameRows m s v c true).trans ?_
    dsimp only
    split
    · exact storeValue_sameRows m _ _ _ _ _
    · exact .refl _
  · exact .refl s

theorem fillCounter_sameRows (i : Fin 16) (c : Nat) : SameRows s (fillCounter i c s) := by
  unfold fillCounter
  refine SameRows.foldl (fun u j => ?_) _ s
  split
  · exact placeFilled_sameRows _ u _ _
  · exact .refl u

end

/-! ## What a frame leaves in its row (R8, R9, R11, R12) -/

/-- `t` is `s` with `f` applied to the live state of stream `i`, as far as streams and tables go. -/
structure RowLeft (i : Fin 16) (f : StreamLive → StreamLive) (s t : State) : Prop where
  memory : t.memory = s.memory
  streams : t.acceptance.streams = upd s.acceptance.streams i f

theorem updStream_rowLeft (i : Fin 16) (f : StreamLive → StreamLive) (s : State) : RowLeft i f s (s.updStream i f) := ⟨rfl, rfl⟩

theorem RowLeft.then {i : Fin 16} {f g : StreamLive → StreamLive} {s t u : State} (h : RowLeft i f s t) (h' : RowLeft i g t u) :
    RowLeft i (g ∘ f) s u :=
  ⟨h'.memory.trans h.memory, by rw [h'.streams, h.streams, upd_upd]⟩

theorem RowLeft.same {i : Fin 16} {f : StreamLive → StreamLive} {s t u : State} (h : RowLeft i f s t) (h' : SameRows t u) :
    RowLeft i f s u :=
  ⟨h'.memory.trans h.memory, h'.streams.trans h.streams⟩

theorem SameRows.rowLeft {i : Fin 16} {s t : State} (h : SameRows s t) : RowLeft i id s t :=
  ⟨h.memory, by rw [h.streams]; simp [upd]⟩

theorem RowLeft.row {i : Fin 16} {f : StreamLive → StreamLive} {s t : State} (h : RowLeft i f s t) :
    t.acceptance.streams[i] = f s.acceptance.streams[i] := by
  have hget := getElem_upd s.acceptance.streams i i f
  rw [if_pos rfl, ← h.streams] at hget
  exact hget

theorem RowLeft.other {i k : Fin 16} {f : StreamLive → StreamLive} {s t : State} (h : RowLeft i f s t) (hk : k ≠ i) :
    t.acceptance.streams[k] = s.acceptance.streams[k] := by
  have hget := getElem_upd s.acceptance.streams i k f
  rw [if_neg (Ne.symm hk), ← h.streams] at hget
  exact hget

theorem RowLeft.held {i : Fin 16} {f : StreamLive → StreamLive} {s t : State} (h : RowLeft i f s t) (k : Fin 16) :
    streamHeld k t = streamHeld k s := by
  unfold streamHeld
  rw [h.memory]

theorem abandonRow_rowLeft (i : Fin 16) (s : State) : RowLeft i (fun x => { x with gapCount := 0 }) s (abandonRow i s) :=
  (updStream_rowLeft i _ s).same (SameRows.foldl (fun u m => abandonInput_sameRows m u) _ _)

/-- R9: a gap filled or given up moves the gap count alone. -/
theorem fillGap_rowLeft (i : Fin 16) (n c : Nat) (s : State) :
    ∃ gap, RowLeft i (fun x => { x with gapCount := gap }) s (fillGap i n c s) := by
  induction n generalizing c s with
  | zero => exact ⟨s.acceptance.streams[i].gapCount, rfl, (Vector.set_getElem_self i.isLt).symm⟩
  | succ n ih =>
    unfold fillGap
    dsimp only
    split
    · exact ⟨0, (updStream_rowLeft i _ s).then (abandonRow_rowLeft i (enterCounter i c s))⟩
    · obtain ⟨gap, hgap⟩ := ih ((c + 1) % mod16) (fillCounter i c ((enterCounter i c s).updStream i fun x =>
        { x with gapCount := (enterCounter i c s).acceptance.streams[i].gapCount + 1 }))
      exact ⟨gap, (((updStream_rowLeft i _ s).then (updStream_rowLeft i _ _)).same (fillCounter_sameRows _ _ _)).then hgap⟩

end Sys2Proof.Machine

namespace Sys2Proof.Machine

/-! ## The channels of a frame (R11) -/

/-- The value a channel gives its row, if it is mapped and GOOD or DOUBTFUL. -/
def channelValue (map : Vector (Option (Fin 38)) 12) (channels : List Channel) (j : Fin 12) : Option Int :=
  match map[j], channels[j.val]? with
  | some _, some ch => if ch.quality = 0 ∨ ch.quality = 1 then some ch.value else none
  | _, _ => none

/-- Whether a channel is mapped and of neither quality. -/
def channelBad (map : Vector (Option (Fin 38)) 12) (channels : List Channel) (j : Fin 12) : Bool :=
  map[j].isSome && (channels[j.val]?.map fun ch => decide (ch.quality ≠ 0 ∧ ch.quality ≠ 1)).getD false

/-- R11: what channel `j` leaves in its row. -/
def StreamLive.channel (map : Vector (Option (Fin 38)) 12) (channels : List Channel) (j : Fin 12) (x : StreamLive) :
    StreamLive :=
  match channelValue map channels j with
  | some v => { x with lastValues := x.lastValues.set j (some v) }
  | none => if channelBad map channels j then { x with badQuality := (x.badQuality + 1) % mod32 } else x

section
variable {i : Fin 16} {c : Nat} {j : Fin 12} {m : Fin 38} {ch : Channel} {s : State}

theorem takeChannel_value (h : ch.quality = 0 ∨ ch.quality = 1) : takeChannel i c j m ch s =
    placeReceived m c ch.value (ch.quality = 1)
      (s.updStream i fun x => { x with lastValues := x.lastValues.set j (some ch.value) }) := by
  unfold takeChannel
  rcases h with h | h <;> rw [h] <;> rfl

theorem takeChannel_bad (h : ch.quality ≠ 0) (h' : ch.quality ≠ 1) : takeChannel i c j m ch s =
    abandonInput (s.updStream i fun x => { x with badQuality := (x.badQuality + 1) % mod32 }) m := by
  unfold takeChannel qualityOfBits
  rw [if_neg h, if_neg h']

end

section
variable (map : Vector (Option (Fin 38)) 12) (channels : List Channel) (l : List (Fin 12)) (x : StreamLive)

/-- R11: the last values after the channels of a list of positions. -/
theorem foldl_channel_lastValues (k : Fin 12) : (l.foldl (fun x j => x.channel map channels j) x).lastValues[k] =
    if k ∈ l then
      match channelValue map channels k with
      | some v => some v
      | none => x.lastValues[k]
    else x.lastValues[k] := by
  induction l generalizing x with
  | nil => rfl
  | cons j l ih =>
    have hstep : (x.channel map channels j).lastValues[k] = if j = k then
        match channelValue map channels k with
        | some v => some v
        | none => x.lastValues[k]
      else x.lastValues[k] := by
      unfold StreamLive.channel
      by_cases hjk : j = k
      · subst hjk
        rw [if_pos rfl]
        split
        · exact Vector.getElem_set_self j.isLt
        · split <;> rfl
      · rw [if_neg hjk]
        split
        · exact Vector.getElem_set_ne j.isLt k.isLt (Fin.val_ne_of_ne hjk)
        · split <;> rfl
    rw [List.foldl_cons, ih, hstep]
    by_cases hk : k ∈ l
    · rw [if_pos hk, if_pos (List.mem_cons_of_mem j hk)]
      split
      · rfl
      · exact ite_self _
    · rw [if_neg hk]
      exact if_congr (by simp [hk, eq_comm]) rfl rfl

/-- R11: the bad-quality count after the channels of a list of positions. -/
theorem foldl_channel_badQuality : (l.foldl (fun x j => x.channel map channels j) x).badQuality =
    if l.countP (channelBad map channels) = 0 then x.badQuality
    else (x.badQuality + l.countP (channelBad map channels)) % mod32 := by
  have hapart (j : Fin 12) (v : Int) (hv : channelValue map channels j = some v) : channelBad map channels j = false := by
    unfold channelValue at hv
    unfold channelBad
    split at hv
    · next _ ch hmap hch =>
      split at hv
      · next hq => rw [hch]; simp only [Option.map_some, Option.getD_some]; rcases hq with hq | hq <;> simp [hq]
      · exact absurd hv (by nofun)
    · exact absurd hv (by nofun)
  induction l generalizing x with
  | nil => rfl
  | cons j l ih =>
    have hstep : (x.channel map channels j).badQuality =
        if channelBad map channels j then (x.badQuality + 1) % mod32 else x.badQuality := by
      unfold StreamLive.channel
      split
      · next v hv => rw [hapart j v hv]; rfl
      · split <;> rfl
    rw [List.foldl_cons, ih, hstep, List.countP_cons]
    by_cases hbad : channelBad map channels j = true
    · rw [if_pos hbad, if_pos hbad, if_neg (Nat.succ_ne_zero _)]
      split
      · next hzero => rw [hzero]
      · rw [Nat.mod_add_mod, Nat.add_assoc, Nat.add_comm 1]
    · rw [if_neg hbad, if_neg hbad, Nat.add_zero]

/-- R11: the channels move the last values and the bad-quality count alone. -/
theorem foldl_channel_rest : l.foldl (fun x j => x.channel map channels j) x =
    { x with
      lastValues := (l.foldl (fun x j => x.channel map channels j) x).lastValues
      badQuality := (l.foldl (fun x j => x.channel map channels j) x).badQuality } := by
  induction l generalizing x with
  | nil => rfl
  | cons j l ih =>
    rw [List.foldl_cons, ih]
    unfold StreamLive.channel
    split
    · rfl
    · split <;> rfl

end

/-- R11: channel by channel, a frame leaves the row its channels' part. -/
theorem foldl_takeChannel_rowLeft (i : Fin 16) (c : Nat) (channels : List Channel) (l : List (Fin 12)) (s : State) :
    RowLeft i (fun x => l.foldl (fun x j => x.channel (streamHeld i s).row.map channels j) x) s
      (l.foldl (fun s j => match (streamHeld i s).row.map[j], channels[j.val]? with
        | some m, some ch => takeChannel i c j m ch s
        | _, _ => s) s) := by
  induction l generalizing s with
  | nil => exact (SameRows.refl s).rowLeft
  | cons j l ih =>
    rw [List.foldl_cons]
    have hstep : RowLeft i (fun x => x.channel (streamHeld i s).row.map channels j) s
        (match (streamHeld i s).row.map[j], channels[j.val]? with
          | some m, some ch => takeChannel i c j m ch s
          | _, _ => s) := by
      unfold StreamLive.channel channelValue channelBad
      cases (streamHeld i s).row.map[j] with
      | none => exact (SameRows.refl s).rowLeft
      | some m =>
        cases channels[j.val]? with
        | none => exact (SameRows.refl s).rowLeft
        | some ch =>
          by_cases hq : ch.quality = 0 ∨ ch.quality = 1
          · dsimp only
            rw [takeChannel_value hq, if_pos hq]
            exact (updStream_rowLeft i _ s).same (placeReceived_sameRows m _ _ _ _)
          · obtain ⟨h0, h1⟩ := not_or.1 hq
            dsimp only
            rw [takeChannel_bad h0 h1, if_neg hq]
            simp only [Option.isSome_some, Option.map_some, Option.getD_some, Bool.true_and, ne_eq, h0, h1, not_false_iff, and_self,
              decide_true, if_true]
            exact (updStream_rowLeft i _ s).same (abandonInput_sameRows m _)
    have hrest := ih (match (streamHeld i s).row.map[j], channels[j.val]? with
          | some m, some ch => takeChannel i c j m ch s
          | _, _ => s)
    rw [hstep.held i] at hrest
    exact hstep.then hrest

/-- R8, R11, R12: what a frame that is taken leaves in its row. -/
def StreamLive.taken (row : StreamRow) (f : SampleFrame) (x : StreamLive) : StreamLive :=
  let y := x.take f.counter row.lossTimeout
  allPositions.foldl (fun x j => x.channel row.map f.channels j) { y with gapCount := gapAt f.counter y.gapCount }

section
variable (row : StreamRow) (f : SampleFrame) (x : StreamLive)

/-- R12: but for the last values, the bad-quality count and the gap count a taken frame's row is `StreamLive.take`. -/
theorem StreamLive.taken_rest : x.taken row f = { x.take f.counter row.lossTimeout with
    gapCount := gapAt f.counter x.gapCount, lastValues := (x.taken row f).lastValues
    badQuality := (x.taken row f).badQuality } := foldl_channel_rest _ _ _ _

theorem StreamLive.taken_lastValues (j : Fin 12) : (x.taken row f).lastValues[j] =
    match row.map[j], f.channels[j.val]? with
    | some _, some ch => if ch.quality = 0 ∨ ch.quality = 1 then some ch.value else x.lastValues[j]
    | _, _ => x.lastValues[j] := by
  refine (foldl_channel_lastValues _ _ _ _ j).trans ((if_pos (List.mem_finRange j)).trans ?_)
  unfold channelValue
  generalize row.map[j] = mapped
  generalize f.channels[j.val]? = channel
  cases mapped <;> cases channel
  case some.some m ch =>
    dsimp only
    by_cases hq : ch.quality = 0 ∨ ch.quality = 1
    · rw [if_pos hq, if_pos hq]
    · rw [if_neg hq, if_neg hq]
      rfl
  all_goals rfl

theorem StreamLive.taken_badQuality : (x.taken row f).badQuality =
    if allPositions.countP (channelBad row.map f.channels) = 0 then x.badQuality
    else (x.badQuality + allPositions.countP (channelBad row.map f.channels)) % mod32 := foldl_channel_badQuality _ _ _ _

end

theorem takeFrame_rowLeft (i : Fin 16) (f : SampleFrame) (s : State) :
    RowLeft i (StreamLive.taken (streamHeld i s).row f) s (takeFrame i f s) := by
  have htake := updStream_rowLeft i (StreamLive.take f.counter (streamHeld i s).row.lossTimeout) s
  unfold takeFrame
  dsimp only
  generalize htold : (if s.acceptance.streams[i].status = .lost then
    logEvent .streamRunning (.row (.stream i)) none (s.updStream i (StreamLive.take f.counter (streamHeld i s).row.lossTimeout))
    else s.updStream i (StreamLive.take f.counter (streamHeld i s).row.lossTimeout)) = told
  have hlogged : RowLeft i (StreamLive.take f.counter (streamHeld i s).row.lossTimeout) s told := by
    rw [← htold]
    split
    · exact htake.same ((logEvent_sameBut _ _ _ _).sameRows (by simp) (by simp))
    · exact htake
  have hentered := hlogged.then (updStream_rowLeft i (fun x => { x with gapCount := gapAt f.counter x.gapCount }) told)
  have hchannels := foldl_takeChannel_rowLeft i f.counter f.channels allPositions (enterCounter i f.counter told)
  rw [show streamHeld i (enterCounter i f.counter told) = streamHeld i s from hentered.held i] at hchannels
  exact hentered.then hchannels

/-! ## A frame that is taken -/

theorem upd_self {α : Type} {n : Nat} {v : Vector α n} {i : Fin n} {f : α → α} (h : f v[i] = v[i]) : upd v i f = v := by
  unfold upd
  rw [h]
  exact Vector.set_getElem_self i.isLt

/-- R8: the counter gaps after a frame of the counter `c`, those before it being `gaps`. -/
def gapsAfter (c : Nat) (last : Option Nat) (gaps : Nat) : Nat :=
  match last with
  | none => gaps
  | some last => if counterDistance c last = 1 then gaps else (gaps + 1) % 4294967296

/-- R8 to R10: what goes before the frame moves the gap count and the counter gaps alone. -/
theorem judgeCounter_eq (i : Fin 16) (f : SampleFrame) (s : State)
    (h : ∀ last, s.acceptance.streams[i].lastCounter = some last → counterDistance f.counter last ≠ 0) :
    ∃ u gap, judgeCounter i f s = takeFrame i f u ∧ SameBut frameParts s u ∧
      RowLeft i (fun x => { x with gapCount := gap, counterGaps := gapsAfter f.counter x.lastCounter x.counterGaps }) s u := by
  generalize hrow : s.acceptance.streams[i].lastCounter = last at h
  have hself (hgaps : gapsAfter f.counter s.acceptance.streams[i].lastCounter s.acceptance.streams[i].counterGaps = s.acceptance.streams[i].counterGaps) :
      RowLeft i (fun x => { x with gapCount := s.acceptance.streams[i].gapCount, counterGaps := gapsAfter f.counter x.lastCounter x.counterGaps })
        s s := by
    exact ⟨rfl, (upd_self (by rw [hgaps])).symm⟩
  cases last with
  | none => exact ⟨s, _, judgeCounter_first hrow, .refl _ _, hself (by rw [hrow]; rfl)⟩
  | some last =>
    rw [judgeCounter_next hrow]
    dsimp only
    by_cases hnext : counterDistance f.counter last = 1
    · rw [if_pos hnext]
      exact ⟨s, _, rfl, .refl _ _, hself (by rw [hrow]; exact if_pos hnext)⟩
    · rw [if_neg hnext, if_neg (h last rfl)]
      have hcount := updStream_rowLeft i (fun x => { x with counterGaps := (x.counterGaps + 1) % 4294967296 }) s
      have hcounted : SameBut frameParts s (countGap i s) := (State.updStream_sameBut i _ s).mono (by simp)
      have hgaps (gap : Nat) {u : State} (hu : RowLeft i (fun x => { x with gapCount := gap }) (countGap i s) u) : RowLeft i
          (fun x => { x with gapCount := gap, counterGaps := gapsAfter f.counter x.lastCounter x.counterGaps }) s u := by
        have hleft := hcount.then hu
        refine ⟨hleft.memory, hleft.streams.trans ?_⟩
        simp only [upd, hrow, gapsAfter, if_neg hnext, Function.comp_apply]
      split
      · obtain ⟨gap, hgap⟩ := fillGap_rowLeft i (counterDistance f.counter last - 1) ((last + 1) % mod16) (countGap i s)
        exact ⟨_, gap, rfl, (fillGap_sameBut i _ _ _).after hcounted, hgaps gap hgap⟩
      · exact ⟨_, 0, rfl, ((abandonRow_sameBut i _).mono (by simp)).after hcounted, hgaps 0 (abandonRow_rowLeft i _)⟩

end Sys2Proof.Machine

namespace Sys2Proof.Machine

theorem State.updStream_updStream (i : Fin 16) (f g : StreamLive → StreamLive) (s : State) :
    (s.updStream i f).updStream i g = s.updStream i (g ∘ f) := by
  simp only [State.updStream, upd_upd]

/-- A transition that leaves the tables leaves all but the other parts it may touch. -/
theorem SameBut.keepMemory {ps : List Part} {s t : State} (h : SameBut ps s t) (hmem : t.memory = s.memory) :
    SameBut (ps.filter (· ≠ .memory)) s t := ⟨fun p hp => by
  by_cases hpm : p = .memory
  · subst hpm
    exact hmem
  · exact h.same p fun hin => hp (by simp [hin, hpm])⟩

/-- R8: a taken frame, each distance apart; the states that it is taken in are those of `judgeCounter`. -/
theorem sampleFrame_taken (f : SampleFrame) (s : State) (i : Fin 16) (hs : Ready s) (hmatch : Matches f s i)
    (hsim : PassesSimulated f s i) (hcount : f.channels.length = (streamHeld i s).row.channelCount) :
    exec (.sampleFrame f) s = .next (noteChange (s.dropMail (.sampleFrame f)) (judgeCounter i f (s.dropMail (.sampleFrame f)))) :=
  exec_of_body rfl hs (acceptFrame_judged (s := s.dropMail _) hmatch hsim hcount)

/-- Settles O3: what the frame leaves in its row is `StreamLive.taken` after the gap's part, then the rules step by step. -/
theorem sampleFrameTaken : Obligations.SampleFrameTaken := by
  refine ⟨?frame, ?take, ?channel, ?gap, fun i s => rfl, fun m s => rfl⟩
  case frame =>
    intro f s i hs hmatch hsim hcount hdist
    have hdrop : SameBut [.mail] s (s.dropMail (.sampleFrame f)) := State.dropMail_sameBut _ _
    obtain ⟨u, gap, hjudge, hsame, hleft⟩ := judgeCounter_eq i f (s.dropMail (.sampleFrame f)) hdist
    have hbefore := ((hdrop.sameRows (by simp) (by simp)).rowLeft (i := i)).then hleft
    have hframe := takeFrame_rowLeft i f u
    rw [hbefore.held] at hframe
    have hrow := hbefore.then hframe
    have htaken : SameBut frameParts s (takeFrame i f u) := (takeFrame_sameBut i f u).after (hsame.after (hdrop.mono (by simp)))
    have hlink := (hs.2.of_memory hrow.memory) .link (mem_allRows _)
    have hnote := noteChange_whole (before := s.dropMail (.sampleFrame f)) hlink
    have hend := hrow.same (hnote.sameRows (by simp) (by simp))
    have hparts := ((noteChange_iff (s.dropMail (.sampleFrame f)) _ (by simp)).2 (htaken.mono
      (qs := .ports :: .eventList :: frameParts) (by simp))).keepMemory hend.memory
    refine ⟨noteChange (s.dropMail (.sampleFrame f)) (takeFrame i f u), ?_, ?_⟩
    · rw [← hjudge]
      exact sampleFrame_taken f s i hs hmatch hsim hcount
    have hi := hend.row
    simp only [Function.comp_apply, id_eq] at hi
    generalize hx : ({ s.acceptance.streams[i] with
      gapCount := gap
      counterGaps := gapsAfter f.counter s.acceptance.streams[i].lastCounter s.acceptance.streams[i].counterGaps } : StreamLive) = x
      at hi
    have hrest := hi.trans (StreamLive.taken_rest (streamHeld i s).row f x)
    refine ⟨congrArg StreamLive.status hrest, congrArg StreamLive.lastCounter hrest, congrArg StreamLive.loss hrest,
      (congrArg StreamLive.framesAccepted hrest).trans (by rw [← hx]; rfl),
      (congrArg StreamLive.wrongCount hrest).trans (by rw [← hx]; rfl),
      (congrArg StreamLive.counterGaps hrest).trans (by rw [← hx]; rfl),
      fun j => ?_, ?_, fun k hk => hend.other hk, hparts.mono (by decide), ?_⟩
    · rw [hi, StreamLive.taken_lastValues, ← hx] <;> rfl
    · rw [hi, StreamLive.taken_badQuality, ← hx]
      rfl
    intro s₀ gapped told
    refine ⟨fun hfirst => ?_, ?_⟩
    · exact congrArg (noteChange s₀) (hjudge.symm.trans (judgeCounter_first hfirst))
    · intro last hlast d
      have hnext := hjudge.symm.trans (judgeCounter_next (s := s₀) hlast)
      have hne : d ≠ 0 := hdist last hlast
      refine ⟨fun hd => ?_, fun hlow hhigh => ?_, fun hjump => ?_⟩
      · exact congrArg (noteChange s₀) (hnext.trans (if_pos hd))
      · exact congrArg (noteChange s₀) (hnext.trans ((if_neg (Nat.ne_of_gt hlow)).trans ((if_neg hne).trans (if_pos hhigh))))
      · exact congrArg (noteChange s₀) (hnext.trans ((if_neg (by omega)).trans ((if_neg hne).trans (if_neg (Nat.not_le.2 hjump)))))
  case take => exact fun i f s => rfl
  case channel =>
    intro i c j m ch s
    exact ⟨takeChannel_value, fun h0 h1 => takeChannel_bad h0 h1⟩
  case gap =>
    intro i c n s gap entered
    have hgap : (enterCounter i c s).acceptance.streams[i].gapCount = gap :=
      congrArg StreamLive.gapCount (updStream_rowLeft i (fun x => { x with gapCount := gapAt c x.gapCount }) s).row
    have hentered : enterCounter i c s = entered := rfl
    refine ⟨rfl, fun hfull => ?_, fun hroom => ?_⟩
    · refine (if_pos (by rw [hgap]; exact hfull)).trans (congrArg _ hentered)
    · refine (if_neg (by rw [hgap]; exact Nat.not_le.2 hroom)).trans ?_
      rw [hgap, enterCounter, State.updStream_updStream]
      rfl

end Sys2Proof.Machine

namespace Sys2Proof.Machine

/-! ## The integer square root -/

theorem isqrtBits_spec (n : Nat) : ∀ k r, r * r ≤ n → n < (r + 2 ^ k) * (r + 2 ^ k) →
    isqrtBits n k r * isqrtBits n k r ≤ n ∧ n < (isqrtBits n k r + 1) * (isqrtBits n k r + 1)
  | 0, _, hle, hlt => ⟨hle, hlt⟩
  | k + 1, r, hle, hlt => by
    have htwo : 2 ^ k + 2 ^ k = 2 ^ (k + 1) := by rw [Nat.pow_succ]; omega
    unfold isqrtBits
    split
    · next hbit => exact isqrtBits_spec n k (r + 2 ^ k) hbit (by rw [Nat.add_assoc, htwo]; exact hlt)
    · next hbit => exact isqrtBits_spec n k r hle (Nat.not_le.1 hbit)

theorem isqrt_spec (n : Nat) : isqrt n * isqrt n ≤ n ∧ n < (isqrt n + 1) * (isqrt n + 1) := by
  refine isqrtBits_spec n _ 0 (Nat.zero_le n) ?_
  rw [Nat.zero_add, ← Nat.pow_add]
  exact Nat.lt_log2_self.trans_le (Nat.pow_le_pow_right (by decide) (by omega))

theorem isqrt_le_of_lt_sq {n b : Nat} (h : n < (b + 1) * (b + 1)) : isqrt n ≤ b := by
  by_contra hb
  exact absurd ((Nat.mul_le_mul (Nat.not_le.1 hb) (Nat.not_le.1 hb)).trans (isqrt_spec n).1) (Nat.not_le.2 h)

/-! ## The sums of a window (R23, R24) -/

/-- The sum over positions `n` to `n + k - 1` of the table's entries. -/
def tableSum (f : Nat → Int) (h : Nat) : Nat → Nat → Int
  | _, 0 => 0
  | n, k + 1 => f (h * n % 64) + tableSum f h (n + 1) k

theorem dftSum_replicate (f : Nat → Int) (h k : Nat) (x : Int) : ∀ n, dftSum f h n (List.replicate k x) = x * tableSum f h n k := by
  induction k with
  | zero => intro n; simp [dftSum, tableSum]
  | succ k ih => intro n; rw [List.replicate_succ, dftSum, ih, tableSum, Int.mul_add]

/-- A sum is bounded by the bound on its samples and the sum of the table's absolute values. -/
theorem dftSum_natAbs_le (f : Nat → Int) (h b : Nat) (xs : List Int) : ∀ n, (∀ x ∈ xs, x.natAbs ≤ b) →
    (dftSum f h n xs).natAbs ≤ b * (tableSum (fun k => (f k).natAbs) h n xs.length).natAbs := by
  have hnonneg : ∀ k n, 0 ≤ tableSum (fun k => ((f k).natAbs : Int)) h n k := by
    intro k
    induction k with
    | zero => exact fun n => le_refl _
    | succ k ih => exact fun n => Int.add_nonneg (Int.natCast_nonneg _) (ih _)
  induction xs with
  | nil => intro n _; simp [dftSum]
  | cons x xs ih =>
    intro n hxs
    have hx := hxs x (List.mem_cons_self ..)
    have hrest := ih (n + 1) fun y hy => hxs y (List.mem_cons_of_mem _ hy)
    have hsplit : (tableSum (fun k => ((f k).natAbs : Int)) h n (xs.length + 1)).natAbs =
        (f (h * n % 64)).natAbs + (tableSum (fun k => ((f k).natAbs : Int)) h (n + 1) xs.length).natAbs := by
      have hpos := hnonneg xs.length (n + 1)
      rw [tableSum]
      omega
    rw [dftSum, List.length_cons, hsplit, Nat.mul_add]
    refine (Int.natAbs_add_le _ _).trans (Nat.add_le_add ?_ hrest)
    rw [Int.natAbs_mul]
    exact Nat.mul_le_mul_right _ hx

/-- R23: over a window the entries of both tables cancel for every order. -/
theorem tableSum_tables : ∀ h ∈ Finset.Icc 1 15, tableSum cosTable h 0 64 = 0 ∧ tableSum sinTable h 0 64 = 0 := by decide

/-- R23: over a window the absolute values of the entries of either table sum to 667,004 at most. -/
theorem tableSum_abs : ∀ h ∈ Finset.Icc 1 15, (tableSum (fun k => (cosTable k).natAbs) h 0 64).natAbs ≤ 667004 ∧
    (tableSum (fun k => (sinTable k).natAbs) h 0 64).natAbs ≤ 667004 := by decide

theorem phasorOf_natAbs_le {x : Int} (hx : x.natAbs ≤ 8388608 * 667004) : (phasorOf x).natAbs ≤ 7546134 := by
  unfold phasorOf
  rw [Int.natAbs_tdiv, Int.natAbs_mul]
  refine (Nat.div_le_div_right (Nat.mul_le_mul_right _ hx)).trans ?_
  decide

theorem rmsOf_magnitude_le {re im : Int} (hre : re.natAbs ≤ 8388608 * 667004) (him : im.natAbs ≤ 8388608 * 667004) :
    rmsOf (magnitude re im) ≤ 10671855 := by
  have hmag : magnitude re im ≤ 7912860000000 := by
    refine isqrt_le_of_lt_sq ?_
    have hre2 := Nat.mul_le_mul hre hre
    have him2 := Nat.mul_le_mul him him
    generalize re.natAbs * re.natAbs = a at hre2 ⊢
    generalize im.natAbs * im.natAbs = b at him2 ⊢
    omega
  refine (Nat.div_le_div_right (Nat.mul_le_mul_right _ hmag)).trans ?_
  decide

/-- Settles O8. -/
theorem engineArithmetic : Obligations.EngineArithmetic := by
  refine ⟨isqrt_spec, fun x h hlo hhi => ?_, fun xs h hlen hxs hlo hhi => ?_⟩
  · obtain ⟨hcos, hsin⟩ := tableSum_tables h (Finset.mem_Icc.2 ⟨hlo, hhi⟩)
    exact ⟨by rw [dftRe, dftSum_replicate, hcos, Int.mul_zero], by rw [dftIm, dftSum_replicate, hsin, Int.mul_zero, Int.neg_zero]⟩
  · obtain ⟨hcos, hsin⟩ := tableSum_abs h (Finset.mem_Icc.2 ⟨hlo, hhi⟩)
    have hre : (dftRe xs h).natAbs ≤ 8388608 * 667004 := by
      refine (dftSum_natAbs_le cosTable h 8388608 xs 0 hxs).trans ?_
      rw [hlen]
      exact Nat.mul_le_mul_left _ hcos
    have him : (dftIm xs h).natAbs ≤ 8388608 * 667004 := by
      rw [dftIm, Int.natAbs_neg]
      refine (dftSum_natAbs_le sinTable h 8388608 xs 0 hxs).trans ?_
      rw [hlen]
      exact Nat.mul_le_mul_left _ hsin
    exact ⟨hre, him, rmsOf_magnitude_le hre him, phasorOf_natAbs_le hre, phasorOf_natAbs_le him⟩

end Sys2Proof.Machine

namespace Sys2Proof.Machine

/-! ## A publication (R31, R43 to R52) -/

theorem markChange_eq (before s : State) : markChange before s =
    if s.link.destination ≠ 0 ∧ yardSummary before ≠ yardSummary s then
      { s with events := { s.events with changePending := true } } else s :=
  if_congr (and_congr decide_eq_true_iff Iff.rfl) rfl rfl

theorem evaluable_eq (r : ResultRecord) : evaluable r = (decide (r.quality ≠ .invalid) && !r.lowFundamental) := by
  unfold evaluable
  simp

section
variable {m : Fin 38} {r : ResultRecord} {s : State}

theorem inputStep_none (h : m.val < 6) : inputStep m = none := if_neg (by omega)

/-- R31: an input of no step and not MI 0 has the harmonic supervisor alone. -/
theorem actOnPublication_bus (hstep : inputStep m = none) (hm : m ≠ 0) : actOnPublication m s = harmonicPublication m s := by
  unfold actOnPublication
  rw [hstep]
  exact if_neg hm

theorem actOnPublication_main : actOnPublication 0 s = controlEvaluation (harmonicPublication 0 s) := by
  unfold actOnPublication
  rw [inputStep_none (by decide)]
  exact if_pos rfl

theorem harmonicPublication_step (h : ¬ m.val < 6) : harmonicPublication m s = s := by
  unfold harmonicPublication
  exact dif_neg h

theorem stepInput_val (i : Fin 8) (k : Fin 4) : (stepInput i k).val = 6 + 4 * i.val + k.val := rfl

/-- R31: an input of a step, by its place. -/
theorem actOnPublication_step (i : Fin 8) (k : Fin 4) : actOnPublication (stepInput i k) s =
    if k = 3 then unbalanceEvaluate i s else if k = 0 then heatUpdate i s else s := by
  have hval := stepInput_val i k
  unfold actOnPublication
  rw [inputStep_eq_some.2 rfl, harmonicPublication_step (by omega)]
  exact if_neg fun h => by
    have := congrArg Fin.val h
    rw [hval] at this
    exact absurd this (by simp)

/-- R43: the elements of an input on an evaluable record. -/
def elementsMoved (k : Fin 6) (r : ResultRecord) (s : State) : State :=
  if evaluable r then (List.finRange 15).foldl (moveElement k r) s else s

/-- R47, R48: the held figure of a bus phase and the block conditions, on an evaluable record. -/
def blocksFormed (k : Fin 3) (r : ResultRecord) (s : State) : State :=
  if evaluable r then (List.finRange 15).foldl reformBlock { s with harmonic := { s.harmonic with
    held := s.harmonic.held.set k (some { ratios := r.ratios, thd := r.thd }) } }
  else s

/-- R43, R47, R48: the elements, the held figure and the conditions of a bus phase. -/
def phaseFormed (k : Fin 3) (r : ResultRecord) (s : State) : State :=
  blocksFormed k r (elementsMoved ⟨k.val, by omega⟩ r s)

theorem harmonicPublication_supervised (k : Fin 6) (hk : k.val = m.val) (h3 : 3 ≤ k.val) (hr : s.engine.results[m] = r) :
    harmonicPublication m s = elementsMoved k r s := by
  unfold harmonicPublication
  dsimp only
  rw [dif_pos (show m.val < 6 by omega), dif_neg (show ¬ m.val < 3 by omega), hr,
    show (⟨m.val, by omega⟩ : Fin 6) = k from Fin.ext hk.symm]
  rfl

theorem harmonicPublication_phase (k : Fin 3) (hk : k.val = m.val) (h0 : k.val ≠ 0) (hr : s.engine.results[m] = r) :
    harmonicPublication m s = reformNextCount (phaseFormed k r s) := by
  obtain ⟨k, hk3⟩ := k
  obtain rfl : k = m.val := hk
  unfold harmonicPublication
  dsimp only
  rw [dif_pos (show m.val < 6 by omega), dif_pos hk3, if_neg (fun h => h0 h.1), if_neg (fun h => h0 h.1), hr]
  rfl

theorem harmonicPublication_main (hr : s.engine.results[(0 : Fin 38)] = r) : harmonicPublication 0 s =
    let v := reformNextCount (if evaluable r then updateSustain (phaseFormed 0 r s) else phaseFormed 0 r s)
    if detuneDue v = true then hand .detuneRequest v else v := by
  unfold harmonicPublication
  dsimp only
  rw [dif_pos (show (0 : Fin 38).val < 6 by decide), dif_pos (show (0 : Fin 38).val < 3 by decide), hr]
  have hmain : ((0 : Fin 38).val = 0) = True := eq_true rfl
  simp only [hmain, true_and]
  rfl

end

/-! ## Notices (R22, R32) -/

section
variable {m : Fin 38} {w : Fin 2} {s : State} {v : Vector Bool 2}

theorem any_toList_iff (v : Vector Bool 2) : v.toList.any id = true ↔ ∃ w : Fin 2, v[w] = true := by
  rw [List.any_eq_true]
  constructor
  · rintro ⟨b, hb, htrue⟩
    obtain ⟨k, hk, rfl⟩ := List.getElem_of_mem hb
    exact ⟨⟨k, by simpa using hk⟩, by simpa using htrue⟩
  · rintro ⟨w, hw⟩
    exact ⟨v[w], by simp, hw⟩

/-- A notice that is published keeps none pending. -/
theorem setNotice_setNotice (x y : Option (Vector Bool 2)) : setNotice m y (setNotice m x s) = setNotice m y s := by
  simp [setNotice]

theorem setNotice_notices (x : Option (Vector Bool 2)) : (setNotice m x s).engine.notices[m] = x :=
  Vector.getElem_set_self m.isLt

theorem settleNotice_waits (h : ∃ w : Fin 2, v[w] = true) :
    settleNotice m (setNotice m (some v) s) = setNotice m (some v) s := by
  unfold settleNotice
  rw [setNotice_notices]
  exact if_pos ((any_toList_iff v).2 h)

theorem settleNotice_free (h : ∀ w : Fin 2, v[w] = false) :
    settleNotice m (setNotice m (some v) s) = publishInvalid m (setNotice m none s) := by
  unfold settleNotice
  rw [setNotice_notices]
  refine (if_neg fun hany => ?_).trans (congrArg (publishInvalid m) (setNotice_setNotice _ _))
  obtain ⟨w, hw⟩ := (any_toList_iff v).1 hany
  exact Bool.false_ne_true ((h w).symm.trans hw)

theorem standsAhead_iff (x : Window) : standsAhead x = true ↔ x.state = .queued ∨ x.state = .computing false := by
  unfold standsAhead
  cases x.state with
  | computing b => cases b <;> simp
  | _ => simp

/-- R22: the windows that a notice handed now waits for. -/
def noticeWaits (m : Fin 38) (s : State) : Vector Bool 2 :=
  Vector.ofFn fun w : Fin 2 => (s.engine.notices[m].getD (Vector.replicate 2 false))[w] || standsAhead (s.window m w)

theorem noticeWaits_iff : (noticeWaits m s)[w] = true ↔
    (∃ held, s.engine.notices[m] = some held ∧ held[w] = true) ∨
      ((s.window m w).state = .queued ∨ (s.window m w).state = .computing false) := by
  have hget : (noticeWaits m s)[w] =
      ((s.engine.notices[m].getD (Vector.replicate 2 false))[w] || standsAhead (s.window m w)) := Vector.getElem_ofFn w.isLt
  rw [hget, Bool.or_eq_true, standsAhead_iff]
  refine or_congr ?_ Iff.rfl
  cases s.engine.notices[m] with
  | none => simp
  | some held => simp

theorem handNotice_eq : handNotice m s = settleNotice m (setNotice m (some (noticeWaits m s)) s) := rfl

theorem endWait_some (h : s.engine.notices[m] = some v) :
    endWait m w s = settleNotice m (setNotice m (some (v.set w false)) s) := by
  unfold endWait
  rw [h]

end

end Sys2Proof.Machine

namespace Sys2Proof.Machine

/-- R22: a notice that waits for no window is published at once. -/
theorem handNotice_free {m : Fin 38} {s : State} (h : ∀ w : Fin 2, (noticeWaits m s)[w] = false) :
    handNotice m s = publish m (invalidRecord s.engine.results[m]) (setNotice m none s) :=
  handNotice_eq.trans (settleNotice_free h)

/-- Settles O7: the publication by its input, the notice by the windows it waits for. -/
theorem publicationAndNotice : Obligations.PublicationAndNotice := by
  refine ⟨?record, ?consumers, fun s => reformNextCount_eq s, ?notice, ?ends, ?fresh⟩
  case record =>
    intro m r s
    exact ((markChange_sameBut _ _).same .engine (by simp)).trans ((actOnPublication_sameBut m _).same .engine (by simp))
  case consumers =>
    intro m r s u told good moved formed
    have hpublish : publish m r s = told (actOnPublication m u) := markChange_eq s _
    have hr : u.engine.results[m] = r := Vector.getElem_set_self m.isLt
    have hgood : evaluable r = good := evaluable_eq r
    have hmoved (k : Fin 6) : elementsMoved k r u = moved k := by unfold elementsMoved; rw [hgood]
    have hformed (k : Fin 3) : phaseFormed k r u = formed k := by
      unfold phaseFormed blocksFormed
      rw [hgood, hmoved]
    refine ⟨fun hm => ?_, fun k hk h0 => ?_, fun k hk h3 => ?_, fun i => ⟨?_, ?_, ?_⟩⟩
    · obtain rfl : m = 0 := Fin.ext hm
      rw [hpublish, actOnPublication_main, harmonicPublication_main hr, hgood, hformed 0]
    · rw [hpublish, actOnPublication_bus (inputStep_none (by omega)) fun h => h0 (hk.trans (congrArg Fin.val h)),
        harmonicPublication_phase k hk h0 hr, hformed]
    · rw [hpublish, actOnPublication_bus (inputStep_none (by omega)) fun h => by subst h; exact absurd (h3.trans_eq hk) (by decide),
        harmonicPublication_supervised k hk h3 hr, hmoved]
    · rintro rfl
      exact hpublish.trans (congrArg told (actOnPublication_step i 0))
    · rintro (rfl | rfl)
      · exact hpublish.trans (congrArg told (actOnPublication_step i 1))
      · exact hpublish.trans (congrArg told (actOnPublication_step i 2))
    · rintro rfl
      exact hpublish.trans (congrArg told (actOnPublication_step i 3))
  case notice =>
    intro m s ahead waits
    refine ⟨fun hnone => handNotice_free fun w => ?_, fun v hsome hv => ?_⟩
    · exact Bool.eq_false_iff.2 fun hw => hnone w (noticeWaits_iff.1 hw)
    · have hwaits : noticeWaits m s = v := Vector.ext fun w hw =>
        Bool.eq_iff_iff.2 ((noticeWaits_iff (w := ⟨w, hw⟩)).trans (hv ⟨w, hw⟩).symm)
      obtain ⟨w, hw⟩ := hsome
      rw [handNotice_eq, hwaits, settleNotice_waits ⟨w, (hv w).2 hw⟩]
      rfl
  case ends =>
    intro m w s
    refine ⟨endWait_none, fun v hv => ⟨fun ⟨w', hne, hw'⟩ => ?_, fun hrest => ?_⟩⟩
    · refine (endWait_some hv).trans (settleNotice_waits ⟨w', ?_⟩)
      exact (Vector.getElem_set_ne w.isLt w'.isLt fun h => hne (Fin.ext h.symm)).trans hw'
    · refine (endWait_some hv).trans (settleNotice_free fun w' => ?_)
      by_cases hw' : w' = w
      · subst hw'
        exact Vector.getElem_set_self w'.isLt
      · exact (Vector.getElem_set_ne w.isLt w'.isLt fun h => hw' (Fin.ext h.symm)).trans (hrest w' hw')
  case fresh =>
    intro m s hnone
    have hwaits (w : Fin 2) : (noticeWaits m s)[w] = true ↔
        ((s.window m w).state = .queued ∨ (s.window m w).state = .computing false) := by
      refine noticeWaits_iff.trans (or_iff_right ?_)
      rintro ⟨held, hheld, -⟩
      exact absurd (hnone.symm.trans hheld) (by nofun)
    refine ⟨fun hstands => ?_, fun ⟨w, hw⟩ => ⟨noticeWaits m s, hwaits, ?_⟩⟩
    · have hself : setNotice m none s = s := by
        unfold setNotice
        rw [show s.engine.notices.set m none = s.engine.notices by rw [← hnone]; exact Vector.set_getElem_self m.isLt]
      rw [handNotice_free fun w => Bool.eq_false_iff.2 fun hw => ((hwaits w).1 hw).elim (hstands w).1 (hstands w).2, hself]
      rfl
    · rw [handNotice_eq, settleNotice_waits ⟨w, (hwaits w).2 hw⟩]
      rfl

end Sys2Proof.Machine

namespace Sys2Proof.Machine

/-! ## An evaluation (R115 to R120) -/

theorem allBelow_iff {s : State} {level : Nat} : allBelow level (busFundamentals s) = true ↔ ∀ v ∈ busFundamentals s, v < level := by
  simp only [allBelow, List.all_eq_true, decide_eq_true_eq]

theorem allAtOrAbove_iff {s : State} {level : Nat} :
    allAtOrAbove level (busFundamentals s) = true ↔ ∀ v ∈ busFundamentals s, level ≤ v := by
  simp only [allAtOrAbove, List.all_eq_true, decide_eq_true_eq]

theorem not_above_of_below {s : State} {level : Nat} (h : ∀ v ∈ busFundamentals s, v < level) :
    ¬ ∀ v ∈ busFundamentals s, level ≤ v := fun habove =>
  have hmem : s.engine.results[0].rms[0] ∈ busFundamentals s := List.mem_cons_self ..
  absurd (h _ hmem) (Nat.not_lt.2 (habove _ hmem))

section
variable {s : State} {valid below above : Bool} {c : Nat} (hvalid : s.switching.valid = valid)
  (hbelow : allBelow s.yard.deadLevel (busFundamentals s) = below)
  (habove : allAtOrAbove s.yard.deadLevel (busFundamentals s) = above)
  (hcount : deadCountAfter valid below s.switching.deadCount = c)
include hvalid hbelow habove hcount

omit habove in
theorem lineRules_live (h : s.switching.line = .live) : lineRules s =
    let u := s.updSwitching fun w => { w with deadCount := c }
    if valid && below && s.yard.deadDelay ≤ c then goDead u else u := by
  subst hvalid hbelow hcount
  unfold lineRules
  dsimp only
  rw [State.updSwitching_switching]
  dsimp only
  rw [h]
  rfl

theorem lineRules_restore (h : s.switching.line = .restore) : lineRules s =
    let u := s.updSwitching fun w => { w with deadCount := c }
    if valid && below then goDead u
    else if valid && above then u.updSwitching fun w => { w with restore := some (w.restore.getD 0) }
    else u.updSwitching fun w => { w with restore := none } := by
  subst hvalid hbelow habove hcount
  unfold lineRules
  dsimp only
  rw [State.updSwitching_switching]
  dsimp only
  rw [h]
  rfl

theorem lineRules_dead (h : s.switching.line = .dead) : lineRules s =
    let u := s.updSwitching fun w => { w with deadCount := c }
    if valid && above then
      logEvent .lineRestore .none none (u.updSwitching fun w => { w with line := .restore, restore := some 0 })
    else u := by
  subst hvalid hbelow habove hcount
  unfold lineRules
  dsimp only
  rw [State.updSwitching_switching]
  dsimp only
  rw [h]
  rfl

end

theorem evaluationValid_eq (s : State) : evaluationValid s = decide ((∀ k : Fin 3, s.engine.results[k.val].quality ≠ .invalid) ∧
    s.engine.results[1].age ≤ 2 ∧ s.engine.results[2].age ≤ 2) := by
  unfold evaluationValid
  refine decide_eq_decide.2 ?_
  rw [Fin.forall_fin_succ, Fin.forall_fin_two]
  simp only [and_assoc]
  rfl

theorem formControlQuantity_eq (s : State) (valid : Bool) (hvalid : evaluationValid s = valid) : formControlQuantity s =
    let w := s.switching
    let v := (s.engine.results[0].rms[0] + s.engine.results[1].rms[0] + s.engine.results[2].rms[0]) / 3
    let formed : State := { s with switching := { w with valid := valid, vctrl := if valid then some v else w.vctrl } }
    if valid = true ∧ w.valid = false then logEvent .measValid .none none formed
    else if valid = false ∧ w.valid = true then logEvent .measInvalid .none none formed
    else formed := by
  have hsum : (busFundamentals s).sum = s.engine.results[0].rms[0] + s.engine.results[1].rms[0] + s.engine.results[2].rms[0] := by
    simp only [busFundamentals, List.sum_cons, List.sum_nil, Nat.add_zero, Nat.add_assoc]
  unfold formControlQuantity
  dsimp only
  rw [hvalid, hsum]
  cases valid <;> cases s.switching.valid <;> rfl

/-- R114, R133: an evaluation by the state of the Yard Table. -/
theorem controlEvaluation_eq (s : State) : controlEvaluation s = bandRules
    (if s.yardDamaged then formControlQuantity s
     else lineRules ((formControlQuantity s).updSwitching fun w => { w with uLo := s.yard.uLo, uHi := s.yard.uHi })) := by
  have hmem : (formControlQuantity s).memory = s.memory := (formControlQuantity_sameBut s).same .memory (by simp)
  have hdamaged : (formControlQuantity s).yardDamaged = s.yardDamaged := by unfold State.yardDamaged; rw [hmem]
  have hyard : (formControlQuantity s).yard = s.yard := by unfold State.yard; rw [hmem]
  unfold controlEvaluation takeLimits
  rw [hdamaged, hyard]
  cases hd : s.yardDamaged
  · exact congrArg bandRules (if_neg fun h => Bool.false_ne_true ((hdamaged.trans hd).symm.trans h))
  · exact congrArg bandRules (if_pos (hdamaged.trans hd))

/-- R120: the band's rules at a valid evaluation. -/
theorem bandRules_valid {s : State} {v : Nat} (hline : s.switching.line = .live) (hvalid : s.switching.valid = true)
    (hv : s.switching.vctrl = some v) : bandRules s = s.updSwitching (if s.switching.uHi < v then bandAbove
      else if v < s.switching.uLo then bandBelow else bandWithin) := by
  unfold bandRules
  rw [if_pos hline, hvalid, hv]
  dsimp only
  rw [apply_ite (f := fun f => State.updSwitching f s), apply_ite (f := fun f => State.updSwitching f s)]

theorem bandRules_invalid {s : State} (hline : s.switching.line = .live) (hvalid : s.switching.valid = false) :
    bandRules s = s.updSwitching fun w => { w with high := w.high.pause, low := w.low.pause } := by
  unfold bandRules
  rw [if_pos hline, hvalid]

theorem band_quiet {w : SwitchingState} (h : w.control = .manual ∨ w.control = .autoPending ∨ w.control = .autoSettle) :
    bandAbove w = w ∧ bandBelow w = w ∧ bandWithin w = w := by
  unfold bandAbove bandBelow bandWithin
  rcases h with h | h | h <;> rw [h] <;> exact ⟨rfl, rfl, rfl⟩

/-- Settles O31. -/
theorem evaluationRules : Obligations.EvaluationRules := by
  refine ⟨?evaluation, ?line, ?band⟩
  case evaluation =>
    intro s w r valid v formed told
    have hform : formControlQuantity s = told := formControlQuantity_eq s valid (evaluationValid_eq s)
    rw [controlEvaluation_eq, hform]
    exact ⟨fun hwhole => congrArg bandRules (if_neg (Bool.eq_false_iff.1 hwhole)), fun hdamaged => congrArg bandRules (if_pos hdamaged)⟩
  case line =>
    intro s w below above
    have hbelow : allBelow s.yard.deadLevel (busFundamentals s) = true ↔ below := allBelow_iff
    have habove : allAtOrAbove s.yard.deadLevel (busFundamentals s) = true ↔ above := allAtOrAbove_iff
    refine ⟨fun hvalid hlow => ?_, fun hnot => ?_⟩
    · have hnotAbove := Bool.eq_false_iff.2 (mt habove.1 (not_above_of_below hlow))
      refine ⟨fun hline => ?_, fun hline => ?_, fun hline => ?_⟩
      · exact (lineRules_live hvalid (hbelow.2 hlow) rfl hline).trans (if_congr decide_eq_true_iff rfl rfl)
      · exact (lineRules_restore hvalid (hbelow.2 hlow) hnotAbove rfl hline).trans (if_pos rfl)
      · exact (lineRules_dead hvalid (hbelow.2 hlow) hnotAbove rfl hline).trans (if_neg Bool.false_ne_true)
    · have hquiet : (w.valid && allBelow s.yard.deadLevel (busFundamentals s)) = false :=
        Bool.eq_false_iff.2 fun h => hnot ⟨(Bool.and_eq_true_iff.1 h).1, hbelow.1 (Bool.and_eq_true_iff.1 h).2⟩
      have hcount : deadCountAfter w.valid (allBelow s.yard.deadLevel (busFundamentals s)) w.deadCount = 0 :=
        if_neg (Bool.eq_false_iff.1 hquiet)
      have hline_not (b : Bool) : ¬ (w.valid && allBelow s.yard.deadLevel (busFundamentals s) && b) = true := by
        rw [hquiet]
        exact Bool.false_ne_true
      refine ⟨fun hline => (lineRules_live rfl rfl hcount hline).trans (if_neg (hline_not _)),
        fun hvalid hhigh => ?_, fun hlow => ?_⟩
      · have hup : (w.valid && allAtOrAbove s.yard.deadLevel (busFundamentals s)) = true :=
          Bool.and_eq_true_iff.2 ⟨hvalid, habove.2 hhigh⟩
        exact ⟨fun hline => (lineRules_dead rfl rfl rfl hcount hline).trans (if_pos hup),
          fun hline => (lineRules_restore rfl rfl rfl hcount hline).trans
            ((if_neg (Bool.eq_false_iff.1 hquiet)).trans (if_pos hup))⟩
      · have hdown : ¬ (w.valid && allAtOrAbove s.yard.deadLevel (busFundamentals s)) = true := fun h =>
          hlow ⟨(Bool.and_eq_true_iff.1 h).1, habove.1 (Bool.and_eq_true_iff.1 h).2⟩
        exact ⟨fun hline => (lineRules_dead rfl rfl rfl hcount hline).trans (if_neg hdown),
          fun hline => (lineRules_restore rfl rfl rfl hcount hline).trans
            ((if_neg (Bool.eq_false_iff.1 hquiet)).trans (if_neg hdown))⟩
  case band =>
    intro s w resume pause
    refine ⟨fun hline => if_neg hline, fun hline hvalid => bandRules_invalid hline hvalid, fun hline hvalid v hv => ?_⟩
    refine ⟨_, bandRules_valid hline hvalid hv, fun hc => ?_, fun hhi => ?_, fun hhi hlo => ?_, fun hhi hlo => ?_⟩
    · obtain ⟨habove, hbelow, hwithin⟩ := band_quiet hc
      split
      · exact habove
      · split
        · exact hbelow
        · exact hwithin
    · rw [if_pos hhi]
      exact ⟨fun hc => by rw [bandAbove, hc], fun hc => by rw [bandAbove, hc]; rfl, fun hc => by rw [bandAbove, hc]⟩
    · rw [if_neg (Nat.not_lt.2 hhi), if_pos hlo]
      exact ⟨fun hc => by rw [bandBelow, hc], fun hc => by rw [bandBelow, hc]; rfl, fun hc => by rw [bandBelow, hc]⟩
    · rw [if_neg (Nat.not_lt.2 hhi), if_neg (Nat.not_lt.2 hlo)]
      exact ⟨fun hc => by rw [bandWithin, hc], fun hc => by rw [bandWithin, hc], fun hc => by rw [bandWithin, hc]⟩

end Sys2Proof.Machine

namespace Sys2Proof.Machine

/-! ## The judgement of a band timer's expiry (R121) -/

section
variable {rise v : Nat} {s : State}

theorem queueRoom_iff : queueRoom s = true ↔ s.switching.queue.length < 4 := decide_eq_true_iff

theorem judgeHigh_defers {c : Condition} (h : highCheck rise s = some c) : judgeHigh rise s = startSettle (defer .opn c s) := by
  unfold judgeHigh
  rw [h]

theorem judgeHigh_arrives (h : highCheck rise s = none) : judgeHigh rise s = arriveAuto .opn .high s := by
  unfold judgeHigh
  rw [h]

theorem judgeLow_defers {c : Condition} (h : lowCheck rise s = some c) : judgeLow rise s = startSettle (defer .close c s) := by
  unfold judgeLow
  rw [h]

theorem judgeLow_arrives (h : lowCheck rise s = none) : judgeLow rise s = arriveAuto .close .low s := by
  unfold judgeLow
  rw [h]

/-- R121: the high timer's condition, part by part. -/
theorem highCheck_eq (hv : s.switching.vctrl = some v) : highCheck rise s =
    if s.switching.uLo + rise < v then
      if 1 ≤ s.inCount then if s.switching.queue.length < 4 then none else some .queueFull else some .noStep
    else some .voltage := by
  unfold highCheck
  rw [hv]
  simp only [firstFailing, Option.map_some, Option.getD_some, decide_eq_true_eq, queueRoom_iff]

theorem lowCheck_eq (hv : s.switching.vctrl = some v) : lowCheck rise s =
    if v + rise < s.switching.uHi then
      if s.energisedCount < s.yard.maxSteps then if s.switching.queue.length < 4 then none else some .queueFull
      else some .maximum
    else some .voltage := by
  unfold lowCheck lowVoltage
  rw [hv]
  simp only [firstFailing, Option.map_some, Option.getD_some, decide_eq_true_eq, queueRoom_iff]

theorem highRuns_iff : highRuns s = true ↔
    s.switching.control = .autoHigh ∧ (∃ c, s.switching.high = .running c) ∧ s.switching.expiryHeld = none := by
  unfold highRuns
  rw [decide_eq_true_eq, Option.isNone_iff_eq_none]
  refine and_congr_right fun _ => and_congr_left fun _ => ?_
  cases s.switching.high <;> simp [BandTimer.isRunning]

theorem lowRuns_iff : lowRuns s = true ↔
    s.switching.control = .autoLow ∧ (∃ c, s.switching.low = .running c) ∧ s.switching.expiryHeld = none := by
  unfold lowRuns
  rw [decide_eq_true_eq, Option.isNone_iff_eq_none]
  refine and_congr_right fun _ => and_congr_left fun _ => ?_
  cases s.switching.low <;> simp [BandTimer.isRunning]

theorem highExpiry_judges (h : highRuns s = true) (hsel : s.switching.selection = none) :
    highExpiry s = judgeHigh s.yard.stepRise s := by
  unfold highExpiry
  rw [if_pos h, hsel]
  exact if_neg Bool.false_ne_true

theorem highExpiry_holds (h : highRuns s = true) (hsel : s.switching.selection ≠ none) : highExpiry s =
    s.updSwitching fun w => { w with expiryHeld := some s.yard.stepRise, high := .running (s.yard.highDelay * 1000) } := by
  unfold highExpiry
  rw [if_pos h]
  exact if_pos (Option.isSome_iff_ne_none.2 hsel)

theorem lowExpiry_judges (h : lowRuns s = true) (hsel : s.switching.selection = none) :
    lowExpiry s = judgeLow s.yard.stepRise s := by
  unfold lowExpiry
  rw [if_pos h, hsel]
  exact if_neg Bool.false_ne_true

theorem lowExpiry_holds (h : lowRuns s = true) (hsel : s.switching.selection ≠ none) : lowExpiry s =
    s.updSwitching fun w => { w with expiryHeld := some s.yard.stepRise, low := .running (s.yard.lowDelay * 1000) } := by
  unfold lowExpiry
  rw [if_pos h]
  exact if_pos (Option.isSome_iff_ne_none.2 hsel)

theorem restoreExpiry_eq (h : s.switching.line = .restore) (hr : s.switching.restore ≠ none) : restoreExpiry s =
    if s.switching.valid = true then
      logEvent .lineLive .none none (s.updSwitching fun w => { w with line := .live, restore := none })
    else s.updSwitching fun w => { w with restore := none } :=
  if_pos ⟨h, Option.isSome_iff_ne_none.2 hr⟩

theorem settleExpiry_eq (h : s.switching.control = .autoSettle) (hr : s.switching.settle ≠ none) : settleExpiry s =
    s.updSwitching fun w => { w with control := .autoWatch, settle := none } :=
  if_pos ⟨h, Option.isSome_iff_ne_none.2 hr⟩

theorem removeSelection_eq {x : Selection} (h : s.switching.selection = some x) (k : EventKind) (value : Option Nat) :
    removeSelection k value s =
      judgeHeld (logEvent k (targetSubject x.target) value (s.updSwitching fun w => { w with selection := none })) := by
  unfold removeSelection
  rw [h]

theorem removeSelection_none (h : s.switching.selection = none) (k : EventKind) (value : Option Nat) :
    removeSelection k value s = s := by
  unfold removeSelection
  rw [h]

end

/-! ## The running timers against the delays in force (R114) -/

section
variable {s : State}

theorem reached_isRunning {t : BandTimer} {delay : Nat} (h : t.reached delay = true) : ∃ c, t = .running c :=
  (reached_iff.1 h).imp fun _ h => h.1

/-- R114: the high timer against its delay. -/
theorem expireHigh_eq : (if s.switching.high.reached (s.yard.highDelay * 1000) then highExpiry s else s) =
    if s.switching.high.reached (s.yard.highDelay * 1000) = true ∧ s.switching.control = .autoHigh ∧
      s.switching.expiryHeld = none
    then if s.switching.selection = none then judgeHigh s.yard.stepRise s
      else s.updSwitching fun w => { w with expiryHeld := some s.yard.stepRise, high := .running (s.yard.highDelay * 1000) }
    else s := by
  by_cases hreached : s.switching.high.reached (s.yard.highDelay * 1000) = true
  · rw [if_pos hreached]
    by_cases hruns : s.switching.control = .autoHigh ∧ s.switching.expiryHeld = none
    · have hruns' : highRuns s = true := highRuns_iff.2 ⟨hruns.1, reached_isRunning hreached, hruns.2⟩
      rw [if_pos ⟨hreached, hruns⟩]
      split
      · next hsel => exact highExpiry_judges hruns' hsel
      · next hsel => exact highExpiry_holds hruns' hsel
    · rw [if_neg fun h => hruns h.2]
      exact if_neg fun h => hruns ⟨(highRuns_iff.1 h).1, (highRuns_iff.1 h).2.2⟩
  · rw [if_neg hreached, if_neg fun h => hreached h.1]

theorem expireLow_eq : (if s.switching.low.reached (s.yard.lowDelay * 1000) then lowExpiry s else s) =
    if s.switching.low.reached (s.yard.lowDelay * 1000) = true ∧ s.switching.control = .autoLow ∧
      s.switching.expiryHeld = none
    then if s.switching.selection = none then judgeLow s.yard.stepRise s
      else s.updSwitching fun w => { w with expiryHeld := some s.yard.stepRise, low := .running (s.yard.lowDelay * 1000) }
    else s := by
  by_cases hreached : s.switching.low.reached (s.yard.lowDelay * 1000) = true
  · rw [if_pos hreached]
    by_cases hruns : s.switching.control = .autoLow ∧ s.switching.expiryHeld = none
    · have hruns' : lowRuns s = true := lowRuns_iff.2 ⟨hruns.1, reached_isRunning hreached, hruns.2⟩
      rw [if_pos ⟨hreached, hruns⟩]
      split
      · next hsel => exact lowExpiry_judges hruns' hsel
      · next hsel => exact lowExpiry_holds hruns' hsel
    · rw [if_neg fun h => hruns h.2]
      exact if_neg fun h => hruns ⟨(lowRuns_iff.1 h).1, (lowRuns_iff.1 h).2.2⟩
  · rw [if_neg hreached, if_neg fun h => hreached h.1]

theorem countReached_isSome {t : Option Nat} {delay : Nat} (h : countReached delay t = true) : t ≠ none := by
  obtain ⟨n, rfl, -⟩ := countReached_iff.1 h
  nofun

theorem expireSettle_eq : (if countReached (s.yard.settleTime * 1000) s.switching.settle then settleExpiry s else s) =
    if countReached (s.yard.settleTime * 1000) s.switching.settle = true ∧ s.switching.control = .autoSettle
    then s.updSwitching fun w => { w with control := .autoWatch, settle := none } else s := by
  by_cases hreached : countReached (s.yard.settleTime * 1000) s.switching.settle = true
  · rw [if_pos hreached]
    by_cases hc : s.switching.control = .autoSettle
    · exact (settleExpiry_eq hc (countReached_isSome hreached)).trans (if_pos ⟨hreached, hc⟩).symm
    · exact (if_neg fun h => hc h.1).trans (if_neg fun h => hc h.2).symm
  · rw [if_neg hreached, if_neg fun h => hreached h.1]

theorem expireRestore_eq : (if countReached (s.yard.restoreHold * 1000) s.switching.restore then restoreExpiry s else s) =
    if countReached (s.yard.restoreHold * 1000) s.switching.restore = true ∧ s.switching.line = .restore
    then if s.switching.valid = true then
        logEvent .lineLive .none none (s.updSwitching fun w => { w with line := .live, restore := none })
      else s.updSwitching fun w => { w with restore := none }
    else s := by
  by_cases hreached : countReached (s.yard.restoreHold * 1000) s.switching.restore = true
  · rw [if_pos hreached]
    by_cases hc : s.switching.line = .restore
    · exact (restoreExpiry_eq hc (countReached_isSome hreached)).trans (if_pos ⟨hreached, hc⟩).symm
    · exact (if_neg fun h => hc h.1).trans (if_neg fun h => hc h.2).symm
  · rw [if_neg hreached, if_neg fun h => hreached h.1]

end

/-- Settles O33. -/
theorem switchingTimers : Obligations.SwitchingTimers := by
  refine ⟨?judge, ?written, ?expiry⟩
  case judge =>
    intro rise s v hv settled queued
    refine ⟨fun hlow => ?_, fun hhigh => ⟨fun hnone => ?_, fun hsome hfull => ?_, fun hsome hroom => ?_⟩, fun hhigh => ?_,
      fun hlow => ⟨fun hmax => ?_, fun hmax hfull => ?_, fun hmax hroom => ?_⟩⟩
    · exact judgeHigh_defers ((highCheck_eq hv).trans (if_neg (Nat.not_lt.2 hlow)))
    · exact judgeHigh_defers ((highCheck_eq hv).trans ((if_pos hhigh).trans (if_neg (by rw [hnone]; decide))))
    · exact judgeHigh_defers ((highCheck_eq hv).trans ((if_pos hhigh).trans ((if_pos hsome).trans (if_neg (Nat.not_lt.2 hfull)))))
    · exact judgeHigh_arrives ((highCheck_eq hv).trans ((if_pos hhigh).trans ((if_pos hsome).trans (if_pos hroom))))
    · exact judgeLow_defers ((lowCheck_eq hv).trans (if_neg (Nat.not_lt.2 hhigh)))
    · exact judgeLow_defers ((lowCheck_eq hv).trans ((if_pos hlow).trans (if_neg (Nat.not_lt.2 hmax))))
    · exact judgeLow_defers ((lowCheck_eq hv).trans ((if_pos hlow).trans ((if_pos hmax).trans (if_neg (Nat.not_lt.2 hfull)))))
    · exact judgeLow_arrives ((lowCheck_eq hv).trans ((if_pos hlow).trans ((if_pos hmax).trans (if_pos hroom))))
  case written =>
    intro s reached past put high low settle restore
    have hreached (t : BandTimer) (delay : Nat) : t.reached (delay * 1000) = reached t delay := by cases t <;> rfl
    have hpast (t : Option Nat) (delay : Nat) : countReached (delay * 1000) t = past t delay := by cases t <;> rfl
    unfold expireReached
    dsimp only
    rw [expireRestore_eq, expireSettle_eq, expireLow_eq, expireHigh_eq]
    simp only [hreached, hpast]
    rfl
  case expiry =>
    intro s hs w put highCounts lowCounts
    have hhigh (hcounts : highCounts) : highRuns s = true := highRuns_iff.2 hcounts
    have hlow (hcounts : lowCounts) : lowRuns s = true := lowRuns_iff.2 hcounts
    refine ⟨fun hc hsel => exec_of_body rfl hs (highExpiry_judges (s := s.dropMail _) (hhigh hc) hsel),
      fun hc hsel => exec_of_body rfl hs (highExpiry_holds (s := s.dropMail _) (hhigh hc) hsel),
      fun hc => exec_of_body_self rfl hs (if_neg fun h => hc (highRuns_iff.1 h)),
      fun hc hsel => exec_of_body rfl hs (lowExpiry_judges (s := s.dropMail _) (hlow hc) hsel),
      fun hc hsel => exec_of_body rfl hs (lowExpiry_holds (s := s.dropMail _) (hlow hc) hsel),
      fun hc => exec_of_body_self rfl hs (if_neg fun h => hc (lowRuns_iff.1 h)), ?_, ?_, ?_, ?_, ?_, ?_⟩
    · exact fun hc ht => exec_of_body rfl hs (settleExpiry_eq (s := s.dropMail _) hc ht)
    · intro hnot
      exact exec_of_body_self rfl hs (if_neg fun ⟨hc, ht⟩ => hnot.elim (fun h => h hc) fun h => Option.isSome_iff_ne_none.1 ht h)
    · exact fun hc ht => exec_of_body rfl hs (restoreExpiry_eq (s := s.dropMail _) hc ht)
    · intro hnot
      exact exec_of_body_self rfl hs (if_neg fun ⟨hc, ht⟩ => hnot.elim (fun h => h hc) fun h => Option.isSome_iff_ne_none.1 ht h)
    · intro x hx u
      exact exec_of_body rfl hs (removeSelection_eq (s := s.dropMail _) hx _ _)
    · exact fun hx => exec_of_body_self rfl hs (removeSelection_none (s := s.dropMail _) hx _ _)

end Sys2Proof.Machine


namespace Sys2Proof.Machine

/-! ## Grants of the slot (R123 to R127) -/

section
variable {s : State}

/-- A grant leaves the entries that wait behind it. -/
theorem grantEntry_queue (e : QueueEntry) (s : State) : (grantEntry e s).switching.queue = s.switching.queue := by
  have hto (t : Fin 9) (k : CmdKind) (r : Option Reason) : (grantTo t k r s).switching.queue = s.switching.queue := by
    rw [grantTo_switching]
  unfold grantEntry
  split
  · unfold grantManual
    split
    · rfl
    · exact hto _ _ _
  · unfold grantAutoClose
    dsimp only
    split
    · rfl
    · rfl
    · exact hto _ _ _
  · unfold grantAutoOpen
    split
    · split
      · exact hto _ _ _
      · rfl
    · rfl

theorem grantWaiting_held (h : s.switching.holder ≠ none) : grantWaiting s = s := by
  unfold grantWaiting
  cases s.switching.queue.length with
  | zero => rfl
  | succ n =>
    unfold grantLoop
    split
    · next hfree _ => exact absurd hfree h
    · rfl

theorem grantWaiting_empty (h : s.switching.queue = []) : grantWaiting s = s := by
  unfold grantWaiting
  rw [h]
  rfl

/-- R124: a FREE slot takes the head of the queue. -/
theorem grantWaiting_head {e : QueueEntry} {rest : List QueueEntry} (hfree : s.switching.holder = none)
    (hqueue : s.switching.queue = e :: rest) :
    grantWaiting s = grantWaiting (grantEntry e (s.updSwitching fun w => { w with queue := rest })) := by
  have hrest : (grantEntry e (s.updSwitching fun w => { w with queue := rest })).switching.queue = rest :=
    grantEntry_queue _ _
  conv_lhs => unfold grantWaiting
  conv_rhs => unfold grantWaiting
  rw [hrest, hqueue, List.length_cons]
  conv_lhs => unfold grantLoop
  rw [hfree, hqueue]

theorem grantEntry_manual (t : Fin 9) (k : CmdKind) (a : Nat) (s : State) :
    grantEntry { kind := k, origin := .manual t, arrival := a } s = grantManual t k s := rfl

theorem grantManual_refused {t : Fin 9} {k : CmdKind} {c : Condition} (h : manualCheck t k s = some c) :
    grantManual t k s = refuse t c s := by
  unfold grantManual
  rw [h]

theorem grantManual_passes {t : Fin 9} {k : CmdKind} (h : manualCheck t k s = none) :
    grantManual t k s = grantTo t k none s := by
  unfold grantManual
  rw [h]

theorem unitStep_stepUnit (i : Fin 8) : unitStep (stepUnit i) = some i := unitStep_eq_some.2 rfl

theorem unitReady_iff {u : Fin 9} : unitReady u s = true ↔ s.commands[u].supervision = .alive ∧ s.commands[u].ready = true := by
  unfold unitReady unitAlive
  rw [Bool.and_eq_true, decide_eq_true_eq]

theorem countIn_eq_zero {x : StepState} : s.countIn x = 0 ↔ ¬ ∃ i, s.stepState i = x := by
  unfold State.countIn
  simp [List.filter_eq_nil_iff, mem_allSteps]

/-- A list of checks names the first that fails. -/
theorem firstFailing_cons (p : Prop) [Decidable p] (c : Condition) (rest : List (Bool × Condition)) :
    firstFailing ((decide p, c) :: rest) = if p then firstFailing rest else some c := by
  simp only [firstFailing, decide_eq_true_eq]

/-- R127: the checks of a step's close. -/
theorem manualCheck_close (i : Fin 8) (s : State) : manualCheck (stepUnit i) .close s =
    if s.stepState i ≠ .ready then some .state
    else if s.yardDamaged = true ∨ s.stepDamaged i = true then some .settings
    else if s.switching.line ≠ .live then some .line
    else if s.yard.maxSteps ≤ s.energisedCount then some .maximum
    else if countBlocked (s.energisedCount + 1) s = true then some .resonance
    else if s.commands[stepUnit i].supervision ≠ .alive ∨ s.commands[stepUnit i].ready = false then some .unit
    else none := by
  have hdamaged : (!s.yardDamaged && !s.stepDamaged i) = decide ¬(s.yardDamaged = true ∨ s.stepDamaged i = true) := by
    cases s.yardDamaged <;> cases s.stepDamaged i <;> rfl
  have hblocked : (!countBlocked (s.energisedCount + 1) s) = decide ¬(countBlocked (s.energisedCount + 1) s = true) := by
    cases countBlocked (s.energisedCount + 1) s <;> rfl
  have hunit : unitReady (stepUnit i) s =
      decide ¬(s.commands[stepUnit i].supervision ≠ .alive ∨ s.commands[stepUnit i].ready = false) := by
    rw [Bool.eq_iff_iff, unitReady_iff, decide_eq_true_eq]
    simp
  unfold manualCheck
  rw [unitStep_stepUnit]
  dsimp only
  rw [hdamaged, hblocked, hunit]
  simp only [firstFailing_cons, ite_not, ne_eq, ← Nat.not_lt]
  rfl

theorem manualCheck_opn (i : Fin 8) (s : State) : manualCheck (stepUnit i) .opn s =
    if s.stepState i ≠ .inService then some .state
    else if s.commands[stepUnit i].supervision ≠ .alive then some .unit
    else none := by
  unfold manualCheck
  rw [unitStep_stepUnit]
  unfold unitAlive
  simp only [firstFailing_cons, ite_not, ne_eq]
  rfl

theorem unitStep_incomer : unitStep 8 = none := rfl

/-- R127: the checks of the incomer's close. -/
theorem manualCheck_incomer_close (s : State) : manualCheck 8 .close s =
    if ∃ i, s.stepState i = .failed then some .stepFailed
    else if s.commands[(8 : Fin 9)].position = some .closed then some .position
    else if s.commands[(8 : Fin 9)].supervision ≠ .alive ∨ s.commands[(8 : Fin 9)].ready = false then some .unit
    else none := by
  have hunit : unitReady 8 s =
      decide ¬(s.commands[(8 : Fin 9)].supervision ≠ .alive ∨ s.commands[(8 : Fin 9)].ready = false) := by
    rw [Bool.eq_iff_iff, unitReady_iff, decide_eq_true_eq]
    simp
  unfold manualCheck
  rw [unitStep_incomer]
  dsimp only
  rw [hunit]
  simp only [firstFailing_cons, ite_not, ne_eq, countIn_eq_zero]
  rfl

theorem manualCheck_incomer_opn (s : State) : manualCheck 8 .opn s =
    if s.commands[(8 : Fin 9)].position = some .opened then some .position
    else if s.commands[(8 : Fin 9)].supervision ≠ .alive then some .unit
    else none := by
  unfold manualCheck
  rw [unitStep_incomer]
  unfold unitAlive
  simp only [firstFailing_cons, ite_not, ne_eq]
  rfl

theorem startOperation_close (i : Fin 8) (cause : Cause) (s : State) :
    startOperation (stepUnit i) .close cause s = closeStart i cause s := by
  unfold startOperation
  rw [unitStep_stepUnit]

theorem startOperation_opn (i : Fin 8) (cause : Cause) (s : State) :
    startOperation (stepUnit i) .opn cause s = openStart i cause s := by
  unfold startOperation
  rw [unitStep_stepUnit]

end

/-- Settles O34. -/
theorem manualGrants : Obligations.ManualGrants := by
  refine ⟨fun e q h => ⟨insertEntry_inOrder h, insertEntry_perm e q⟩,
    fun s h => h.elim grantWaiting_held grantWaiting_empty, fun e rest s hfree hqueue => grantWaiting_head hfree hqueue,
    fun t k a s => ?_, fun i s => ⟨manualCheck_close i s, manualCheck_opn i s⟩,
    fun s => ⟨manualCheck_incomer_close s, manualCheck_incomer_opn s⟩, rfl, fun i cause s => ?_, fun k cause s => ?_⟩
  · exact ⟨fun c hc => (grantEntry_manual t k a s).trans (grantManual_refused hc),
      fun hc => (grantEntry_manual t k a s).trans (grantManual_passes hc)⟩
  · exact ⟨fun hst => (startOperation_close i cause s).trans (if_pos hst),
      fun hst => (startOperation_opn i cause s).trans (if_pos hst)⟩
  · cases k <;> rfl

end Sys2Proof.Machine


namespace Sys2Proof.Machine

/-! ## AUTO entries at grant (R125, R126) -/

section
variable {s : State} {i : Fin 8}

theorem isSelected_iff {t : Fin 9} : isSelected t s = true ↔ ∃ x, s.switching.selection = some x ∧ x.target = t := by
  unfold isSelected
  split
  · next x hx => simp [hx]
  · next hx => simp [hx]

theorem dutyBarred_iff : dutyBarred i s = true ↔ s.stepDamaged i = true ∨ s.duty.steps[i].dutyBar = true := Bool.or_eq_true_iff

/-- R125: what makes a step of the Open List eligible. -/
theorem eligible_iff : eligible s i = true ↔
    s.stepState i = .ready ∧ s.stepDamaged i = false ∧ s.duty.steps[i].dutyBar = false ∧
      s.duty.steps[i].heat ≤ (s.stepRow i).heatReclose ∧ s.commands[stepUnit i].supervision = .alive ∧
      s.commands[stepUnit i].ready = true ∧ ¬ ∃ x, s.switching.selection = some x ∧ x.target = stepUnit i := by
  unfold eligible coolEnough
  simp only [Bool.and_eq_true, decide_eq_true_eq, Bool.not_eq_true', unitReady_iff, ← isSelected_iff (s := s),
    Bool.not_eq_true, dutyBarred, Bool.or_eq_false_iff]
  tauto

theorem vctrlValid_iff {p : Nat → Bool} :
    vctrlValid p s = true ↔ s.switching.valid = true ∧ ∃ v, s.switching.vctrl = some v ∧ p v = true := by
  unfold vctrlValid
  rw [Bool.and_eq_true]
  refine and_congr_right fun _ => ?_
  cases s.switching.vctrl <;> simp

/-- R126: whether the reason of an AUTO OPEN still stands. -/
theorem openReasonStands_iff {r : Reason} : openReasonStands r s = true ↔
    if r = .detune then 1 ≤ s.inCount ∧ countBlocked s.inCount s = true
    else s.switching.valid = true ∧ ∃ v, s.switching.vctrl = some v ∧ s.switching.uHi < v := by
  unfold openReasonStands
  cases r <;> simp [vctrlValid_iff]

/-- R125: the checks of an AUTO CLOSE ahead of the walk of the Open List. -/
def autoCloseCheck (s : State) : Option Condition :=
  firstFailing
    [(vctrlValid (fun v => v < s.switching.uLo) s, .reasonGone),
     (s.switching.line = .live, .line),
     (s.energisedCount < s.yard.maxSteps, .maximum),
     (!countBlocked (s.energisedCount + 1) s, .resonance)]

theorem autoCloseCheck_eq (s : State) : autoCloseCheck s =
    if s.switching.valid = true ∧ ∃ v, s.switching.vctrl = some v ∧ v < s.switching.uLo then
      if s.switching.line = .live then
        if s.energisedCount < s.yard.maxSteps then
          if countBlocked (s.energisedCount + 1) s = true then some .resonance else none
        else some .maximum
      else some .line
    else some .reasonGone := by
  unfold autoCloseCheck
  simp only [firstFailing, vctrlValid_iff, decide_eq_true_eq]
  cases countBlocked (s.energisedCount + 1) s <;> rfl

theorem grantAutoClose_drops {r : Reason} {c : Condition} (h : autoCloseCheck s = some c) :
    grantAutoClose r s = dropAuto .close c s := by
  unfold autoCloseCheck at h
  unfold grantAutoClose
  dsimp only
  rw [h]

theorem grantAutoClose_walks {r : Reason} (h : autoCloseCheck s = none) : grantAutoClose r s =
    match s.supervisor.openList.find? (eligible s) with
    | some i => grantTo (stepUnit i) .close (some r) s
    | none => dropAuto .close .noStep s := by
  unfold autoCloseCheck at h
  unfold grantAutoClose
  dsimp only
  rw [h]
  split
  · next h => cases h
  · next h => rw [h]
  · next h => rw [h]

/-- R126: whether step `i` of the Closed List is a candidate of an AUTO OPEN. -/
def openCandidate (s : State) (i : Fin 8) : Bool := !s.supervisor.steps[i].unsupervised && !isSelected (stepUnit i) s

/-- R126: a candidate whose duty bar is CLEAR. -/
def openPreferred (s : State) (i : Fin 8) : Bool := openCandidate s i && !dutyBarred i s

theorem openCandidate_iff : openCandidate s i = true ↔
    s.supervisor.steps[i].unsupervised = false ∧ ¬ ∃ x, s.switching.selection = some x ∧ x.target = stepUnit i := by
  unfold openCandidate
  rw [Bool.and_eq_true, Bool.not_eq_true', Bool.not_eq_true', ← isSelected_iff (s := s), Bool.not_eq_true]

theorem openPreferred_iff : openPreferred s i = true ↔ openCandidate s i = true ∧ ¬ dutyBarred i s = true := by
  unfold openPreferred
  rw [Bool.and_eq_true, Bool.not_eq_true', Bool.not_eq_true]

/-- R126: a candidate whose duty bar is CLEAR comes first, then any. -/
theorem openChoice_eq (s : State) : openChoice s =
    (s.supervisor.closedList.find? (openPreferred s)).or (s.supervisor.closedList.find? (openCandidate s)) := by
  have hcandidates : openCandidates s = s.supervisor.closedList.filter (openCandidate s) := rfl
  have hpreferred : (openCandidates s).find? (fun i => !dutyBarred i s) = s.supervisor.closedList.find? (openPreferred s) := by
    rw [hcandidates, List.find?_filter]
    refine congrArg (List.find? · _) (funext fun i => ?_)
    simp [openPreferred]
  unfold openChoice
  rw [hpreferred, hcandidates, List.head?_filter]
  cases s.supervisor.closedList.find? (openPreferred s) <;> rfl

/-- The first of a list that satisfies `p`, found between those before it and those behind. -/
theorem find?_append_cons {α : Type} {p : α → Bool} {before after : List α} {x : α} (hx : p x = true)
    (hbefore : ∀ y ∈ before, ¬ p y = true) : (before ++ x :: after).find? p = some x := by
  rw [List.find?_append, List.find?_eq_none.2 hbefore, List.find?_cons_of_pos hx]
  rfl

end

/-- Settles O35. -/
theorem autoGrants : Obligations.AutoGrants := by
  intro a s w dropped started selected
  refine ⟨?close, ?opn⟩
  case close =>
    intro r e stands ok
    have hcheck := autoCloseCheck_eq s
    have hok (i : Fin 8) : eligible s i = true ↔ ok i := eligible_iff
    have hcause : reasonCause (some r) = if r = .detune then .autoDetune else .autoVoltage := by cases r <;> rfl
    refine ⟨fun hgone => ?_, fun hst hline => ?_, fun hst hline hmax => ?_, fun hst hline hmax => ⟨fun hblocked => ?_,
      fun hfree => ?_⟩⟩
    · exact grantAutoClose_drops (hcheck.trans (if_neg hgone))
    · exact grantAutoClose_drops (hcheck.trans ((if_pos hst).trans (if_neg hline)))
    · exact grantAutoClose_drops (hcheck.trans ((if_pos hst).trans ((if_pos hline).trans (if_neg (Nat.not_lt.2 hmax)))))
    · exact grantAutoClose_drops (hcheck.trans ((if_pos hst).trans ((if_pos hline).trans ((if_pos hmax).trans
        (if_pos hblocked)))))
    · have hwalk := grantAutoClose_walks (r := r) (hcheck.trans ((if_pos hst).trans ((if_pos hline).trans
        ((if_pos hmax).trans (if_neg (ne_true_of_eq_false hfree))))))
      refine ⟨fun hnone => ?_, fun before i after hlist hi hbefore => ?_⟩
      · rw [List.find?_eq_none.2 fun j hj => mt (hok j).1 (hnone j hj)] at hwalk
        exact hwalk
      · rw [hlist, find?_append_cons ((hok i).2 hi) fun j hj => mt (hok j).1 (hbefore j hj)] at hwalk
        refine hwalk.trans ?_
        show startOperation _ _ _ _ = _
        rw [hcause]
        rfl
  case opn =>
    intro r e stands candidate barred cause
    have hstands : openReasonStands r s = true ↔ stands := openReasonStands_iff
    have hcand (i : Fin 8) : openCandidate s i = true ↔ candidate i := openCandidate_iff
    have hfree (i : Fin 8) : openPreferred s i = true ↔ candidate i ∧ ¬ barred i :=
      openPreferred_iff.trans (and_congr (hcand i) (not_congr dutyBarred_iff))
    have hcause : reasonCause (some r) = cause := by cases r <;> rfl
    have hgrant {i : Fin 8} (hst : stands) (hchoice : openChoice s = some i) : grantEntry e s = started i .opn r cause := by
      show grantAutoOpen r s = _
      unfold grantAutoOpen
      rw [if_pos (hstands.2 hst), hchoice]
      show startOperation _ _ _ _ = _
      rw [hcause]
      rfl
    refine ⟨fun hgone => if_neg (mt hstands.1 hgone), fun hst => ⟨fun hnone => ?_, fun before i after hlist hi => ⟨?_, ?_⟩⟩⟩
    · show grantAutoOpen r s = _
      have hchoice : openChoice s = none := by
        rw [openChoice_eq, List.find?_eq_none.2 fun j hj h => hnone j hj ((hfree j).1 h).1,
          List.find?_eq_none.2 fun j hj => mt (hcand j).1 (hnone j hj)]
        rfl
      unfold grantAutoOpen
      rw [if_pos (hstands.2 hst), hchoice]
      rfl
    · intro hclear hbefore
      refine hgrant hst ?_
      rw [openChoice_eq, hlist, find?_append_cons ((hfree i).2 ⟨hi, hclear⟩)
        fun j hj h => ((hfree j).1 h).2 (hbefore j hj ((hfree j).1 h).1)]
      rfl
    · intro hall hbefore
      refine hgrant hst ?_
      rw [openChoice_eq, List.find?_eq_none.2 fun j hj h => ((hfree j).1 h).2 (hall j hj ((hfree j).1 h).1), hlist,
        find?_append_cons ((hcand i).2 hi) fun j hj => mt (hcand j).1 (hbefore j hj)]
      rfl

end Sys2Proof.Machine


namespace Sys2Proof.Machine

/-! ## Settle (R122) -/

section
variable {s : State}

theorem withdrawAuto_none {c : Condition} (h : ∀ e ∈ s.switching.queue, e.isAuto = false) : withdrawAuto c s = s := by
  unfold withdrawAuto
  rw [List.find?_eq_none.2 fun e he => ne_true_of_eq_false (h e he)]

/-- The waiting AUTO entry leaves from between the entries before and behind it. -/
theorem withdrawAuto_some {c : Condition} {before after : List QueueEntry} {e : QueueEntry}
    (hqueue : s.switching.queue = before ++ e :: after) (he : e.isAuto = true) (hbefore : ∀ x ∈ before, x.isAuto = false) :
    withdrawAuto c s = defer e.kind c (s.updSwitching fun w => { w with queue := before ++ after }) := by
  have hbefore (x) (hx : x ∈ before) : ¬ x.isAuto = true := ne_true_of_eq_false (hbefore x hx)
  have herase : s.switching.queue.eraseP QueueEntry.isAuto = before ++ after := by
    rw [hqueue, List.eraseP_append_right _ fun x hx => by simpa using hbefore x hx, List.eraseP_cons_of_pos he]
  have hfind : s.switching.queue.find? QueueEntry.isAuto = some e := hqueue ▸ find?_append_cons he hbefore
  unfold withdrawAuto State.updSwitching
  rw [hfind]
  dsimp only
  rw [herase]

theorem deferralEvent_eq (k : CmdKind) : deferralEvent k = if k = .close then .closeDeferred else .openDeferred := by
  cases k <;> rfl

theorem settleAtRelease_manual (h : s.switching.control = .manual) : settleAtRelease s = s := by
  unfold settleAtRelease
  rw [h]

theorem settleAtMove_manual (h : s.switching.control = .manual) : settleAtMove s = s := by
  unfold settleAtMove
  rw [h]

theorem settleAtRelease_starts (h : s.switching.control ≠ .manual) (hpending : s.switching.control ≠ .autoPending) :
    settleAtRelease s = startSettle s := by
  unfold settleAtRelease
  split
  · next hc => exact absurd hc h
  · rfl
  · rfl
  · rfl
  · rfl
  · next hc => exact absurd hc hpending

theorem settleAtMove_starts (h : s.switching.control ≠ .manual) (hpending : s.switching.control ≠ .autoPending) :
    settleAtMove s = startSettle s := by
  unfold settleAtMove
  split
  · next hc => exact absurd hc h
  · rfl
  · rfl
  · rfl
  · rfl
  · next hc => exact absurd hc hpending

theorem settleAtRelease_pending (h : s.switching.control = .autoPending) :
    settleAtRelease s = startSettle (withdrawAuto .settle s) := by
  unfold settleAtRelease
  rw [h]

theorem settleAtMove_pending (h : s.switching.control = .autoPending) :
    settleAtMove s = if hasAuto s then startSettle (withdrawAuto .settle s) else s := by
  unfold settleAtMove
  rw [h]

end

/-! ## Outcomes passed on (R128) -/

section
variable {s : State}

theorem releaseSlot_eq (t : Fin 9) (s : State) : releaseSlot t s =
    if ∃ h, s.switching.holder = some h ∧ h.target = t then s.updSwitching fun w => { w with holder := none } else s := by
  unfold releaseSlot
  split
  · next h hh => simp [hh]
  · next hh => simp [hh]

theorem endIncomer_other {k : CmdKind} {r : IncomerResult} (h : ∀ h, s.switching.holder = some h → h.target ≠ 8) :
    endIncomer k r s = incomerEvent k r s := by
  have hkept : releaseSlot incomer s = s :=
    (releaseSlot_eq _ s).trans (if_neg fun ⟨x, hx, htarget⟩ => h x hx htarget)
  have hheld : (s.switching.holder.map fun h => decide (h.target = incomer)).getD false = false := by
    cases hx : s.switching.holder with
    | none => rfl
    | some x => exact decide_eq_false (h x hx)
  unfold endIncomer
  dsimp only
  rw [hkept, hheld]
  rfl

theorem endIncomer_holder {k : CmdKind} {r : IncomerResult} {h : Holder} (hh : s.switching.holder = some h)
    (htarget : h.target = 8) : endIncomer k r s =
    settleAtRelease (incomerEvent k r (s.updSwitching fun w => { w with holder := none })) := by
  have hfreed : releaseSlot incomer s = s.updSwitching fun w => { w with holder := none } :=
    (releaseSlot_eq _ s).trans (if_pos ⟨h, hh, htarget⟩)
  have hheld : (s.switching.holder.map fun h => decide (h.target = incomer)).getD false = true := by
    rw [hh]
    exact decide_eq_true htarget
  unfold endIncomer
  dsimp only
  rw [hfreed, hheld]
  rfl

theorem passed_grants {i : Fin 8} {k : CmdKind} {r : SwitchResult} {t : State} (h : switchEvent i k r s = t) :
    takeSwitchOutcome i k r s = grantWaiting t := congrArg grantWaiting h

theorem incomer_grants {k : CmdKind} {r : IncomerResult} {t : State} (h : endIncomer k r s = t) :
    takeIncomerOutcome k r s = grantWaiting t := congrArg grantWaiting h

theorem detuneTaken_iff : detuneTaken s = true ↔ (s.switching.control = .autoWatch ∨ s.switching.control = .autoHigh ∨
    s.switching.control = .autoLow) ∧ s.switching.queue.length < 4 := by
  unfold detuneTaken
  rw [decide_eq_true_eq, queueRoom_iff]

theorem takeDetune_taken (h : detuneTaken s = true) : takeDetune s = arriveAuto .opn .detune s := if_pos h

theorem takeDetune_lapses (h : ¬ detuneTaken s = true) : takeDetune s = s := if_neg h

end

/-- Settles O36. -/
theorem outcomesAndDetune : Obligations.OutcomesAndDetune := by
  refine ⟨?passed, ?incomer, ?detune⟩
  case passed =>
    intro i k s hs n told
    have hk : kindNumber k = n := by cases k <;> rfl
    have htold {r : SwitchResult} {e : EventKind} {n : Nat}
        (hevent : ∀ u, switchEvent i k r u = logEvent e (.step i) (some n) u) : told r e n :=
      exec_of_body rfl hs (passed_grants (hevent _))
    refine ⟨htold fun u => ?_, htold fun u => ?_, htold fun u => rfl, htold fun u => ?_, htold fun u => ?_⟩
    · rw [← hk]; rfl
    · rw [← hk]; rfl
    · rw [← deferralEvent_eq]; rfl
    · rw [← deferralEvent_eq]; rfl
  case incomer =>
    intro k s hs n told
    have hk : kindNumber k = n := by cases k <;> rfl
    have htold (r : IncomerResult) (e : EventKind) (n : Nat)
        (hevent : ∀ u, incomerEvent k r u = logEvent e (.unit 8) (some n) u) : told r e n :=
      have hexec : exec (.incomerOutcome k r) s =
        .next (taking (.incomerOutcome k r) (incomerOutcomeUses k r) (takeIncomerOutcome k r) s) := rfl
      ⟨fun hother => exec_of_body hexec hs (incomer_grants
          ((endIncomer_other (s := s.dropMail _) hother).trans (hevent _))),
        fun h hh htarget => exec_of_body hexec hs (incomer_grants
          ((endIncomer_holder (s := s.dropMail _) hh htarget).trans (congrArg settleAtRelease (hevent _))))⟩
    exact ⟨htold _ _ _ fun u => hk ▸ rfl, htold _ _ _ fun u => hk ▸ rfl, htold _ _ _ fun u => hk ▸ rfl,
      htold _ _ _ fun u => rfl, htold _ _ _ fun u => hk ▸ rfl⟩
  case detune =>
    intro s hs s₀ w takes
    have hexec : exec .detuneRequest s = .next (taking .detuneRequest detuneRequestUses takeDetune s) := rfl
    have htakes : detuneTaken s₀ = true ↔ takes := detuneTaken_iff (s := s₀)
    exact ⟨fun h => exec_of_body hexec hs (takeDetune_taken (htakes.2 h)),
      fun h => exec_of_body_self hexec hs (takeDetune_lapses (mt htakes.1 h))⟩

/-! ## The report of a step at switching control -/

section
variable {r : StepReport} {s : State}

theorem releaseByReport_eq (r : StepReport) (s : State) : releaseByReport r s =
    if r.slotHeld = true ∧ (r.old = .closing ∨ r.old = .opening) then
      settleAtRelease (if r.old = .closing ∧ r.new = .opening ∧ isTripCause r.cause = true then
        logEvent .switchOvertaken (.step r.step) (some 1) (releaseSlot (stepUnit r.step) s) else releaseSlot (stepUnit r.step) s)
    else s := rfl

theorem selectionByReport_eq (r : StepReport) (s : State) : selectionByReport r s =
    if (∃ x, s.switching.selection = some x ∧ x.target = stepUnit r.step) ∧ (r.new = .lockout ∨ r.new = .withdrawn) then
      removeSelection .selectionRemoved (some (if r.new = .lockout then 17 else 18)) s
    else s := by
  unfold selectionByReport
  by_cases hsel : isSelected (stepUnit r.step) s = true
  · rw [if_pos hsel]
    have hsel := isSelected_iff.1 hsel
    split
    · next hnew => rw [hnew, if_pos ⟨hsel, .inl rfl⟩]; rfl
    · next hnew => rw [hnew, if_pos ⟨hsel, .inr rfl⟩]; rfl
    · next hlock hwithdrawn => exact (if_neg fun h => h.2.elim hlock hwithdrawn).symm
  · rw [if_neg hsel]
    exact (if_neg fun h => hsel (isSelected_iff.2 h.1)).symm

theorem crossesIn_iff : crossesIn r = true ↔
    (r.old = .inService ∧ r.new ≠ .inService) ∨ (r.old ≠ .inService ∧ r.new = .inService) := decide_eq_true_iff

theorem settleByReport_eq (r : StepReport) (s : State) : settleByReport r s =
    if ((r.old = .inService ∧ r.new ≠ .inService) ∨ (r.old ≠ .inService ∧ r.new = .inService)) ∧
        r.cause ≠ .grant ∧ r.cause ≠ .closeDone ∧ r.cause ≠ .unitBusy then settleAtMove (releaseByReport r s)
    else releaseByReport r s := by
  unfold settleByReport
  refine if_congr ?_ rfl rfl
  rw [Bool.and_eq_true, crossesIn_iff, Bool.not_eq_true', isOwnCause, decide_eq_false_iff_not]
  simp only [not_or, ne_eq]

end

/-! ### What settle and the removal of a selection leave -/

section
variable {s : State}

theorem withdrawAuto_watch (c : Condition) (s : State) : (withdrawAuto c s).switching.selection = s.switching.selection ∧
    (withdrawAuto c s).switching.line = s.switching.line := by
  unfold withdrawAuto
  split <;> exact ⟨rfl, rfl⟩

theorem settleAtRelease_watch (s : State) : (settleAtRelease s).switching.selection = s.switching.selection ∧
    (settleAtRelease s).switching.line = s.switching.line := by
  unfold settleAtRelease
  split
  case h_6 => exact withdrawAuto_watch _ s
  all_goals exact ⟨rfl, rfl⟩

theorem settleAtMove_watch (s : State) : (settleAtMove s).switching.selection = s.switching.selection ∧
    (settleAtMove s).switching.line = s.switching.line := by
  unfold settleAtMove
  split
  case h_6 =>
    split
    · exact withdrawAuto_watch _ s
    · exact ⟨rfl, rfl⟩
  all_goals exact ⟨rfl, rfl⟩

/-- Settle and the release of the slot leave the record of a selection and the line state. -/
theorem settleByReport_watch (r : StepReport) (s : State) :
    (settleByReport r s).switching.selection = s.switching.selection ∧
    (settleByReport r s).switching.line = s.switching.line := by
  have hfreed : (releaseSlot (stepUnit r.step) s).switching.selection = s.switching.selection ∧
      (releaseSlot (stepUnit r.step) s).switching.line = s.switching.line := by
    rcases releaseSlot_switching (stepUnit r.step) s with h | h <;> rw [h] <;> exact ⟨rfl, rfl⟩
  have hreleased : (releaseByReport r s).switching.selection = s.switching.selection ∧
      (releaseByReport r s).switching.line = s.switching.line := by
    rw [releaseByReport_eq]
    split
    · have hsettled := settleAtRelease_watch (if r.old = .closing ∧ r.new = .opening ∧ isTripCause r.cause = true then
        logEvent .switchOvertaken (.step r.step) (some 1) (releaseSlot (stepUnit r.step) s)
        else releaseSlot (stepUnit r.step) s)
      rw [hsettled.1, hsettled.2]
      split <;> exact hfreed
    · exact ⟨rfl, rfl⟩
  rw [settleByReport_eq]
  split
  · have hmoved := settleAtMove_watch (releaseByReport r s)
    exact ⟨hmoved.1.trans hreleased.1, hmoved.2.trans hreleased.2⟩
  · exact hreleased

theorem grantEntry_line (e : QueueEntry) (s : State) : (grantEntry e s).switching.line = s.switching.line := by
  have hto (t : Fin 9) (k : CmdKind) (r : Option Reason) : (grantTo t k r s).switching.line = s.switching.line := by
    rw [grantTo_switching]
  unfold grantEntry
  split
  · unfold grantManual
    split
    · rfl
    · exact hto _ _ _
  · unfold grantAutoClose
    dsimp only
    split
    · rfl
    · rfl
    · exact hto _ _ _
  · unfold grantAutoOpen
    split
    · split
      · exact hto _ _ _
      · rfl
    · rfl

theorem grantLoop_line (n : Nat) (s : State) : (grantLoop n s).switching.line = s.switching.line := by
  induction n generalizing s with
  | zero => rfl
  | succ n ih =>
    unfold grantLoop
    split
    · rw [ih, grantEntry_line]
      rfl
    · rfl

theorem judgeHeld_line (s : State) : (judgeHeld s).switching.line = s.switching.line := by
  unfold judgeHeld
  split
  · unfold judgeHigh
    split
    · rfl
    · exact grantLoop_line _ _
  · unfold judgeLow
    split
    · rfl
    · exact grantLoop_line _ _
  · rfl

theorem selectionByReport_line (r : StepReport) (s : State) :
    (selectionByReport r s).switching.line = s.switching.line := by
  rw [selectionByReport_eq]
  split
  · unfold removeSelection
    split
    · rw [judgeHeld_line]
      rfl
    · rfl
  · rfl

end

/-- Settles O37. -/
theorem controlStepReport : Obligations.ControlStepReport := by
  refine ⟨?report, ?settle⟩
  case report =>
    intro r s hs s₀ trip freed overtaken released moved unselected tripped
    have hfreed : releaseSlot (stepUnit r.step) s₀ = freed := (releaseSlot_eq _ s₀).trans (if_congr Iff.rfl rfl rfl)
    have htrip : isTripCause r.cause = trip := by
      cases hcause : r.cause <;> simp [isTripCause, trip, hcause]
    have hreleased : releaseByReport r s₀ = released := by
      rw [releaseByReport_eq, hfreed, htrip]
    have hmoved : settleByReport r s₀ = moved := by
      rw [settleByReport_eq, hreleased]
    have hunselected : selectionByReport r moved = unselected := by
      rw [selectionByReport_eq]
      refine if_congr ?_ rfl rfl
      rw [← hmoved, (settleByReport_watch r s₀).1]
      rfl
    have hline : unselected.switching.line = s.switching.line := by
      rw [← hunselected, selectionByReport_line, ← hmoved, (settleByReport_watch r s₀).2]
      rfl
    have htripped : tripInDead r unselected = tripped := by
      unfold tripInDead
      rw [hline]
      rfl
    refine exec_of_body rfl hs ?_
    show grantWaiting (tripInDead r (selectionByReport r (settleByReport r s₀))) = _
    rw [hmoved, hunselected, htripped]
  case settle =>
    intro s settled w
    refine ⟨fun h => ⟨settleAtRelease_manual h, settleAtMove_manual h⟩,
      fun h hp => ⟨settleAtRelease_starts h hp, settleAtMove_starts h hp⟩, fun hp => ⟨fun hnone => ⟨?_, ?_⟩, ?_⟩⟩
    · rw [settleAtRelease_pending hp, withdrawAuto_none hnone]
      rfl
    · have hauto : ¬ hasAuto s = true := by simpa [hasAuto] using hnone
      rw [settleAtMove_pending hp, if_neg hauto]
    · intro before e after hqueue he hbefore u
      have hwithdrawn : startSettle (withdrawAuto .settle s) = u := by
        rw [withdrawAuto_some hqueue he hbefore, defer, deferralEvent_eq]
        rfl
      have hauto : hasAuto s = true := List.any_eq_true.2 ⟨e, hqueue ▸ by simp, he⟩
      exact ⟨(settleAtRelease_pending hp).trans hwithdrawn, (settleAtMove_pending hp).trans ((if_pos hauto).trans hwithdrawn)⟩

end Sys2Proof.Machine


namespace Sys2Proof.Machine

/-! ## The line goes DEAD (R117) -/

section
variable {s : State}

/-- The trips of R117: one for every step in IN or CLOSING, in the order of the steps. -/
theorem tripFold_eq (l : List (Fin 8)) (s : State) :
    l.foldl (fun s i => if s.stepState i = .inService ∨ s.stepState i = .closing then deadLineTrip i s else s) s =
    { s with mail := s.mail ++ (l.filter fun i => s.stepState i = .inService ∨ s.stepState i = .closing).map fun i =>
        .commandRequest { unit := stepUnit i, kind := .opn, cls := .trip, cause := .deadLine } } := by
  induction l generalizing s with
  | nil => simp
  | cons i l ih =>
    rw [List.foldl_cons, ih]
    by_cases hi : s.stepState i = .inService ∨ s.stepState i = .closing
    · rw [if_pos hi, List.filter_cons, if_pos (decide_eq_true hi), List.map_cons]
      unfold deadLineTrip hand
      simp only [List.append_assoc, List.singleton_append]
      rfl
    · rw [if_neg hi, List.filter_cons, if_neg (mt of_decide_eq_true hi)]

/-- Writing an event does not look at switching control. -/
theorem logRemoved_updSwitching (f : SwitchingState → SwitchingState) (s : State) (e : QueueEntry) :
    logRemoved (s.updSwitching f) e = (logRemoved s e).updSwitching f := by
  unfold logRemoved
  split <;> rfl

theorem logRemovedFold_updSwitching (f : SwitchingState → SwitchingState) (q : List QueueEntry) (s : State) :
    q.foldl logRemoved (s.updSwitching f) = (q.foldl logRemoved s).updSwitching f := by
  induction q generalizing s with
  | nil => rfl
  | cons e q ih => rw [List.foldl_cons, logRemoved_updSwitching, ih, List.foldl_cons]

theorem logRemovedFold_sameBut (q : List QueueEntry) (s : State) : SameBut [.eventList] s (q.foldl logRemoved s) :=
  SameBut.foldl logRemoved_sameBut q s

/-- The events written depend on the event list and the timebase alone. -/
theorem logRemovedFold_events_congr {s t : State} (q : List QueueEntry) (hevents : t.events = s.events)
    (htime : t.timebase = s.timebase) : (q.foldl logRemoved t).events = (q.foldl logRemoved s).events := by
  induction q generalizing s t with
  | nil => exact hevents
  | cons e q ih =>
    refine ih ?_ ?_
    · unfold logRemoved
      split <;> exact logEvent_events_congr hevents htime
    · rw [(logRemoved_sameBut t e).same .timebase (by simp), (logRemoved_sameBut s e).same .timebase (by simp), htime]

/-- R117, steps 5 and 6: switching control once the CLOSE entries are gone. -/
def SwitchingState.dead (w : SwitchingState) : SwitchingState :=
  { w with
    queue := w.queue.filter fun e => e.kind = .opn
    high := .stopped, low := .stopped, expiryHeld := none
    control := deadControl (w.queue.any fun e => e.isAuto && e.kind = .close) w.control }

/-- R117: the events of the CLOSE entries come last; all else of the entry to DEAD precedes them. -/
theorem goDead_removes (s : State) : goDead s =
    let v := removeSelection .selectionRemoved (some 16) (enterDead s)
    (v.switching.queue.filter fun e => e.kind = .close).foldl logRemoved (v.updSwitching SwitchingState.dead) := by
  unfold goDead removeCloses stopBandTimers
  dsimp only
  rw [show conditionNumber .dead = 16 from rfl]
  generalize removeSelection .selectionRemoved (some 16) (enterDead s) = v
  rw [← logRemovedFold_updSwitching, ← logRemovedFold_updSwitching]
  rfl

/-- R117, steps 1 to 3. -/
theorem enterDead_eq (s : State) : enterDead s =
    { logEvent .lineDead .none none s with
      switching := { s.switching with line := .dead, restore := none }
      mail := s.mail ++ .captureTrigger .lineDead none ::
        (allSteps.filter fun i => s.stepState i = .inService ∨ s.stepState i = .closing).map fun i =>
          .commandRequest { unit := stepUnit i, kind := .opn, cls := .trip, cause := .deadLine } } := by
  unfold enterDead tripEnergised
  dsimp only
  rw [tripFold_eq]
  simp only [hand_mail, logEvent_mail, List.append_assoc, List.singleton_append]
  rfl

theorem deadControl_eq (q : List QueueEntry) (c : ControlState) :
    deadControl (q.any fun e => e.isAuto && e.kind = .close) c =
      if c = .autoHigh ∨ c = .autoLow ∨ (c = .autoPending ∧ ∃ e ∈ q, e.isAuto = true ∧ e.kind = .close) then .autoWatch
      else c := by
  have hany : (q.any fun e => e.isAuto && e.kind = .close) = true ↔ ∃ e ∈ q, e.isAuto = true ∧ e.kind = .close := by
    simp [List.any_eq_true]
  rw [if_congr (or_congr Iff.rfl (or_congr Iff.rfl (and_congr Iff.rfl hany.symm))) rfl rfl]
  cases c with
  | autoPending => cases q.any fun e => e.isAuto && e.kind = .close <;> rfl
  | _ => rfl

theorem logRemoved_eq (s : State) (e : QueueEntry) : logRemoved s e =
    match e.origin with
    | .manual x => logEvent .manualRefused (targetSubject x) (some 16) s
    | .auto _ => logEvent .closeDeferred .none (some 16) s := by
  unfold logRemoved
  cases e.origin <;> rfl

theorem judgeHeld_self (h : s.switching.expiryHeld = none ∨ (s.switching.control ≠ .autoHigh ∧ s.switching.control ≠ .autoLow)) :
    judgeHeld s = s := by
  unfold judgeHeld
  split
  · next hheld hcontrol => exact h.elim (fun h => by simp [h] at hheld) fun h => absurd hcontrol h.1
  · next hheld hcontrol => exact h.elim (fun h => by simp [h] at hheld) fun h => absurd hcontrol h.2
  · rfl

theorem judgeHeld_held {rise : Nat} (hheld : s.switching.expiryHeld = some rise)
    (hcontrol : s.switching.control = .autoHigh ∨ s.switching.control = .autoLow) :
    judgeHeld s = if s.switching.control = .autoHigh then judgeHigh rise s else judgeLow rise s := by
  unfold judgeHeld
  rcases hcontrol with hcontrol | hcontrol <;> rw [hheld, hcontrol] <;> rfl

/-- R131: with no held expiry to judge, the removal of a selection is its event and the record gone. -/
theorem removeSelection_quiet (hquiet : s.switching.expiryHeld = none ∨ s.switching.selection = none ∨
    (s.switching.control ≠ .autoHigh ∧ s.switching.control ≠ .autoLow)) (k : EventKind) (value : Option Nat) :
    (removeSelection k value s).switching = { s.switching with selection := none } ∧
    SameBut [.switching, .eventList] s (removeSelection k value s) ∧
    (removeSelection k value s).events = (match s.switching.selection with
      | some x => logEvent k (targetSubject x.target) value s
      | none => s).events := by
  cases hsel : s.switching.selection with
  | none =>
    rw [removeSelection_none hsel]
    exact ⟨by rw [← hsel], .refl _ s, rfl⟩
  | some x =>
    have hquiet := hquiet.imp_right fun h => h.resolve_left (by rw [hsel]; exact Option.some_ne_none x)
    rw [removeSelection_eq hsel, judgeHeld_self (by exact hquiet)]
    exact ⟨rfl, ((State.updSwitching_sameBut _ _).trans (logEvent_sameBut _ _ _ _)).mono (by simp), rfl⟩

/-- R117: the parts that an entry to DEAD has left before the CLOSE entries go, where no held expiry is judged. -/
theorem deadRemoved (hquiet : s.switching.expiryHeld = none ∨ s.switching.selection = none ∨
    (s.switching.control ≠ .autoHigh ∧ s.switching.control ≠ .autoLow)) :
    (removeSelection .selectionRemoved (some 16) (enterDead s)).switching =
      { s.switching with line := .dead, restore := none, selection := none } ∧
    (removeSelection .selectionRemoved (some 16) (enterDead s)).mail = (enterDead s).mail ∧
    SameBut [.switching, .mail, .eventList] s (removeSelection .selectionRemoved (some 16) (enterDead s)) ∧
    (removeSelection .selectionRemoved (some 16) (enterDead s)).events = (match s.switching.selection with
      | some x => logEvent .selectionRemoved (targetSubject x.target) (some 16) (logEvent .lineDead .none none s)
      | none => logEvent .lineDead .none none s).events := by
  have hswitching : (enterDead s).switching = { s.switching with line := .dead, restore := none } := by rw [enterDead_eq]
  have hevents : (enterDead s).events = (logEvent .lineDead .none none s).events := by rw [enterDead_eq]
  have htime : (enterDead s).timebase = (logEvent .lineDead .none none s).timebase := by rw [enterDead_eq]
  obtain ⟨hsw, hbut, hlist⟩ := removeSelection_quiet (s := enterDead s) (by rw [hswitching]; exact hquiet)
    .selectionRemoved (some 16)
  refine ⟨by rw [hsw, hswitching], hbut.same .mail (by simp),
    ((enterDead_sameBut s).trans hbut).mono (by simp), hlist.trans ?_⟩
  rw [hswitching]
  show (match s.switching.selection with | some x => _ | none => _ : State).events = _
  cases s.switching.selection with
  | none => exact hevents
  | some x => exact logEvent_events_congr hevents htime

end

/-- Settles O32: the entries of the queue that go cost their events alone. -/
theorem lineGoesDead : Obligations.LineGoesDead := by
  intro s w t trips dead turned left
  have hturned (q : List QueueEntry) (u : State) :
      (q.filter fun e => e.kind = .close).foldl logRemoved u = turned q u :=
    congrArg (List.foldl · u _) (funext fun u => funext fun e => logRemoved_eq u e)
  have hleft (x : SwitchingState) : x.dead = left x := by
    unfold SwitchingState.dead
    rw [deadControl_eq]
  have hsame (q : List QueueEntry) (u : State) : SameBut [.eventList] u (turned q u) :=
    hturned q u ▸ logRemovedFold_sameBut _ u
  have ht : t = turned (removeSelection .selectionRemoved (some 16) (enterDead s)).switching.queue
      { removeSelection .selectionRemoved (some 16) (enterDead s) with
        switching := left (removeSelection .selectionRemoved (some 16) (enterDead s)).switching } := by
    rw [← hturned, ← hleft]
    exact goDead_removes s
  generalize hv : removeSelection .selectionRemoved (some 16) (enterDead s) = v at ht
  refine ⟨fun hquiet => ?_, ?_⟩
  · obtain ⟨hswitching, hmail, hbut, hevents⟩ := deadRemoved hquiet
    rw [hv] at hswitching hmail hbut hevents
    have hlast := hsame v.switching.queue { v with switching := left v.switching }
    rw [← ht] at hlast
    refine ⟨?_, ?_, ?_, ?_⟩
    · rw [hlast.same .switching (by simp)]
      exact congrArg left hswitching
    · rw [hlast.same .mail (by simp)]
      refine hmail.trans ?_
      rw [enterDead_eq]
    · exact (hbut.trans ((State.updSwitching_sameBut left v).trans hlast)).mono (by simp)
    · rw [ht, ← hturned, ← hturned, hswitching]
      refine logRemovedFold_events_congr _ hevents ((hbut.same .timebase (by simp)).trans ?_)
      cases s.switching.selection <;> rfl
  · intro rise x hheld hx hcontrol u judged
    have hjudged : v = judged := by
      have hsel : (enterDead s).switching.selection = some x := by
        rw [enterDead_eq]
        exact hx
      rw [← hv, removeSelection_eq hsel, enterDead_eq]
      exact judgeHeld_held (s := u) hheld hcontrol
    rw [ht, hjudged]

end Sys2Proof.Machine


namespace Sys2Proof.Machine

/-! ## The units of the command engine -/

section
variable {u : Fin 9} {s : State}

theorem State.updUnit_updUnit (u : Fin 9) (f g : UnitLive → UnitLive) (s : State) :
    (s.updUnit u f).updUnit u g = s.updUnit u (g ∘ f) := by
  simp only [State.updUnit, upd_upd]

theorem State.updUnit_unit (u : Fin 9) (f : UnitLive → UnitLive) (s : State) :
    (s.updUnit u f).commands[u] = f s.commands[u] := Vector.getElem_set_self u.isLt

/-- An update of a unit is told by the value that it gives the unit. -/
theorem State.updUnit_congr {f g : UnitLive → UnitLive} (h : f s.commands[u] = g s.commands[u]) :
    s.updUnit u f = s.updUnit u g := by
  simp only [State.updUnit, upd, h]

theorem withdrawAll_commands (u : Fin 9) (s : State) : (withdrawAll u s).commands = s.commands :=
  (withdrawAll_sameBut u s).same .commands (by simp)

theorem inFlight_iff {c : CommandContext} : c.inFlight = true ↔ c.state = .sending ∨ c.state = .awaitingMove :=
  decide_eq_true_iff

theorem unitStep_eq_none : unitStep u = none ↔ u = 8 := by
  unfold unitStep
  split
  · simp [Fin.ext_iff]; omega
  · simp [Fin.ext_iff]; omega

/-! ## The end of a command (R145, R146) -/

/-- R145, steps 1 to 3: the frames gone, the context ended, COMMAND_FAILED written. -/
def endedCommand (u : Fin 9) (o : CmdOutcome) (s : State) : State :=
  let c := s.commands[u].context
  let quiet := (withdrawFrames u .b (withdrawFrames u .a s)).updUnit u fun x =>
    { x with context :=
        if o = .done then { CommandContext.idle with attempts := c.attempts }
        else { c with state := .failed, nextSend := none, deadline := none, outcome := some o } }
  if o = .done then quiet else logEvent .commandFailed (.unit u) (some (if o = .unanswered then 1 else 2)) quiet

theorem endCore_eq (u : Fin 9) (o : CmdOutcome) (s : State) :
    endCore u o s = handOutcome u s.commands[u].context o (endedCommand u o s) := by
  have hquiet : (withdrawAll u s).updUnit u (fun x => { x with context := endContext o x.context }) =
      (withdrawAll u s).updUnit u fun x => { x with context := endContext o s.commands[u].context } :=
    State.updUnit_congr (by rw [withdrawAll_commands])
  unfold endCore
  dsimp only
  rw [hquiet]
  cases o <;> rfl

theorem endCommand_incomer (o : CmdOutcome) (s : State) : endCommand 8 o s = endCore 8 o s := rfl

theorem endCommand_step (i : Fin 8) (o : CmdOutcome) (s : State) : endCommand (stepUnit i) o s =
    if s.commands[stepUnit i].context.kind = some .opn ∧ o ≠ .done then
      takeRequestWith endCore backupRequest (logEvent .backupTrip (.unit incomer) (some i.val) (endCore (stepUnit i) o s))
    else endCore (stepUnit i) o s := by
  unfold endCommand
  dsimp only
  rw [unitStep_stepUnit]

/-- R146: the backup trip is a request like any other. -/
theorem takeRequestWith_backup (s : State) : takeRequestWith endCore backupRequest s = takeRequest backupRequest s := rfl

theorem handOutcome_close (i : Fin 8) {c : CommandContext} (o : CmdOutcome) (s : State) (h : c.kind = some .close) :
    handOutcome (stepUnit i) c o s = hand (.closeOutcome i o) s := by
  unfold handOutcome
  rw [unitStep_stepUnit, h]

theorem handOutcome_opn (i : Fin 8) {c : CommandContext} (o : CmdOutcome) (s : State) (h : c.kind = some .opn) :
    handOutcome (stepUnit i) c o s = hand (.openOutcome i o) s := by
  unfold handOutcome
  rw [unitStep_stepUnit, h]

theorem handOutcome_incomer {c : CommandContext} {k : CmdKind} (o : CmdOutcome) (s : State) (h : c.kind = some k) :
    handOutcome 8 c o s = if c.cls = some .control then hand (.incomerOutcome k (.outcome o)) s else s := by
  unfold handOutcome
  rw [unitStep_incomer, h]

end

/-- Settles O40. -/
theorem commandEnds : Obligations.CommandEnds := by
  intro u o s c quiet ended
  have hended : endedCommand u o s = ended := rfl
  refine ⟨?_, ?_⟩
  · rintro i rfl
    have hcore := endCore_eq (stepUnit i) o s
    rw [hended] at hcore
    refine ⟨fun hk => ?_, fun hk ho => ?_, fun hk ho => ?_⟩
    · have hclose : ¬ (s.commands[stepUnit i].context.kind = some .opn ∧ o ≠ .done) := fun h => by
        cases hk.symm.trans h.1
      rw [endCommand_step, if_neg hclose, hcore]
      exact handOutcome_close i o _ hk
    · rw [endCommand_step, if_neg fun h => h.2 ho, hcore]
      exact handOutcome_opn i o _ hk
    · rw [endCommand_step, if_pos ⟨hk, ho⟩, takeRequestWith_backup, hcore]
      exact congrArg (fun t => takeRequest backupRequest (logEvent .backupTrip (.unit incomer) (some i.val) t))
        (handOutcome_opn i o _ hk)
  · rintro rfl k hk
    have hcore := endCore_eq 8 o s
    rw [hended] at hcore
    refine ⟨fun hcls => ?_, fun hcls => ?_⟩
    · rw [endCommand_incomer, hcore]
      exact (handOutcome_incomer o _ hk).trans (if_pos hcls)
    · rw [endCommand_incomer, hcore]
      exact (handOutcome_incomer o _ hk).trans (if_neg hcls)

/-! ## The timers of a unit (R136, R141, R143) -/

section
variable {u : Fin 9} {s : State}

theorem handSupervision_commands (sup : Supervision) (s : State) : (handSupervision u sup s).commands = s.commands := by
  unfold handSupervision
  split <;> rfl

theorem goSilent_unit (u : Fin 9) (s : State) :
    (goSilent u s).commands[u] = { s.commands[u] with supervision := .silent, learned := none } := by
  unfold goSilent
  rw [handSupervision_commands]
  exact State.updUnit_unit u _ s

theorem forceEnd_goSilent (u : Fin 9) (s : State) : forceEnd u (goSilent u s) =
    if s.commands[u].context.state = .sending ∨ s.commands[u].context.state = .awaitingMove then
      endCommand u (if s.commands[u].context.kind = some .opn ∧ s.commands[u].position = some .opened then .done
        else .unanswered) (goSilent u s)
    else goSilent u s := by
  unfold forceEnd forcedOutcome
  rw [goSilent_unit]
  exact if_congr inFlight_iff rfl rfl

theorem nextSend_sending (h : s.commands[u].context.state = .sending) : nextSend u s =
    if (s.unitRow u).attempts ≤ s.commands[u].context.attempts then endCommand u (forcedOutcome s.commands[u]) s
    else sendCommand u s := if_pos h

theorem nextSend_idle (h : s.commands[u].context.state ≠ .sending) : nextSend u s = s := if_neg h

theorem deadlineArrives_waiting (h : s.commands[u].context.state = .awaitingMove) :
    deadlineArrives u s = endCommand u .noMove s := if_pos h

theorem deadlineArrives_idle (h : s.commands[u].context.state ≠ .awaitingMove) : deadlineArrives u s = s := if_neg h

theorem supervisionExpiry_silent (ht : s.commands[u].timer ≠ none) (hs : s.commands[u].supervision = .alive) :
    supervisionExpiry u s = forceEnd u (goSilent u s) := if_pos ⟨Option.isSome_iff_ne_none.2 ht, hs⟩

theorem supervisionExpiry_self (h : s.commands[u].timer = none ∨ s.commands[u].supervision = .silent) :
    supervisionExpiry u s = s := by
  refine if_neg fun ⟨ht, hs⟩ => ?_
  rcases h with h | h
  · exact Option.isSome_iff_ne_none.1 ht h
  · cases hs.symm.trans h

end

/-- Settles O41. -/
theorem unitTimers : Obligations.UnitTimers := by
  refine ⟨?_, ?_⟩
  · intro u k cls n s hk hcls hn address frame
    unfold sendCommand commandFrame
    dsimp only
    rw [hk, hcls, hn]
    rfl
  intro u s hs x forced
  refine ⟨fun hst => ?_, fun hst => ?_, fun hst => ?_, fun hst => ?_, ?_, fun hidle => ?_⟩
  · exact exec_of_body rfl hs (nextSend_sending (s := s.dropMail _) hst)
  · exact exec_of_body_self rfl hs (nextSend_idle (s := s.dropMail _) hst)
  · exact exec_of_body rfl hs (deadlineArrives_waiting (s := s.dropMail _) hst)
  · exact exec_of_body_self rfl hs (deadlineArrives_idle (s := s.dropMail _) hst)
  · intro ht hsup silent told
    exact exec_of_body rfl hs ((supervisionExpiry_silent (s := s.dropMail _) ht hsup).trans (forceEnd_goSilent u _))
  · exact exec_of_body_self rfl hs (supervisionExpiry_self (s := s.dropMail _) hidle)

end Sys2Proof.Machine


namespace Sys2Proof.Machine

/-! ## Requests to the command engine (R137 to R140) -/

section
variable {r : CmdRequest} {s : State}

theorem announceTrip_other (h : r.cls = .control ∨ r.unit = 8) : announceTrip r s = s := by
  unfold announceTrip
  split
  · next hcls hstep _ =>
    rcases h with h | h
    · cases hcls.symm.trans h
    · rw [h] at hstep
      cases hstep
  · rfl

theorem announceTrip_step {i : Fin 8} {k : TripCause} (hcls : r.cls = .trip) (hunit : r.unit = stepUnit i)
    (hcause : tripCauseOf r.cause = some k) : announceTrip r s = abandonNull i (hand (.tripStart i k) s) := by
  unfold announceTrip
  rw [hcls, hunit, unitStep_stepUnit, hcause]

/-- The announcement of a trip leaves the command engine and the tables. -/
theorem announceTrip_parts (r : CmdRequest) (s : State) : (announceTrip r s).commands = s.commands ∧
    (announceTrip r s).memory = s.memory :=
  ⟨(announceTrip_sameBut r s).same .commands (by simp), (announceTrip_sameBut r s).same .memory (by simp)⟩

theorem startsCommand_iff : startsCommand r s = true ↔
    ¬ (s.commands[r.unit].context.state = .sending ∨ s.commands[r.unit].context.state = .awaitingMove) ∨
      (r.cls = .trip ∧ s.commands[r.unit].context.cls ≠ some .trip) := by
  unfold startsCommand
  rw [← inFlight_iff, Bool.or_eq_true, Bool.not_eq_true', Bool.and_eq_true, decide_eq_true_eq, decide_eq_true_eq,
    Bool.not_eq_true]

/-- A request that starts no command leaves one in flight of its own class or above. -/
theorem not_startsCommand (hflight : s.commands[r.unit].context.state = .sending ∨
      s.commands[r.unit].context.state = .awaitingMove)
    (hcls : r.cls = .control ∨ s.commands[r.unit].context.cls = some .trip) : ¬ startsCommand r s = true := by
  rw [startsCommand_iff]
  rintro (h | ⟨htrip, hother⟩)
  · exact h hflight
  · exact hcls.elim (fun h => by cases h.symm.trans htrip) hother

theorem requestUses_none (h : ¬ startsCommand r s = true) : requestUses r s = [] := by
  unfold requestUses startUses
  rw [if_neg h]
  exact if_neg fun h' => h h'.1

theorem requestUses_whole (h : startsCommand r s = true) (hwhole : s.unitDamaged r.unit = false) :
    requestUses r s = [.unit r.unit, .link] := by
  unfold requestUses startUses
  rw [if_pos h, hwhole, if_neg Bool.false_ne_true, if_neg fun h => Bool.false_ne_true h.2]
  rfl

/-- R144, R146: the command of a DAMAGED unit ends at once, with no backup trip where no open of a step fails. -/
theorem requestUses_damaged (h : startsCommand r s = true) (hdamaged : s.unitDamaged r.unit = true)
    (hends : r.unit = 8 ∨ r.kind = .close ∨ s.commands[r.unit].position = some .opened) :
    requestUses r s = [.unit r.unit] := by
  have hnone : endUses r.unit (forcedOutcome (s.updUnit r.unit (newContext r)).commands[r.unit])
      (s.updUnit r.unit (newContext r)) = [] := by
    unfold endUses forcedOutcome
    rw [State.updUnit_unit]
    refine if_neg fun ⟨hstep, hkind, hfailed⟩ => ?_
    have hkind : r.kind = .opn := Option.some.inj hkind
    rcases hends with h | h | h
    · rw [h] at hstep
      cases hstep
    · cases h.symm.trans hkind
    · exact hfailed (if_pos ⟨congrArg some hkind, h⟩)
  unfold requestUses startUses
  dsimp only
  rw [hnone, if_pos h, hdamaged, if_pos rfl, if_pos ⟨h, rfl⟩]
  rfl

theorem refuseBusy_step {i : Fin 8} (h : r.unit = stepUnit i) :
    refuseBusy r s = hand (.unitBusyRefusal { step := i, kind := r.kind, cause := r.cause }) s := by
  unfold refuseBusy
  rw [h, unitStep_stepUnit]

theorem refuseBusy_incomer (h : r.unit = 8) : refuseBusy r s = hand (.incomerOutcome r.kind .unitBusy) s := by
  unfold refuseBusy
  rw [h, unitStep_incomer]

theorem takeRequest_refused (h : ¬ startsCommand r s = true) (hcls : r.cls = .control) : takeRequest r s = refuseBusy r s := by
  unfold takeRequest takeRequestWith
  rw [if_neg h, hcls]

theorem takeRequest_merged (h : ¬ startsCommand r s = true) (hcls : r.cls = .trip) : takeRequest r s = s := by
  unfold takeRequest takeRequestWith
  rw [if_neg h, hcls]

theorem takeRequest_starts (h : startsCommand r s = true) : takeRequest r s =
    startCommand endCommand r (if s.commands[r.unit].context.inFlight then noticeOvertaken r.unit s else s) := if_pos h

theorem noticeOvertaken_incomer {u : Fin 9} {k : CmdKind} (hu : u = 8) (h : s.commands[u].context.kind = some k) :
    noticeOvertaken u s = hand (.incomerOutcome k .overtaken) s := by
  unfold noticeOvertaken
  rw [unitStep_eq_none.2 hu, h]

theorem noticeOvertaken_none {u : Fin 9} (h : u ≠ 8 ∨ s.commands[u].context.kind = none) : noticeOvertaken u s = s := by
  unfold noticeOvertaken
  split
  · next hstep hkind =>
    rcases h with h | h
    · exact absurd (unitStep_eq_none.1 hstep) h
    · cases hkind.symm.trans h
  · rfl

/-- R137: a command that starts, from the unit as the request finds it. -/
theorem startCommand_eq {x : UnitLive} (hx : s.commands[r.unit] = x) : startCommand endCommand r s =
    let n : Nat := match x.seqBase with
      | some b => (b + 1) % 256
      | none => 1
    let started := s.updUnit r.unit fun y =>
      { y with
        seqBase := some n
        context :=
          { state := .sending, kind := some r.kind, cls := some r.cls, sequence := some n, attempts := 0,
            nextSend := none, deadline := none, cause := some r.cause, outcome := none } }
    let cleaned : State := match x.learned with
      | some p => withdrawFrames r.unit (otherPort p) started
      | none => started
    if s.unitDamaged r.unit = true then
      endCommand r.unit (if r.kind = .opn ∧ x.position = some .opened then .done else .unanswered) cleaned
    else sendCommand r.unit cleaned := by
  extract_lets n started cleaned
  have hn : nextSequence x.seqBase = n := rfl
  have hstarted : s.updUnit r.unit (newContext r) = started :=
    State.updUnit_congr (by rw [hx]; simp only [newContext, hn])
  have hunit : started.commands[r.unit] = newContext r x := by rw [← hstarted, State.updUnit_unit, hx]
  have hcleaned : dropStale r.unit started = cleaned := by
    unfold dropStale
    rw [hunit]
    rfl
  have hcommands : cleaned.commands = started.commands :=
    hcleaned ▸ (dropStale_sameBut r.unit started).same .commands (by simp)
  have hmemory : cleaned.memory = s.memory :=
    (hcleaned ▸ (dropStale_sameBut r.unit started).same .memory (by simp) : cleaned.memory = started.memory)
  have hdamaged : cleaned.unitDamaged r.unit = s.unitDamaged r.unit := by
    unfold State.unitDamaged
    rw [hmemory]
  have hforced : forcedOutcome cleaned.commands[r.unit] =
      if r.kind = .opn ∧ x.position = some .opened then .done else .unanswered := by
    rw [hcommands, hunit]
    unfold forcedOutcome newContext
    simp only [Option.some.injEq]
  unfold startCommand
  dsimp only
  rw [hstarted, hcleaned, hdamaged, hforced]

theorem exec_commandRequest (h : s.phase = .running) : exec (.commandRequest r) s =
    .next (noteChange (s.dropMail (.commandRequest r)) (takeRequest r (readUsed (requestUses r)
      (announceTrip r (s.dropMail (.commandRequest r)))))) := by
  have hexec : exec (.commandRequest r) s = .next (taking (.commandRequest r) noRows (announcedRequest r) s) := rfl
  rw [hexec, taking_noRows h]
  rfl

theorem exec_commandRequest_ready (h : Ready s) : exec (.commandRequest r) s =
    .next (noteChange (s.dropMail (.commandRequest r)) (takeRequest r (announceTrip r (s.dropMail (.commandRequest r))))) := by
  rw [exec_commandRequest h.1, readUsed_intact]
  exact h.2.of_memory (announceTrip_parts r _).2

end

theorem tripCauseOf_eq {c : Cause} {k : TripCause} (h : (c = .unbalance ∧ k = .unbalance) ∨ (c = .overheat ∧ k = .overheat) ∨
    (c = .deadLine ∧ k = .deadLine) ∨ (c = .settingsFault ∧ k = .settingsFault)) : tripCauseOf c = some k := by
  rcases h with ⟨rfl, rfl⟩ | ⟨rfl, rfl⟩ | ⟨rfl, rfl⟩ | ⟨rfl, rfl⟩ <;> rfl

/-- Settles O39. -/
theorem commandRequest : Obligations.CommandRequest := by
  refine ⟨fun r s h => exec_commandRequest h, ?uses, ?taken, ?announced⟩
  case uses =>
    intro r s x flight
    exact ⟨fun hflight hcls => requestUses_none (not_startsCommand hflight hcls), fun hstart =>
      ⟨requestUses_whole (startsCommand_iff.2 hstart), requestUses_damaged (startsCommand_iff.2 hstart)⟩⟩
  case announced =>
    exact fun r s => ⟨announceTrip_other, fun i k hcls hunit hcause => announceTrip_step hcls hunit (tripCauseOf_eq hcause)⟩
  case taken =>
    intro r s hs c s₀ u x flight
    have hexec := exec_commandRequest_ready (r := r) hs
    obtain ⟨hcommands, hmemory⟩ := announceTrip_parts r s₀
    have hx : (announceTrip r s₀).commands[r.unit] = x := by
      rw [hcommands]
      rfl
    have hstarts : startsCommand r (announceTrip r s₀) = true ↔
        ¬ flight ∨ (r.cls = .trip ∧ x.context.cls ≠ some .trip) := by
      rw [startsCommand_iff, hx]
    refine ⟨fun hflight hcls => ?_, fun hflight hcls hother => ?_, ?_⟩
    · have hself : announceTrip r s₀ = s₀ := announceTrip_other (.inl hcls)
      have hrefused : takeRequest r (announceTrip r s₀) = refuseBusy r s₀ := by
        rw [hself]
        exact takeRequest_refused (not_startsCommand (s := s₀) hflight (.inl hcls)) hcls
      exact ⟨fun i hi => by rw [hexec, hrefused, refuseBusy_step hi], fun hu => by rw [hexec, hrefused, refuseBusy_incomer hu]⟩
    · rw [hexec, takeRequest_merged (mt hstarts.1 ?_) hcls]
      rintro (h | h)
      · exact h hflight
      · exact h.2 hother
    · intro hstart overtaken hincomer helse n started cleaned
      have hover : (if (announceTrip r s₀).commands[r.unit].context.inFlight then noticeOvertaken r.unit (announceTrip r s₀)
          else announceTrip r s₀) = overtaken := by
        rw [hx]
        by_cases hflight : flight
        · rw [if_pos (inFlight_iff.2 hflight)]
          by_cases hnone : u ≠ 8 ∨ x.context.kind = none
          · rw [noticeOvertaken_none (hx ▸ hnone), helse (.inr hnone)]
          · rw [not_or, not_not] at hnone
            obtain ⟨hu, hkind⟩ := hnone
            obtain ⟨k, hk⟩ := Option.ne_none_iff_exists'.1 hkind
            rw [hincomer hflight hu k hk]
            exact noticeOvertaken_incomer hu (by rw [hcommands]; exact hk)
        · rw [if_neg (mt inFlight_iff.1 hflight), helse (.inl hflight)]
      have hkept : overtaken.commands[r.unit] = x ∧ overtaken.unitDamaged r.unit = s.unitDamaged r.unit := by
        have hsame : overtaken.commands = (announceTrip r s₀).commands ∧ overtaken.memory = (announceTrip r s₀).memory := by
          rw [← hover]
          split
          · exact ⟨(noticeOvertaken_sameBut _ _).same .commands (by simp), (noticeOvertaken_sameBut _ _).same .memory (by simp)⟩
          · exact ⟨rfl, rfl⟩
        unfold State.unitDamaged
        rw [hsame.1, hsame.2, hmemory]
        exact ⟨hx, rfl⟩
      have hbody : takeRequest r (announceTrip r s₀) = _ :=
        (takeRequest_starts (hstarts.2 hstart)).trans ((congrArg _ hover).trans (startCommand_eq hkept.1))
      rw [hexec, hbody, hkept.2]
      exact ⟨fun h => by rw [h]; rfl, fun h => by rw [h]; rfl⟩

end Sys2Proof.Machine


namespace Sys2Proof.Machine

/-! ## Status frames (R135, R142, R143) -/

section
variable {f : StatusFrame} {u : Fin 9} {s : State}

theorem matches_unit_iff {a : Addr} : (!s.unitDamaged u && (s.unitRow u).address = a && a ≠ 0) = true ↔
    s.unitDamaged u = false ∧ (s.unitRow u).address = a ∧ a ≠ 0 := by
  rw [Bool.and_eq_true, Bool.and_eq_true, Bool.not_eq_true', decide_eq_true_eq, decide_eq_true_eq, and_assoc]

/-- What a matched frame leaves in its unit: a unit that sends is ALIVE. -/
def seenStatus (f : StatusFrame) (limit : Nat) (y : UnitLive) : UnitLive :=
  { y with
    position := some (positionOf f.position), ready := f.ready, learned := some f.port, supervision := .alive
    timer := some { elapsed := 0, limit := limit }
    seqBase := some (y.seqBase.getD f.echoSeq.toNat) }

theorem comeAlive_seen (u : Fin 9) (limit : Nat) (s : State) : comeAlive u (s.updUnit u (seeStatus f limit)) =
    if s.commands[u].supervision = .silent then
      handSupervision u .alive (logEvent .unitAlive (.unit u) none (s.updUnit u (seenStatus f limit)))
    else s.updUnit u (seenStatus f limit) := by
  have hbase (y : UnitLive) : (seeStatus f limit y).seqBase = (seenStatus f limit y).seqBase := by
    unfold seeStatus seenStatus
    cases y.seqBase <;> rfl
  have hseen (y : UnitLive) : { seeStatus f limit y with supervision := .alive } = seenStatus f limit y := by
    rw [UnitLive.mk.injEq]
    exact ⟨rfl, rfl, rfl, rfl, rfl, hbase y, rfl⟩
  unfold comeAlive
  rw [State.updUnit_unit]
  refine if_ctx_congr Iff.rfl (fun _ => ?_) fun halive => ?_
  · rw [State.updUnit_updUnit]
    exact congrArg (fun t => handSupervision u .alive (logEvent .unitAlive (.unit u) none t))
      (State.updUnit_congr (hseen _))
  · refine State.updUnit_congr ((hseen _).symm.trans ?_).symm
    have halive : (seeStatus f limit s.commands[u]).supervision = .alive := by
      show s.commands[u].supervision = .alive
      cases hsup : s.commands[u].supervision with
      | alive => rfl
      | silent => exact absurd hsup halive
    rw [← halive]

/-- R135: the unit, and what is told of it. -/
def statusTold (u : Fin 9) (f : StatusFrame) (s : State) : State :=
  reportPosition u s.commands[u] (positionOf f.position)
    (comeAlive u (s.updUnit u (seeStatus f (s.unitRow u).statusTimeout)))

theorem takeStatus_none (h : ∀ u, ¬ (s.unitDamaged u = false ∧ (s.unitRow u).address = f.sender ∧ f.sender ≠ 0)) :
    takeStatus f s = s := by
  have hmatch : matchUnit f.sender s = none :=
    find?_finRange_eq_none.2 fun u => Bool.eq_false_iff.2 fun hu => h u (matches_unit_iff.1 hu)
  unfold takeStatus
  rw [hmatch]

theorem takeStatus_matched (hu : s.unitDamaged u = false ∧ (s.unitRow u).address = f.sender ∧ f.sender ≠ 0)
    (hfirst : ∀ v, v < u → ¬ (s.unitDamaged v = false ∧ (s.unitRow v).address = f.sender ∧ f.sender ≠ 0)) :
    takeStatus f s = judgeStatus u f (statusTold u f s) := by
  have hmatch : matchUnit f.sender s = some u :=
    find?_finRange_eq_some.2 ⟨matches_unit_iff.2 hu, fun v hv => Bool.eq_false_iff.2 fun h => hfirst v hv (matches_unit_iff.1 h)⟩
  unfold takeStatus
  rw [hmatch]
  rfl

theorem statusTold_parts (u : Fin 9) (f : StatusFrame) (s : State) :
    (statusTold u f s).commands[u].context = s.commands[u].context ∧ SameBut [.mail, .eventList, .commands] s (statusTold u f s) := by
  have hreport := reportPosition_sameBut u s.commands[u] (positionOf f.position)
    (comeAlive u (s.updUnit u (seeStatus f (s.unitRow u).statusTimeout)))
  refine ⟨?_, ?_⟩
  · unfold statusTold
    rw [hreport.same .commands (by simp), comeAlive_seen]
    have hunit : (s.updUnit u (seenStatus f (s.unitRow u).statusTimeout)).commands[u].context = s.commands[u].context := by
      rw [State.updUnit_unit]
      rfl
    by_cases hsilent : s.commands[u].supervision = .silent
    · simp only [if_pos hsilent, handSupervision_commands]
      exact hunit
    · simp only [if_neg hsilent]
      exact hunit
  · exact (((State.updUnit_sameBut u _ s).trans (comeAlive_sameBut u _)).trans hreport).mono (by simp)

/-- R142, R143: the command in flight whose target the unit has reached is done. -/
theorem judgeStatus_reached {c : CommandContext} (hc : s.commands[u].context = c) (hflight : c.state = .sending ∨ c.state = .awaitingMove)
    (hreached : c.kind.map targetOf = some (positionOf f.position)) : judgeStatus u f s = endCommand u .done s := by
  unfold judgeStatus
  dsimp only
  rw [hc]
  rcases hflight with h | h <;> rw [h]
  · exact if_pos (decide_eq_true hreached)
  · exact if_pos (decide_eq_true hreached)

theorem judgeStatus_acknowledged {c : CommandContext} (hc : s.commands[u].context = c) (hsending : c.state = .sending)
    (hreached : ¬ c.kind.map targetOf = some (positionOf f.position)) (hack : acknowledges f c = true) :
    judgeStatus u f s = awaitMove u s := by
  unfold judgeStatus
  dsimp only
  rw [hc, hsending]
  exact (if_neg (mt of_decide_eq_true hreached)).trans (if_pos hack)

theorem judgeStatus_self {c : CommandContext} (hc : s.commands[u].context = c)
    (hreached : ¬ ((c.state = .sending ∨ c.state = .awaitingMove) ∧ c.kind.map targetOf = some (positionOf f.position)))
    (hack : ¬ (c.state = .sending ∧ acknowledges f c = true)) : judgeStatus u f s = s := by
  unfold judgeStatus
  dsimp only
  rw [hc]
  split
  · next hst =>
    rw [if_neg (mt of_decide_eq_true fun h => hreached ⟨.inl hst, h⟩)]
    exact if_neg fun h => hack ⟨hst, h⟩
  · next hst => exact if_neg (mt of_decide_eq_true fun h => hreached ⟨.inr hst, h⟩)
  · rfl

theorem target_reached_iff {k : Option CmdKind} {p : Position} : k.map targetOf = some p ↔
    (k = some .opn ∧ p = .opened) ∨ (k = some .close ∧ p = .closed) := by
  rcases k with _ | k
  · simp
  · cases k <;> simp [targetOf, eq_comm]

theorem echoKindOf_eq_some {b : Byte} {k : CmdKind} :
    echoKindOf b = some k ↔ (k = .opn ∧ b = 1) ∨ (k = .close ∧ b = 2) := by
  unfold echoKindOf
  split
  · next h => subst h; cases k <;> simp
  · next h =>
    split
    · next h => subst h; cases k <;> simp
    · next h' =>
      refine ⟨nofun, ?_⟩
      rintro (⟨-, h₁⟩ | ⟨-, h₂⟩)
      · exact absurd h₁ h
      · exact absurd h₂ h'

theorem acknowledges_iff {c : CommandContext} : acknowledges f c = true ↔ c.sequence = some f.echoSeq.toNat ∧
    ((c.kind = some .opn ∧ f.echoKind = 1) ∨ (c.kind = some .close ∧ f.echoKind = 2)) := by
  unfold acknowledges
  rw [Bool.and_eq_true, Bool.and_eq_true, decide_eq_true_eq, decide_eq_true_eq, and_assoc]
  refine and_congr_right fun _ => ?_
  rcases c.kind with _ | k
  · simp
  · rw [echoKindOf_eq_some]
    simp

end

/-- Settles O38. -/
theorem statusFrameTaken : Obligations.StatusFrameTaken := by
  intro f s hs c s₀ carries
  refine ⟨fun hnone => exec_of_body_self rfl hs (takeStatus_none (s := s₀) hnone), ?_⟩
  intro u hu hfirst x cx flight pos seen alive told reached echoed
  have htold : statusTold u f s₀ = told := by
    have hseen : comeAlive u (s₀.updUnit u (seeStatus f (s₀.unitRow u).statusTimeout)) =
        if x.supervision = .silent then handSupervision u .alive (logEvent .unitAlive (.unit u) none seen) else seen :=
      comeAlive_seen u _ s₀
    have hflight : (!x.context.inFlight) = true ↔ ¬ flight := by rw [Bool.not_eq_true', ← Bool.not_eq_true, inFlight_iff]
    have hincomer (v : State) : (if s₀.commands[u].position ≠ some (positionOf f.position) ∧
        positionOf f.position ≠ .intermediate ∧ !s₀.commands[u].context.inFlight then
          logEvent .uncommandedPosition (.unit u) (some (if positionOf f.position = .opened then 1 else 2)) v else v) =
        if x.position ≠ some pos ∧ pos ≠ .intermediate ∧ ¬ flight then
          logEvent .uncommandedPosition (.unit u) (some (if pos = .opened then 1 else 2)) v else v :=
      if_congr (and_congr Iff.rfl (and_congr Iff.rfl hflight)) rfl rfl
    unfold statusTold reportPosition
    rw [hseen]
    unfold handSupervision
    dsimp only [told, alive]
    by_cases hsilent : x.supervision = .silent
    · simp only [if_pos hsilent]
      cases hstep : unitStep u with
      | some i => rfl
      | none =>
        have hu := unitStep_eq_none.1 hstep
        exact (hincomer _).trans (by rw [hu])
    · simp only [if_neg hsilent]
      cases hstep : unitStep u with
      | some i => rfl
      | none =>
        have hu := unitStep_eq_none.1 hstep
        exact (hincomer _).trans (by rw [hu])
  have hbody := takeStatus_matched (s := s₀) hu hfirst
  rw [htold] at hbody
  obtain ⟨hcx, hparts⟩ := statusTold_parts u f s₀
  rw [htold] at hcx hparts
  have hcx : told.commands[u].context = cx := hcx
  have hreached : cx.kind.map targetOf = some (positionOf f.position) ↔ reached := target_reached_iff
  have hechoed : acknowledges f cx = true ↔ echoed := acknowledges_iff
  refine ⟨fun hflight hr => exec_of_body rfl hs (hbody.trans (judgeStatus_reached hcx hflight (hreached.2 hr))),
    fun hsending hr he => ?_, fun hr he => exec_of_body rfl hs (hbody.trans ?_)⟩
  · refine exec_of_body rfl hs (hbody.trans ((judgeStatus_acknowledged hcx hsending (mt hreached.1 hr) (hechoed.2 he)).trans ?_))
    have htime : told.timebase = s.timebase := hparts.same .timebase (by simp)
    have hrow : told.unitRow u = s.unitRow u := by
      have hmemory : told.memory = s.memory := hparts.same .memory (by simp)
      unfold State.unitRow
      rw [hmemory]
    unfold awaitMove withdrawAll
    dsimp only
    rw [htime, hrow]
  · exact judgeStatus_self hcx (fun h => hr ⟨h.1, hreached.1 h.2⟩) fun h => he ⟨h.1, hechoed.1 h.2⟩

end Sys2Proof.Machine


namespace Sys2Proof.Machine

/-! ## The arbiter (R153) -/

section
variable {p : PortState}

theorem choose_busy (h : p.linkUp = false ∨ p.tx ≠ none) : p.choose = p := by
  refine if_neg fun hidle => ?_
  rw [Bool.and_eq_true, Option.isNone_iff_eq_none] at hidle
  rcases h with h | h
  · exact Bool.false_ne_true (h.symm.trans hidle.1)
  · exact h hidle.2

/-- R153: the arbiter's lines, at a frame boundary. -/
theorem choose_idle (hup : p.linkUp = true) (htx : p.tx = none) : p.choose =
    if ∃ f ∈ p.origin, f.isCommand = true then p.sendOrigin
    else if 2 ≤ p.originRun ∧ p.forward ≠ [] then p.sendForward
    else if p.origin ≠ [] then p.sendOrigin
    else p.sendForward := by
  unfold PortState.choose
  rw [hup, htx]
  exact (if_pos rfl).trans (if_congr List.any_eq_true rfl rfl)

theorem choose_origin {f : OriginFrame} {rest : List OriginFrame} (hup : p.linkUp = true) (htx : p.tx = none)
    (horigin : p.origin = f :: rest) (hfirst : (∃ g ∈ p.origin, g.isCommand = true) ∨ p.originRun < 2 ∨ p.forward = []) :
    p.choose = { p with origin := rest, tx := some (.origin f), originRun := min 2 (p.originRun + 1) } := by
  have hsend : p.sendOrigin = { p with origin := rest, tx := some (.origin f), originRun := min 2 (p.originRun + 1) } := by
    unfold PortState.sendOrigin
    rw [horigin]
  rw [choose_idle hup htx, hsend]
  by_cases hcommand : ∃ g ∈ p.origin, g.isCommand = true
  · exact if_pos hcommand
  · have hforward : ¬ (2 ≤ p.originRun ∧ p.forward ≠ []) := fun ⟨hrun, hwaits⟩ =>
      (hfirst.resolve_left hcommand).elim (Nat.not_lt.2 hrun) hwaits
    rw [if_neg hcommand, if_neg hforward]
    exact if_pos (by rw [horigin]; exact List.cons_ne_nil f rest)

theorem choose_forward {b : List Byte} {rest : List (List Byte)} (hup : p.linkUp = true) (htx : p.tx = none)
    (hforward : p.forward = b :: rest) (hcommand : ¬ ∃ g ∈ p.origin, g.isCommand = true)
    (hturn : 2 ≤ p.originRun ∨ p.origin = []) :
    p.choose = { p with forward := rest, tx := some (.forward b), originRun := 0 } := by
  have hsend : p.sendForward = { p with forward := rest, tx := some (.forward b), originRun := 0 } := by
    unfold PortState.sendForward
    rw [hforward]
  rw [choose_idle hup htx, if_neg hcommand, hsend]
  by_cases hrun : 2 ≤ p.originRun
  · exact if_pos ⟨hrun, by rw [hforward]; exact List.cons_ne_nil b rest⟩
  · rw [if_neg fun h => hrun h.1]
    exact if_neg (not_not.2 (hturn.resolve_left hrun))

theorem choose_empty (horigin : p.origin = []) (hforward : p.forward = []) : p.choose = p := by
  have hsendOrigin : p.sendOrigin = p := by
    unfold PortState.sendOrigin
    rw [horigin]
  have hsendForward : p.sendForward = p := by
    unfold PortState.sendForward
    rw [hforward]
  unfold PortState.choose
  rw [hsendOrigin, hsendForward]
  simp only [ite_self]

end

/-! ## The origin queue (R151, R152) -/

section
variable {f g : OriginFrame} {u : Fin 9} {p : PortState} {before after : List OriginFrame}

theorem ofUnit_iff : g.ofUnit u = true ↔ g.cls = .command u := decide_eq_true_iff

theorem isReport_iff : g.isReport = true ↔ g.cls = .report := by
  unfold OriginFrame.isReport
  cases g.cls <;> simp

/-- R151: a COMMAND frame stands behind the COMMAND frames and ahead of all others. -/
theorem insertCommand_append {cs rest : List OriginFrame} (f : OriginFrame) (hcs : ∀ g ∈ cs, g.isCommand = true)
    (hrest : ∀ g ∈ rest, g.isCommand = false) : insertCommand f (cs ++ rest) = cs ++ f :: rest := by
  have htake : rest.takeWhile OriginFrame.isCommand = [] := by
    cases rest with
    | nil => rfl
    | cons g rest => exact List.takeWhile_cons_of_neg (ne_true_of_eq_false (hrest g List.mem_cons_self))
  have hdrop : rest.dropWhile OriginFrame.isCommand = rest := by
    cases rest with
    | nil => rfl
    | cons g rest => exact List.dropWhile_cons_of_neg (ne_true_of_eq_false (hrest g List.mem_cons_self))
  unfold insertCommand
  rw [List.takeWhile_append_of_pos hcs, List.dropWhile_append_of_pos hcs, htake, hdrop, List.append_nil, List.append_assoc]
  rfl

/-- The first of a list that satisfies `q` leaves it from between those before it and those behind. -/
theorem eraseP_append_cons {α : Type} {q : α → Bool} {before after : List α} {x : α} (hx : q x = true)
    (hbefore : ∀ y ∈ before, ¬ q y = true) : (before ++ x :: after).eraseP q = before ++ after := by
  rw [List.eraseP_append_right _ fun y hy => by simpa using hbefore y hy, List.eraseP_cons_of_pos hx]

/-- A COMMAND frame's way into the queue. -/
theorem enter_command (hf : f.cls = .command u) : p.enter f =
    if p.origin.any (OriginFrame.ofUnit u) then
      ({ p with origin := p.origin.map fun g => if g.ofUnit u then f else g }, none)
    else if p.origin.length < Config.originCapacity then
      ({ p with origin := insertCommand f p.origin }, none)
    else
      match p.origin.find? OriginFrame.isReport with
      | some g => ({ p with origin := insertCommand f (p.origin.eraseP OriginFrame.isReport) }.countDisplaced, some g)
      | none =>
        match p.origin.find? OriginFrame.isReply with
        | some g => ({ p with origin := insertCommand f (p.origin.eraseP OriginFrame.isReply) }.countDisplaced, some g)
        | none => (p, none) := by
  obtain ⟨cls, frame⟩ := f
  subst hf
  rfl

theorem enter_replaces (hf : f.cls = .command u) (h : ∃ g ∈ p.origin, g.cls = .command u) :
    p.enter f = ({ p with origin := p.origin.map fun g => if g.cls = .command u then f else g }, none) := by
  rw [enter_command hf, if_pos (List.any_eq_true.2 (h.imp fun g hg => ⟨hg.1, ofUnit_iff.2 hg.2⟩))]
  simp only [ofUnit_iff]

theorem not_any_ofUnit (h : ∀ g ∈ p.origin, g.cls ≠ .command u) : ¬ p.origin.any (OriginFrame.ofUnit u) = true := by
  rw [List.any_eq_true]
  exact fun ⟨g, hg, hu⟩ => h g hg (ofUnit_iff.1 hu)

theorem enter_inserts (hf : f.cls = .command u) (hnew : ∀ g ∈ p.origin, g.cls ≠ .command u) (hroom : p.origin.length < 16) :
    p.enter f = ({ p with origin := insertCommand f p.origin }, none) := by
  rw [enter_command hf, if_neg (not_any_ofUnit hnew)]
  exact if_pos hroom

theorem enter_full (hf : f.cls = .command u) (hnew : ∀ g ∈ p.origin, g.cls ≠ .command u) (hfull : 16 ≤ p.origin.length) :
    p.enter f =
      match p.origin.find? OriginFrame.isReport with
      | some g => ({ p with origin := insertCommand f (p.origin.eraseP OriginFrame.isReport) }.countDisplaced, some g)
      | none =>
        match p.origin.find? OriginFrame.isReply with
        | some g => ({ p with origin := insertCommand f (p.origin.eraseP OriginFrame.isReply) }.countDisplaced, some g)
        | none => (p, none) := by
  rw [enter_command hf, if_neg (not_any_ofUnit hnew)]
  exact if_neg (Nat.not_lt.2 hfull)

theorem enter_displaces_report (hf : f.cls = .command u) (hnew : ∀ g ∈ p.origin, g.cls ≠ .command u)
    (hfull : 16 ≤ p.origin.length) (hq : p.origin = before ++ g :: after) (hg : g.cls = .report)
    (hbefore : ∀ x ∈ before, x.cls ≠ .report) :
    p.enter f = ({ p with origin := insertCommand f (before ++ after) }.countDisplaced, some g) := by
  have hbefore (x) (hx : x ∈ before) : ¬ x.isReport = true := mt isReport_iff.1 (hbefore x hx)
  rw [enter_full hf hnew hfull, hq, find?_append_cons (isReport_iff.2 hg) hbefore,
    eraseP_append_cons (isReport_iff.2 hg) hbefore]

theorem enter_displaces_reply (hf : f.cls = .command u) (hnew : ∀ g ∈ p.origin, g.cls ≠ .command u)
    (hfull : 16 ≤ p.origin.length) (hreport : ∀ x ∈ p.origin, x.cls ≠ .report) (hq : p.origin = before ++ g :: after)
    (hg : g.isReply = true) (hbefore : ∀ x ∈ before, x.isReply = false) :
    p.enter f = ({ p with origin := insertCommand f (before ++ after) }.countDisplaced, some g) := by
  have hbefore (x) (hx : x ∈ before) : ¬ x.isReply = true := ne_true_of_eq_false (hbefore x hx)
  rw [enter_full hf hnew hfull, List.find?_eq_none.2 fun x hx => mt isReport_iff.1 (hreport x hx), hq,
    find?_append_cons hg hbefore, eraseP_append_cons hg hbefore]

theorem enter_lost (hf : f.cls = .command u) (hnew : ∀ g ∈ p.origin, g.cls ≠ .command u)
    (hfull : 16 ≤ p.origin.length) (hreport : ∀ x ∈ p.origin, x.cls ≠ .report) (hreply : ∀ x ∈ p.origin, x.isReply = false) :
    p.enter f = (p, none) := by
  rw [enter_full hf hnew hfull, List.find?_eq_none.2 fun x hx => mt isReport_iff.1 (hreport x hx),
    List.find?_eq_none.2 fun x hx => ne_true_of_eq_false (hreply x hx)]

/-- R151: a frame of another class joins the tail, or is not entered. -/
theorem enter_other (hf : f.isCommand = false) (p : PortState) : p.enter f =
    if p.origin.length < 16 then ({ p with origin := p.origin ++ [f] }, none)
    else ({ p with counts := { p.counts with originDrops := (p.counts.originDrops + 1) % 4294967296 } }, some f) := by
  unfold PortState.enter
  split
  · next hcls => exact absurd (OriginFrame.isCommand_eq_true.2 ⟨_, hcls⟩) (ne_true_of_eq_false hf)
  · rfl

theorem enterOrigin_eq (f : OriginFrame) (p : Port) (s : State) : enterOrigin f p s =
    if ∃ g, ((s.port p).enter f).2 = some g ∧ g.cls = .reply true then
      hand .restartReset (s.setPort p ((s.port p).enter f).1.choose)
    else s.setPort p ((s.port p).enter f).1.choose := by
  unfold enterOrigin restartDue
  dsimp only
  cases ((s.port p).enter f).2 with
  | none => exact (if_neg fun ⟨_, h, _⟩ => nomatch h).symm
  | some g => exact if_congr ⟨fun h => ⟨g, rfl, h⟩, fun ⟨_, h, hcls⟩ => Option.some.inj h ▸ hcls⟩ rfl rfl

end

/-- Settles O42. -/
theorem originQueue : Obligations.OriginQueue := by
  refine ⟨fun p => ⟨choose_busy, fun hup htx => ⟨fun f rest => choose_origin hup htx, fun b rest => choose_forward hup htx,
    choose_empty⟩⟩, fun f p => ⟨fun u hf => ⟨enter_replaces hf, fun hnew => ⟨?_, fun hfull => ⟨?_, fun hreport => ⟨?_,
    enter_lost hf hnew hfull hreport⟩⟩⟩⟩, fun hf => ⟨fun hroom => (enter_other hf p).trans (if_pos hroom),
    fun hfull => (enter_other hf p).trans (if_neg (Nat.not_lt.2 hfull))⟩⟩,
    fun f s => ⟨fun p => enterOrigin_eq f p s, fun p => rfl, rfl⟩⟩
  · intro hroom cs rest hq hcs hrest
    rw [enter_inserts hf hnew hroom, hq, insertCommand_append f hcs hrest]
  · exact fun before g after hq hg hbefore => enter_displaces_report hf hnew hfull hq hg hbefore
  · exact fun before g after hq hg hbefore => enter_displaces_reply hf hnew hfull hreport hq hg hbefore

end Sys2Proof.Machine


namespace Sys2Proof.Machine

/-! ## Port events (R150, R153, R161) -/

section
variable {p : Port} {s : State}

theorem transmissionEnds_idle (h : (s.port p).tx = none) : transmissionEnds p s = s := by
  unfold transmissionEnds
  rw [h]

theorem transmissionEnds_sent {t : TxFrame} (h : (s.port p).tx = some t)
    (hplain : ∀ f, t = .origin f → f.cls ≠ .reply true) :
    transmissionEnds p s = s.setPort p (s.port p).endTransmission := by
  unfold transmissionEnds
  rw [h]
  dsimp only
  unfold replySent
  split
  · next f hf =>
    exact if_neg (hplain f (Option.some.inj hf))
  · rfl

/-- R164: the reply of a RESTART has been sent. -/
theorem transmissionEnds_restart {f : OriginFrame} (h : (s.port p).tx = some (.origin f)) (hf : f.cls = .reply true) :
    transmissionEnds p s = hand .restartReset (s.setPort p (s.port p).endTransmission) := by
  unfold transmissionEnds
  rw [h]
  exact if_pos hf

theorem portGoesDown_up (h : (s.port p).linkUp = true) : portGoesDown p s =
    logEvent .portDown .none (some (portNumber p)) (s.setPort p (s.port p).goDown) := if_pos h

theorem portGoesDown_down (h : (s.port p).linkUp = false) : portGoesDown p s = s := if_neg (ne_true_of_eq_false h)

theorem portComesUp_down (h : (s.port p).linkUp = false) : portComesUp p s =
    logEvent .portUp .none (some (portNumber p)) (s.setPort p (s.port p).goUp) := by
  unfold portComesUp
  rw [h]
  rfl

theorem portComesUp_up (h : (s.port p).linkUp = true) : portComesUp p s = s := by
  unfold portComesUp
  rw [h]
  rfl

/-- What the ports' commands do between a reset and start-up. -/
theorem exec_port_inReset {k : ResetKind} (h : s.phase = .inReset k) :
    exec (.portUp p) s = .next (s.setPort p (s.port p).goUp) ∧
    exec (.portDown p) s = .next (s.setPort p (s.port p).goDown) ∧
    exec (.transmissionEnd p) s = .next (transmissionEnds p s) := by
  refine ⟨?_, ?_, ?_⟩
  · show execPortUp p s = _
    unfold execPortUp
    rw [h]
  · show execPortDown p s = _
    unfold execPortDown
    rw [h]
  · show execTransmissionEnd p s = _
    unfold execTransmissionEnd
    rw [h]

/-- A running part takes the ports' commands like any other. -/
theorem exec_port_running (h : s.phase = .running) :
    exec (.portUp p) s = .next (taking (.portUp p) noRows (portComesUp p) s) ∧
    exec (.portDown p) s = .next (taking (.portDown p) noRows (portGoesDown p) s) ∧
    exec (.transmissionEnd p) s = .next (taking (.transmissionEnd p) noRows (transmissionEnds p) s) := by
  refine ⟨?_, ?_, ?_⟩
  · show execPortUp p s = _
    unfold execPortUp
    rw [h]
  · show execPortDown p s = _
    unfold execPortDown
    rw [h]
  · show execTransmissionEnd p s = _
    unfold execTransmissionEnd
    rw [h]

end

/-- Settles O44. -/
theorem portEvents : Obligations.PortEvents := by
  refine ⟨?running, ?reset, ?keylock⟩
  case running =>
    intro p s hs x n
    have hn : portNumber p = n := by cases p <;> rfl
    obtain ⟨hup, hdown, hend⟩ := exec_port_running (p := p) hs.1
    refine ⟨fun htx => exec_of_body_self hend hs (transmissionEnds_idle (s := s.dropMail _) htx), ?_, fun hlink => ?_,
      fun hlink => ?_, fun hlink => ?_, fun hlink => ?_⟩
    · intro t ht ended
      refine ⟨fun hplain => exec_of_body hend hs (transmissionEnds_sent (s := s.dropMail _) ht hplain), ?_⟩
      rintro f rfl hf
      exact exec_of_body hend hs (transmissionEnds_restart (s := s.dropMail _) ht hf)
    · rw [← hn]
      exact exec_of_body hdown hs (portGoesDown_up (s := s.dropMail _) hlink)
    · exact exec_of_body_self hdown hs (portGoesDown_down (s := s.dropMail _) hlink)
    · rw [← hn]
      exact exec_of_body hup hs (portComesUp_down (s := s.dropMail _) hlink)
    · exact exec_of_body_self hup hs (portComesUp_up (s := s.dropMail _) hlink)
  case reset =>
    intro p k s hs x
    obtain ⟨hup, hdown, hend⟩ := exec_port_inReset (p := p) hs
    refine ⟨hup, hdown, fun htx => by rw [hend, transmissionEnds_idle htx], ?_⟩
    intro t ht ended
    refine ⟨fun hplain => by rw [hend, transmissionEnds_sent ht hplain]; rfl, ?_⟩
    rintro f rfl hf
    rw [hend, transmissionEnds_restart ht hf]
    rfl
  case keylock =>
    intro b s
    refine ⟨fun hs => ?_, fun hs => ?_⟩
    · have hexec : exec (.keylockChange b) s =
          .next (taking (.keylockChange b) noRows (fun s => { s with keylock := b }) s) := by
        show execKeylockChange b s = _
        unfold execKeylockChange
        rw [hs.1]
      exact exec_of_body hexec hs rfl
    · show execKeylockChange b s = _
      unfold execKeylockChange
      cases hphase : s.phase with
      | running => exact absurd hphase hs
      | inReset k => rfl

end Sys2Proof.Machine


namespace Sys2Proof.Machine

/-! ## Reading a request (R158, R160) -/

section
variable {α : Type} {q : Requester} {args bs : List Byte} {k : Nat}

theorem readNat_eq_some {x : Nat × List Byte} (h : readNat k bs = some x) : k ≤ bs.length ∧ x.2 = bs.drop k := by
  unfold readNat at h
  split at h
  · next hk =>
    cases h
    exact ⟨hk, rfl⟩
  · cases h

theorem finish_ne_none {x : Option (α × List Byte)} (h : finish x ≠ none) : ∃ a, x = some (a, []) := by
  unfold finish at h
  split at h
  · next a => exact ⟨a, rfl⟩
  · exact absurd rfl h

/-- A number of `k` bytes that ends its arguments takes all of them. -/
theorem readNat_last (h : finish (readNat k bs) ≠ none) : bs.length = k := by
  obtain ⟨a, ha⟩ := finish_ne_none h
  obtain ⟨hlen, hrest⟩ := readNat_eq_some ha
  have hrest := congrArg List.length hrest
  rw [List.length_drop] at hrest
  simp only [List.length_nil] at hrest
  omega

theorem noArguments_fits {i : Instr} (h : noArguments i args ≠ none) : args = [] := by
  unfold noArguments at h
  split at h
  · next hargs => exact hargs
  · exact absurd rfl h

theorem oneArgument_fits {f : Nat → Instr} (h : oneArgument k f args ≠ none) : args.length = k :=
  readNat_last fun hnone => h (by unfold oneArgument; rw [hnone]; rfl)

theorem bind_ne_none {β : Type} {x : Option α} {f : α → Option β} (h : x.bind f ≠ none) :
    ∃ a, x = some a ∧ f a ≠ none := by
  cases x with
  | none => exact absurd rfl h
  | some a => exact ⟨a, rfl, h⟩

theorem readReadRows_fits (h : readReadRows q args ≠ none) : args.length = 9 := by
  obtain ⟨⟨t, bs₁⟩, h₁, h⟩ := bind_ne_none h
  obtain ⟨⟨first, bs₂⟩, h₂, h⟩ := bind_ne_none h
  obtain ⟨count, h₃, -⟩ := bind_ne_none h
  obtain ⟨hlen₁, rfl⟩ := readNat_eq_some h₁
  obtain ⟨hlen₂, rfl⟩ := readNat_eq_some h₂
  have hlen₃ := readNat_last (k := 4) (ne_of_eq_of_ne h₃ (Option.some_ne_none count))
  simp only [List.length_drop] at hlen₂ hlen₃
  omega

theorem readSelect_fits (h : readSelect q args ≠ none) : args.length = 9 := by
  obtain ⟨⟨t, bs₁⟩, h₁, h⟩ := bind_ne_none h
  obtain ⟨⟨first, bs₂⟩, h₂, h⟩ := bind_ne_none h
  obtain ⟨count, h₃, -⟩ := bind_ne_none h
  obtain ⟨hlen₁, rfl⟩ := readNat_eq_some h₁
  obtain ⟨hlen₂, rfl⟩ := readNat_eq_some h₂
  have hlen₃ := readNat_last (k := 4) (ne_of_eq_of_ne h₃ (Option.some_ne_none count))
  simp only [List.length_drop] at hlen₂ hlen₃
  omega

theorem readReadCapture_fits (h : readReadCapture q args ≠ none) : args.length = 8 := by
  obtain ⟨⟨b, bs₁⟩, h₁, h⟩ := bind_ne_none h
  obtain ⟨offset, h₂, -⟩ := bind_ne_none h
  obtain ⟨hlen₁, rfl⟩ := readNat_eq_some h₁
  have hlen₂ := readNat_last (k := 4) (ne_of_eq_of_ne h₂ (Option.some_ne_none offset))
  simp only [List.length_drop] at hlen₂
  omega

theorem readWrite_fits (h : readWrite q args ≠ none) : 9 ≤ args.length := by
  obtain ⟨⟨t, bs₁⟩, h₁, h⟩ := bind_ne_none h
  obtain ⟨⟨first, bs₂⟩, h₂, h⟩ := bind_ne_none h
  obtain ⟨⟨count, bs₃⟩, h₃, -⟩ := bind_ne_none h
  obtain ⟨hlen₁, rfl⟩ := readNat_eq_some h₁
  obtain ⟨hlen₂, rfl⟩ := readNat_eq_some h₂
  obtain ⟨hlen₃, rfl⟩ := readNat_eq_some h₃
  simp only [List.length_drop] at hlen₂ hlen₃
  omega

/-- `n` numbers of `k` bytes take `n * k` bytes. -/
theorem readMany_readNat {n : Nat} {x : List Nat × List Byte} (h : readMany (readNat k) n bs = some x) :
    bs.length = n * k + x.2.length := by
  induction n generalizing bs x with
  | zero =>
    cases h
    simp
  | succ n ih =>
    obtain ⟨⟨a, bs₁⟩, h₁, h⟩ := Option.bind_eq_some_iff.1 h
    obtain ⟨⟨as, bs₂⟩, h₂, h⟩ := Option.bind_eq_some_iff.1 h
    cases h
    obtain ⟨hlen₁, rfl⟩ := readNat_eq_some h₁
    have hlen₂ := ih h₂
    rw [List.length_drop] at hlen₂
    rw [Nat.succ_mul]
    simp only at hlen₂ ⊢
    omega

theorem readList_fits {f : List Nat → Instr} (h : (finish (readList (readNat 4) args)).map f ≠ none) :
    ∃ n rest, args = n :: rest ∧ rest.length = 4 * n.toNat := by
  obtain ⟨ns, hns⟩ := finish_ne_none fun hnone => h (by rw [hnone]; rfl)
  obtain ⟨⟨n, bs⟩, hn, hns⟩ := Option.bind_eq_some_iff.1 hns
  cases args with
  | nil => cases hn
  | cons b rest =>
    refine ⟨b, rest, rfl, ?_⟩
    have hmany := readMany_readNat hns
    cases hn
    simpa [fromBytes, Nat.mul_comm] using hmany

/-- R158: what a request that can be read holds. -/
theorem readRequest_fits {code : Nat} (h : readRequest q code args ≠ none) : 1 ≤ code ∧ code ≤ 21 ∧
    (code = 5 ∨ code = 6 ∨ code = 9 ∨ code = 19 ∨ code = 20 ∨ code = 21 → args = []) ∧
    (code = 4 ∨ code = 14 → args.length = 1) ∧
    (code = 8 ∨ (10 ≤ code ∧ code ≤ 13) ∨ code = 15 ∨ code = 16 ∨ code = 18 → args.length = 4) ∧
    (code = 17 → args.length = 8) ∧ (code = 1 ∨ code = 7 → args.length = 9) ∧ (code = 2 → 9 ≤ args.length) ∧
    (code = 3 → ∃ n rest, args = n :: rest ∧ rest.length = 4 * n.toNat) := by
  unfold readRequest at h
  split at h
  case h_1 => simp [readReadRows_fits h]
  case h_2 => simp [readWrite_fits h]
  case h_3 => simp [readList_fits h]
  case h_7 => simp [readSelect_fits h]
  case h_17 => simp [readReadCapture_fits h]
  case h_4 | h_8 | h_10 | h_11 | h_12 | h_13 | h_14 | h_15 | h_16 | h_18 => simp [oneArgument_fits h]
  case h_5 | h_6 | h_9 | h_19 | h_20 | h_21 => simp [noArguments_fits h]
  case h_22 => exact absurd rfl h

end

end Sys2Proof.Machine


namespace Sys2Proof.Machine

/-! ## The stages of a received frame (R149) -/

section
variable {p : Port} {bytes : List Byte} {ok : Bool} {link : LinkRow} {s : State}

theorem State.updAgent_port (p : Port) (x : PortState) (s : State) : (s.setPort p x).agent = s.agent := by cases p <;> rfl

theorem stageOne_iff : stageOne bytes ok = true ↔ 64 ≤ bytes.length ∧ bytes.length ≤ 1518 ∧ ok = true := by
  unfold stageOne
  rw [Bool.and_eq_true, Bool.and_eq_true, decide_eq_true_eq, decide_eq_true_eq, and_assoc]

/-- A frame that passes stage 1 is counted. -/
def countReceived (p : Port) (s : State) : State :=
  let x := s.port p
  s.setPort p { x with counts := { x.counts with received := (x.counts.received + 1) % mod32 } }

def countMalformed (p : Port) (s : State) : State :=
  let x := s.port p
  s.setPort p { x with counts := { x.counts with malformed := (x.counts.malformed + 1) % mod32 } }

theorem receiveFrame_malformed (h : ¬ stageOne bytes ok = true) : receiveFrame p bytes ok s = countMalformed p s := by
  unfold receiveFrame
  exact if_neg h

theorem receiveFrame_passes (h : stageOne bytes ok = true) : receiveFrame p bytes ok s =
    match s.ports.link with
    | some link => judgeFrame p bytes link (countReceived p s)
    | none => forward p bytes (countReceived p s) := by
  have hlink : (countReceived p s).ports.link = s.ports.link := State.setPort_ports_link _ _ _
  unfold receiveFrame
  dsimp only
  rw [if_pos h]
  rw [← hlink]
  rfl

theorem judgeFrame_foreign (h : frameLinkType (content bytes) ≠ link.linkType) :
    judgeFrame p bytes link s = forward p bytes s := if_pos h

theorem judgeFrame_unknown (h : frameLinkType (content bytes) = link.linkType) (hthree : stageThree (content bytes) = false) :
    judgeFrame p bytes link s =
      forward p bytes (countUnknown p (learnReportPort p (frameSource (content bytes)) link s)) := by
  unfold judgeFrame
  dsimp only
  rw [if_neg (not_not.2 h), hthree]
  rfl

theorem consumed_iff {bs : List Byte} : consumed bs link = true ↔ frameKind bs = 4 ∧ frameDestination bs = link.station := by
  unfold consumed
  rw [Bool.and_eq_true, decide_eq_true_eq, decide_eq_true_eq]

theorem judgeFrame_known (h : frameLinkType (content bytes) = link.linkType) (hthree : stageThree (content bytes) = true) :
    judgeFrame p bytes link s =
      let seen := learnReportPort p (frameSource (content bytes)) link s
      if frameKind (content bytes) = 4 ∧ frameDestination (content bytes) = link.station then consume p (content bytes) seen
      else forward p bytes (handOn p (content bytes) seen) := by
  unfold judgeFrame
  dsimp only
  rw [if_neg (not_not.2 h), hthree]
  exact (if_neg Bool.false_ne_true).trans (if_congr consumed_iff rfl rfl)

theorem learnReportPort_eq (p : Port) (source : Addr) (link : LinkRow) (s : State) : learnReportPort p source link s =
    if link.destination ≠ 0 ∧ isGroup link.destination = false ∧ source = link.destination then
      { s with ports := { s.ports with reportPort := some p } }
    else s := by
  unfold learnReportPort
  refine if_congr (and_congr Iff.rfl (and_congr ?_ Iff.rfl)) rfl rfl
  rw [Bool.not_eq_true']

theorem consume_read {bs args : List Byte} {i : Instr} (hargs : argumentsOf bs = some args)
    (hread : readRequest { port := p, address := frameSource bs, identifier := field bs 16 2 } (field bs 18 2) args = some i) :
    consume p bs s = hand i s := by
  unfold consume
  dsimp only
  rw [hargs]
  dsimp only
  unfold handRequest
  rw [hread]

/-- R160: a request that cannot be read is answered at once. -/
theorem consume_unread {bs : List Byte} (hread : ∀ args, argumentsOf bs = some args →
      readRequest { port := p, address := frameSource bs, identifier := field bs 16 2 } (field bs 18 2) args = none) :
    consume p bs s = serve { port := p, address := frameSource bs, identifier := field bs 16 2 }
      (refused (if 1 ≤ field bs 18 2 ∧ field bs 18 2 ≤ 21 then .range else .unknownRequest)) s := by
  unfold consume
  dsimp only
  cases hargs : argumentsOf bs with
  | none => rfl
  | some args =>
    dsimp only
    unfold handRequest
    rw [hread args hargs]

section
variable {q : Requester} {act : State → Served}

theorem serve_waiting (h : s.agent.restartWait ≠ none) : serve q act s = s := if_pos (Option.isSome_iff_ne_none.2 h)

theorem serve_unheard (h : s.agent.restartWait = none) (hq : permitted q.address s = false) : serve q act s =
    { s with agent := { s.agent with refusedUnheard := (s.agent.refusedUnheard + 1) % 4294967296 } } := by
  unfold serve
  rw [h, hq]
  rfl

theorem serve_heard (h : Heard q s) : serve q act s = reply q s.link (act s).1 (act s).2 := by
  unfold serve
  rw [h.1, h.2]
  rfl

end

theorem handOn_sample {bs : List Byte} (h : frameKind bs = 1) : handOn p bs s = hand (.sampleFrame (sampleOf p bs)) s :=
  if_pos h

theorem handOn_status {bs : List Byte} (h : frameKind bs = 2) : handOn p bs s = hand (.statusFrame (statusOf p bs)) s := by
  unfold handOn
  rw [h]
  rfl

theorem handOn_other {bs : List Byte} (h₁ : frameKind bs ≠ 1) (h₂ : frameKind bs ≠ 2) : handOn p bs s = s :=
  (if_neg h₁).trans (if_neg h₂)

/-- Without a Link Table in force no report is made. -/
theorem noteChange_unlinked {s t : State} (h : t.ports.link = none) : noteChange s t = t := by
  have hlink : t.link = defaultLink := by
    unfold State.link
    rw [h]
    rfl
  refine if_neg fun hnote => ?_
  have hreports := hnote.1
  unfold reporting at hreports
  rw [hlink] at hreports
  revert hreports
  decide

theorem exec_frameReceived_inReset (h : s.phase ≠ .running) :
    exec (.frameReceived p bytes ok) s = .next (receiveFrame p bytes ok s) := by
  show execFrameReceived p bytes ok s = _
  unfold execFrameReceived
  split
  · next hrun => exact absurd hrun h
  · rfl

theorem exec_frameReceived_running (h : s.phase = .running) : exec (.frameReceived p bytes ok) s =
    .next (taking (.frameReceived p bytes ok) (frameUses bytes ok) (receiveFrame p bytes ok) s) := by
  show execFrameReceived p bytes ok s = _
  unfold execFrameReceived
  rw [h]

end

/-- Settles O43. -/
theorem frameStages : Obligations.FrameStages := by
  refine ⟨fun q code args => readRequest_fits, ?_⟩
  intro p bytes ok s hs c s₀ bs count sent good got
  have hgood : stageOne bytes ok = true ↔ good := stageOne_iff
  refine ⟨fun hbad => ?malformed, fun hg hlink hphase => ?unlinked, ?judged⟩
  case malformed =>
    have hbody (u : State) : receiveFrame p bytes ok u = countMalformed p u :=
      receiveFrame_malformed fun h => hbad (hgood.1 h)
    rcases hs with hs | ⟨⟨k, hphase⟩, hlink⟩
    · have hs₀ : s₀ = s.dropMail c := if_pos hs.1
      rw [exec_of_body (exec_frameReceived_running hs.1) hs (hbody _), hs₀]
      rfl
    · have hrun : s.phase ≠ .running := fun h => by cases h.symm.trans hphase
      have hs₀ : s₀ = s := if_neg hrun
      rw [exec_frameReceived_inReset hrun, hbody, hs₀]
      refine congrArg Host.Outcome.next (noteChange_unlinked ?_).symm
      exact (State.setPort_ports_link _ _ _).trans hlink
  case unlinked =>
    have hs₀ : s₀ = s := if_neg hphase
    have hgot : got = countReceived p s := by
      rw [← hs₀]
      rfl
    rw [exec_frameReceived_inReset hphase, receiveFrame_passes (hgood.2 hg), hlink, hgot]
    rfl
  case judged =>
    intro link hg hready hlink seen kind
    have hs₀ : s₀ = s.dropMail c := if_pos hready.1
    have hgot : countReceived p (s.dropMail c) = got := by
      rw [← hs₀]
      rfl
    have hjudge {t : State} (h : judgeFrame p bytes link got = t) : exec c s = .next (noteChange s₀ t) := by
      rw [hs₀]
      refine exec_of_body (exec_frameReceived_running hready.1) hready ?_
      rw [receiveFrame_passes (hgood.2 hg)]
      have hlink : (s.dropMail c).ports.link = some link := hlink
      rw [hlink, ← h, ← hgot]
    have hseen : learnReportPort p (frameSource bs) link got = seen := learnReportPort_eq _ _ _ _
    have hgotAgent : got.agent = s.agent := by
      rw [← hgot]
      exact State.updAgent_port _ _ _
    have hgotLink : got.ports.link = some link := by
      rw [← hgot]
      exact (State.setPort_ports_link _ _ _).trans hlink
    have hparts : seen.agent = s.agent ∧ seen.ports.link = some link := by
      rw [← hseen, learnReportPort_eq]
      split <;> exact ⟨hgotAgent, hgotLink⟩
    have hseenLink : seen.link = link := by
      unfold State.link
      rw [hparts.2]
      rfl
    have hpermitted (a : Addr) : permitted a seen = permitted a s := by
      have hlink : s.link = link := by
        unfold State.link
        rw [hlink]
        rfl
      unfold permitted
      rw [hseenLink, hlink]
    refine ⟨fun htype => hjudge (judgeFrame_foreign htype), fun htype => ⟨fun hthree => ?_, fun hthree => ?_⟩⟩
    · refine hjudge ((judgeFrame_unknown htype hthree).trans ?_)
      show forward p bytes (countUnknown p (learnReportPort p (frameSource bs) link got)) = _
      rw [hseen]
      rfl
    have hknown := judgeFrame_known (p := p) (s := got) htype hthree
    dsimp only at hknown
    rw [show learnReportPort p (frameSource (content bytes)) link got = seen from hseen] at hknown
    refine ⟨?_, ?_, fun hother => ?_⟩
    · intro hkind hdest args i q hargs hread
      exact hjudge (hknown.trans ((if_pos ⟨hkind, hdest⟩).trans (consume_read hargs hread)))
    · intro hkind hdest code q hread
      have hserve := hknown.trans ((if_pos ⟨hkind, hdest⟩).trans (consume_unread hread))
      refine ⟨fun hwait => hjudge (hserve.trans (serve_waiting (hparts.1 ▸ hwait))), fun hwait hq => ?_, fun hq => ?_⟩
      · refine hjudge (hserve.trans ((serve_unheard (hparts.1 ▸ hwait) ((hpermitted _).trans hq)).trans ?_))
        rw [hparts.1]
      · refine hjudge (hserve.trans ((serve_heard ⟨(hpermitted _).trans hq.1, hparts.1 ▸ hq.2⟩).trans ?_))
        rw [hseenLink]
        rfl
    · have hforward := hknown.trans (if_neg fun h => hother.elim (absurd h.1) (absurd h.2))
      refine ⟨fun hkind => hjudge (hforward.trans ?_), fun hkind => hjudge (hforward.trans ?_),
        fun h₁ h₂ => hjudge (hforward.trans ?_)⟩
      · rw [handOn_sample hkind]
        rfl
      · rw [handOn_status hkind]
        rfl
      · rw [handOn_other h₁ h₂]
        rfl

end Sys2Proof.Machine


namespace Sys2Proof.Machine

/-! ## Requests that the agent answers (chapter 10) -/

section
variable {c : Instr} {q : Requester} {act : State → Served} {s : State}

theorem exec_request (h : requesterOf c = some q) : ∃ act, exec c s = .next (requesting c q act s) := by
  cases c <;> cases h <;> exact ⟨_, rfl⟩

/-- R159, R164: a request that has no effect, and one that is counted alone. -/
theorem requesting_waiting (hs : Ready s) (h : s.agent.restartWait ≠ none) : requesting c q act s = s.dropMail c := by
  unfold requesting
  rw [taking_ready hs, serve_waiting (s := s.dropMail c) h, noteChange_self]

theorem requesting_unheard (hs : Ready s) (h : s.agent.restartWait = none) (hq : permitted q.address s = false) :
    requesting c q act s = noteChange (s.dropMail c)
      { s.dropMail c with agent := { s.agent with refusedUnheard := (s.agent.refusedUnheard + 1) % 4294967296 } } := by
  unfold requesting
  rw [taking_ready hs, serve_unheard (s := s.dropMail c) h hq]
  rfl

/-- A request that the agent answers, from what its act gives. -/
theorem exec_answered (hexec : exec c s = .next (requesting c q act s)) (hs : Ready s) (hq : Heard q s) {a : Answer} {t : State}
    (hact : act (s.dropMail c) = (a, t)) : exec c s = .next (noteChange (s.dropMail c) (reply q s.link a t)) := by
  rw [hexec, requesting_heard hs hq, hact]

end

/-! ## The event list as it is read (R170) -/

section
variable {n : Nat} {s : State}

theorem newestSequence_eq (s : State) : newestSequence s = (s.events.next + 4294967295) % 4294967296 :=
  congrArg (· % mod32) (Nat.add_sub_assoc (by decide : 1 ≤ mod32) s.events.next)

theorem held_iff : held n s = true ↔ ∃ e ∈ s.events.entries, e.sequence = n := by
  simp [held]

theorem afterNewest_iff : afterNewest n s = true ↔
    0 < (n + 4294967296 - newestSequence s) % 4294967296 ∧ (n + 4294967296 - newestSequence s) % 4294967296 < 2147483648 := by
  unfold afterNewest
  rw [Bool.and_eq_true, decide_eq_true_eq, decide_eq_true_eq]

theorem entriesFrom_append {before after : List EventEntry} {e : EventEntry} (he : e.sequence = n)
    (hbefore : ∀ x ∈ before, x.sequence ≠ n) : entriesFrom n (before ++ e :: after) = e :: after := by
  unfold entriesFrom
  rw [List.dropWhile_append_of_pos fun x hx => decide_eq_true (hbefore x hx)]
  exact List.dropWhile_cons_of_neg (by simp [he])

theorem eventsRead_held {before after : List EventEntry} {e : EventEntry} (hlist : s.events.entries = before ++ e :: after)
    (he : e.sequence = n) (hbefore : ∀ x ∈ before, x.sequence ≠ n) : eventsRead n s = (e :: after).take 64 := by
  unfold eventsRead
  rw [if_pos (held_iff.2 ⟨e, by rw [hlist]; exact List.mem_append_right _ List.mem_cons_self, he⟩), hlist,
    entriesFrom_append he hbefore]
  rfl

theorem eventsRead_other (h : ∀ x ∈ s.events.entries, x.sequence ≠ n) :
    eventsRead n s = (if afterNewest n s then [] else s.events.entries).take 64 := by
  unfold eventsRead
  rw [if_neg fun hheld => (held_iff.1 hheld).elim fun e he => h e he.1 he.2]
  rfl

end

/-! ## The items of a reply (R158, R163) -/

section
variable {s : State}

theorem nameOr_eq {α : Type} (f : α → Nat) (x : Option α) : nameOr f x = (x.map f).getD 255 := by
  cases x <;> rfl

theorem inputKindNumber_eq (m : Fin 38) : inputKindNumber (inputKind m) = if m.val < 3 then 1 else 2 := by
  unfold inputKind
  split <;> rfl

theorem remaining_eq (d : DutyLive) : d.remaining = (d.discharge.map fun ms => max 1 ((ms + 999) / 1000)).getD 0 := by
  unfold DutyLive.remaining
  cases d.discharge <;> rfl

theorem decayRemaining_eq (d : DutyLive) : decayRemaining d = (d.decay.map fun ms => (ms + 999) / 1000).getD 0 := by
  unfold decayRemaining
  cases d.decay <;> rfl

theorem entryStatus_eq (e : QueueEntry) : entryStatus e = match e.origin with
    | .manual x => [.name (cmdKindNumber e.kind), .name 1, .optNum (some (Int.ofNat x.val)), .name 255, .num e.arrival]
    | .auto r => [.name (cmdKindNumber e.kind), .name 2, .optNum none, .name (reasonNumber r), .num e.arrival] := by
  unfold entryStatus
  cases e.origin <;> rfl

theorem holderStatus_eq (h : Option Holder) : holderStatus h = match h with
    | some h => [.name (if h.reason.isSome = true then 2 else 1), .name (cmdKindNumber h.kind),
        .optNum (some (Int.ofNat h.target.val)), .name ((h.reason.map reasonNumber).getD 255)]
    | none => [.name 255, .name 255, .optNum none, .name 255] := by
  cases h with
  | none => rfl
  | some h =>
    unfold holderStatus
    dsimp only
    rw [nameOr_eq]
    rfl

theorem firstErrorItems_eq (x : Option (RowRef × ErrorClass)) : firstErrorItems x = match x with
    | some (r, .corrected) => [.name (tableNumber r), .optNum (some (Int.ofNat (rowNumber r))), .name 1]
    | some (r, .damaged) => [.name (tableNumber r), .optNum (some (Int.ofNat (rowNumber r))), .name 2]
    | none => [.name 255, .optNum none, .name 255] := by
  rcases x with _ | ⟨r, c⟩
  · rfl
  · cases c <;> rfl

end

/-! ## The acts of the reading requests (R163, R170, R173) -/

section
variable {s : State}

theorem actReadRows_ok {t : TableId} {first n : Nat} {rows : List RowRef} (hs : Intact s) (h : addressed t first n = some rows) :
    actReadRows (some t) first n s = (Answer.okData (rows.flatMap (rowItems s)), s) := by
  unfold actReadRows
  rw [Option.bind_some, h]
  dsimp only
  rw [readRows_intact hs]

theorem actReadRows_range {t : Option TableId} {first n : Nat} (h : (t.bind fun t => addressed t first n) = none) :
    actReadRows t first n s = (Answer.plain .range, s) := by
  unfold actReadRows
  rw [h]
  rfl

/-- R160: the inputs named are those of the numbers. -/
theorem mapM_input_eq (ms : List (Fin 38)) :
    (ms.map Fin.val).mapM (fun n => if h : n < 38 then some (⟨n, h⟩ : Fin 38) else none) = some ms := by
  induction ms with
  | nil => rfl
  | cons m ms ih => simp [ih]

theorem namedInputs_eq {ms : List (Fin 38)} (h₁ : 1 ≤ ms.length) (h₈ : ms.length ≤ 8) :
    namedInputs (ms.map Fin.val) = some ms := by
  unfold namedInputs
  rw [if_pos (by rw [List.length_map]; exact ⟨h₁, h₈⟩)]
  exact mapM_input_eq ms

theorem mapM_input_none {xs : List Nat} (h : ∃ x ∈ xs, 38 ≤ x) :
    xs.mapM (fun n => if h : n < 38 then some (⟨n, h⟩ : Fin 38) else none) = none := by
  induction xs with
  | nil => simp at h
  | cons x xs ih =>
    obtain ⟨y, hy, hout⟩ := h
    rw [List.mapM_cons]
    rcases List.mem_cons.1 hy with rfl | hy
    · rw [dif_neg (Nat.not_lt.2 hout)]
      rfl
    · rw [ih ⟨y, hy, hout⟩]
      split <;> rfl

theorem namedInputs_none {xs : List Nat} (h : xs = [] ∨ 8 < xs.length ∨ ∃ x ∈ xs, 38 ≤ x) : namedInputs xs = none := by
  unfold namedInputs
  rcases h with rfl | h | h
  · rfl
  · exact if_neg fun hlen => Nat.not_le.2 h hlen.2
  · rw [mapM_input_none h, ite_self]

theorem actReadResults_ok {xs : List Nat} {ms : List (Fin 38)} (h : namedInputs xs = some ms) : actReadResults xs s =
    ({ Answer.okData (ms.flatMap fun m =>
        recordItems (if s.engine.hold = none then s.engine.results[m] else s.engine.holdCopy[m])) with
      fromHold := s.engine.hold.isSome }, s) := by
  unfold actReadResults
  rw [h]
  dsimp only
  cases s.engine.hold <;> rfl

theorem actReadResults_range {xs : List Nat} (h : namedInputs xs = none) :
    actReadResults xs s = (Answer.plain .range, s) := by
  unfold actReadResults
  rw [h]
  rfl

theorem actReadCapture_range {b : Fin 2} {offset : Nat} (h : 1023 < offset) :
    actReadCapture (some b) offset s = (Answer.plain .range, s) := if_pos h

theorem actReadCapture_ready {b : Fin 2} {offset : Nat} (h : offset ≤ 1023) (hready : s.events.buffers[b].status = .ready) :
    actReadCapture (some b) offset s = (Answer.okData (triggerItems s.events.buffers[b].trigger ++
      positionItems s.events.buffers[b] offset), s) := (if_neg (Nat.not_lt.2 h)).trans (if_pos hready)

theorem actReadCapture_other {b : Fin 2} {offset : Nat} (h : offset ≤ 1023) (hready : s.events.buffers[b].status ≠ .ready) :
    actReadCapture (some b) offset s = (Answer.plain .notPosition, s) := (if_neg (Nat.not_lt.2 h)).trans (if_neg hready)

end

end Sys2Proof.Machine


namespace Sys2Proof.Machine

/-- Settles O45. -/
theorem requestsAndReads : Obligations.RequestsAndReads := by
  refine ⟨?unheard, fun q link a s => rfl, ?events, ?items, fun e => rfl, ?trigger, ?capture, rfl, rfl, rfl, rfl, rfl, rfl, rfl, rfl,
    rfl, rfl, rfl, ?answers⟩
  case unheard =>
    intro c q s hc hs
    obtain ⟨act, hexec⟩ := exec_request (s := s) hc
    exact ⟨fun h => hexec.trans (congrArg _ (requesting_waiting hs h)),
      fun h hq => hexec.trans (congrArg _ (requesting_unheard hs h hq))⟩
  case events =>
    intro n s es newest ahead
    have hnewest : newestSequence s = newest := newestSequence_eq s
    have hafter : afterNewest n s = true ↔ 0 < ahead ∧ ahead < 2147483648 := by
      rw [afterNewest_iff, hnewest]
    refine ⟨hnewest, fun before e after hlist he hbefore => eventsRead_held hlist he hbefore, fun hother => ⟨fun h₀ h₁ => ?_, fun h => ?_⟩⟩
    · rw [eventsRead_other hother, if_pos (hafter.2 ⟨h₀, h₁⟩)]
      rfl
    · have hnot : ¬ afterNewest n s = true := fun hread => by
        obtain ⟨h₀, h₁⟩ := hafter.1 hread
        exact h.elim (Nat.pos_iff_ne_zero.1 h₀) (Nat.not_le.2 h₁)
      rw [eventsRead_other hother, if_neg hnot]
  case trigger =>
    intro kind step stamp
    show [_, Item.name (nameOr Fin.val step), _] = _
    rw [nameOr_eq]
    rfl
  case capture => exact fun b offset => rfl
  case items =>
    intro s num opt flag yes list up t m mark
    refine ⟨fun i => rfl, fun k => ?_, fun i => rfl, fun i => rfl, fun c => rfl, rfl, fun u => rfl, rfl, ?_, ?_, ?_, ?_, rfl,
      fun r => rfl⟩
    · show [_, Item.name (inputKindNumber (inputKind k)), _, _] ++ _ = _
      rw [inputKindNumber_eq]
      rfl
    · show _ ++ _ ++ firstErrorItems _ = _
      rw [firstErrorItems_eq]
      rfl
    · refine congrArg (· ++ list _ ++ list _) (congrArg (List.flatMap · allSteps) (funext fun i => ?_))
      simp only [stepStatus, nameOr_eq, remaining_eq, decayRemaining_eq]
      rfl
    · refine congrArg (List.flatMap · allUnits) (funext fun u => ?_)
      simp only [unitStatus, nameOr_eq]
      rfl
    · show _ ++ List.flatMap entryStatus _ ++ holderStatus _ ++ selectionStatus _ _ ++ nullStatus _ = _
      rw [funext entryStatus_eq, holderStatus_eq]
      rfl
  case answers =>
    intro q s hs hq answers
    have hanswers {c : Instr} {act : State → Served} (hexec : exec c s = .next (requesting c q act s)) {a : Answer}
        (hact : act (s.dropMail c) = (a, s.dropMail c)) : answers c a := exec_answered hexec hs hq hact
    have hintact {c : Instr} : Intact (s.dropMail c) := hs.2.of_memory rfl
    exact ⟨fun t first n rows h => hanswers rfl (actReadRows_ok hintact h),
      fun t first n h => hanswers rfl (actReadRows_range (t := some t) h),
      fun first n => hanswers rfl (actReadRows_range (t := none) rfl),
      fun ms h₁ h₈ => hanswers rfl (actReadResults_ok (namedInputs_eq h₁ h₈)),
      fun xs h => hanswers rfl (actReadResults_range (namedInputs_none h)), fun x => hanswers (act := actReadStatus (some x)) rfl rfl, hanswers (act := actReadStatus none) rfl rfl,
      fun n => hanswers (act := actReadEvents n) rfl rfl,
      fun b offset => ⟨fun h => hanswers rfl (actReadCapture_range h),
        fun h hready => hanswers rfl (actReadCapture_ready (s := s.dropMail _) h hready),
        fun h hready => hanswers rfl (actReadCapture_other (s := s.dropMail _) h hready)⟩,
      fun offset => hanswers (act := actReadCapture none offset) rfl rfl⟩

end Sys2Proof.Machine


namespace Sys2Proof.Machine

/-! ## Select-before-operate (R129, R130) -/

section
variable {q : Requester} {t : Fin 9} {k : CmdKind} {token : Nat} {s : State}

theorem actSelect_range {target : Nat} {action : Option CmdKind} (h : 9 ≤ target ∨ action = none) :
    actSelect q target action token s = (Answer.plain .range, s) := by
  have hnone : targetOfNumber target = none ∨ action = none := h.imp_left fun h => dif_neg (Nat.not_lt.2 h)
  unfold actSelect
  split
  · next ht =>
    rcases hnone with h | h
    · cases ht.symm.trans h
    · cases h
  · rfl

theorem actSelect_target (q : Requester) (t : Fin 9) (k : CmdKind) (token : Nat) (s : State) :
    actSelect q t.val (some k) token s = selectTarget q t k token s := by
  have ht : targetOfNumber t.val = some t := dif_pos t.isLt
  unfold actSelect
  rw [ht]

theorem selectTarget_busy (h : s.switching.selection ≠ none) :
    selectTarget q t k token s = (Answer.plain .selectBusy, s) := if_pos (Option.isSome_iff_ne_none.2 h)

theorem selectTarget_judged (hs : Intact s) (h : s.switching.selection = none) : selectTarget q t k token s =
    match selectCheck t k s with
    | some c => (Answer.condition c, s)
    | none =>
      accepted (s.updSwitching fun w =>
        { w with selection := some { target := t, action := k, token := token % mod16,
                                     expiry := s.timebase + selectTime s, requester := q.address } }) := by
  unfold selectTarget
  rw [h]
  dsimp only
  rw [readUsed_intact hs]
  rfl

/-- R129: while the Yard Table is DAMAGED any close of a step fails SETTINGS; else the check is that of a grant. -/
theorem selectCheck_eq (t : Fin 9) (k : CmdKind) (s : State) : selectCheck t k s =
    if s.yardDamaged = true ∧ t ≠ 8 ∧ k = .close then some .settings else manualCheck t k s := by
  have hstep : (unitStep t).isSome = true ↔ t ≠ 8 := by
    rw [Option.isSome_iff_ne_none, Ne, unitStep_eq_none]
  unfold selectCheck
  refine if_congr ?_ rfl rfl
  rw [Bool.and_eq_true, Bool.and_eq_true, hstep, decide_eq_true_eq, and_assoc]

theorem selectTarget_refused (hs : Intact s) (h : s.switching.selection = none) {c : Condition}
    (hc : selectCheck t k s = some c) : selectTarget q t k token s = (Answer.condition c, s) := by
  rw [selectTarget_judged hs h, hc]

theorem selectTarget_made (hs : Intact s) (h : s.switching.selection = none) (hc : selectCheck t k s = none) :
    selectTarget q t k token s = accepted (s.updSwitching fun w =>
      { w with selection := some { target := t, action := k, token := token % mod16,
                                   expiry := s.timebase + selectTime s, requester := q.address } }) := by
  rw [selectTarget_judged hs h, hc]

theorem actOperate_none (h : s.switching.selection = none) : actOperate q token s = (Answer.plain .noSelection, s) := by
  unfold actOperate
  rw [h]
  rfl

theorem actCancel_none (h : s.switching.selection = none) : actCancel s = (Answer.plain .noSelection, s) := by
  unfold actCancel
  rw [h]
  rfl

theorem actCancel_some (hs : Intact s) {x : Selection} (h : s.switching.selection = some x) :
    actCancel s = (Answer.plain .ok, dropSelection s) := by
  unfold actCancel
  rw [h]
  dsimp only
  rw [readUsed_intact hs]
  rfl

/-- R130: an OPERATE with a selection, its checks in order. -/
theorem actOperate_some (hs : Intact s) {x : Selection} (h : s.switching.selection = some x) : actOperate q token s =
    if x.requester ≠ q.address ∨ x.token ≠ token % mod16 then (Answer.plain .token, s)
    else if ¬ s.switching.queue.length < 4 ∧ ¬ ∃ e ∈ s.switching.queue, e.isAuto = true then (Answer.plain .queueFull, s)
    else (Answer.plain .queued, operateSelection x s) := by
  have hfull : (!queueRoom s && !hasAuto s) = true ↔
      ¬ s.switching.queue.length < 4 ∧ ¬ ∃ e ∈ s.switching.queue, e.isAuto = true := by
    rw [Bool.and_eq_true, Bool.not_eq_true', Bool.not_eq_true', ← Bool.not_eq_true, ← Bool.not_eq_true, queueRoom_iff,
      hasAuto, List.any_eq_true]
  unfold actOperate
  rw [h]
  dsimp only
  rw [readUsed_intact hs]
  exact if_congr Iff.rfl rfl (if_congr hfull rfl rfl)

theorem actOperate_token (hs : Intact s) {x : Selection} (h : s.switching.selection = some x)
    (hother : x.requester ≠ q.address ∨ x.token ≠ token % mod16) : actOperate q token s = (Answer.plain .token, s) :=
  (actOperate_some hs h).trans (if_pos hother)

theorem actOperate_full (hs : Intact s) {x : Selection} (h : s.switching.selection = some x)
    (hq : x.requester = q.address) (ht : x.token = token % mod16) (hfull : 4 ≤ s.switching.queue.length)
    (hauto : ¬ ∃ e ∈ s.switching.queue, e.isAuto = true) : actOperate q token s = (Answer.plain .queueFull, s) :=
  (actOperate_some hs h).trans ((if_neg (not_or.2 ⟨not_not.2 hq, not_not.2 ht⟩)).trans
    (if_pos ⟨Nat.not_lt.2 hfull, hauto⟩))

theorem actOperate_queued (hs : Intact s) {x : Selection} (h : s.switching.selection = some x)
    (hq : x.requester = q.address) (ht : x.token = token % mod16)
    (hroom : s.switching.queue.length < 4 ∨ ∃ e ∈ s.switching.queue, e.isAuto = true) :
    actOperate q token s = (Answer.plain .queued, operateSelection x s) :=
  (actOperate_some hs h).trans ((if_neg (not_or.2 ⟨not_not.2 hq, not_not.2 ht⟩)).trans
    (if_neg fun h => hroom.elim h.1 h.2))

theorem makeRoom_self (h : s.switching.queue.length < 4) : makeRoom s = s := if_pos (queueRoom_iff.2 h)

theorem makeRoom_displaces (h : 4 ≤ s.switching.queue.length) :
    makeRoom s = startSettle (withdrawAuto .queueFull s) := if_neg (mt queueRoom_iff.1 (Nat.not_lt.2 h))

end

/-- Settles O46. -/
theorem selectBeforeOperate : Obligations.SelectBeforeOperate := by
  intro q s hs hq w ends turned
  have hintact {c : Instr} : Intact (s.dropMail c) := hs.2.of_memory rfl
  have hends (c : Instr) (act : State → Served) (hexec : exec c s = .next (requesting c q act s)) {a : Answer} {t : State}
      (hact : act (s.dropMail c) = (a, t)) : ends c a t := exec_answered hexec hs hq hact
  refine ⟨fun target action token h => hends _ _ rfl (actSelect_range h), ?select,
    fun token h => hends _ _ rfl (actOperate_none (s := s.dropMail _) h),
    fun h => hends _ _ rfl (actCancel_none (s := s.dropMail _) h), ?selected⟩
  case select =>
    intro t k token c time made
    have hselect {a : Answer} {u : State} (h : selectTarget q t k token (s.dropMail c) = (a, u)) : ends c a u :=
      hends c (actSelect q t.val (some k) token) rfl ((actSelect_target q t k token _).trans h)
    have hcheck := selectCheck_eq t k (s.dropMail c)
    refine ⟨fun h => hselect (selectTarget_busy (s := s.dropMail _) h), ?_⟩
    intro h settings
    refine ⟨fun hset => hselect (selectTarget_refused hintact h (hcheck.trans (if_pos hset))),
      fun x hset hx => hselect (selectTarget_refused hintact h (hcheck.trans ((if_neg hset).trans hx))),
      fun hset hx => hselect (selectTarget_made hintact h (hcheck.trans ((if_neg hset).trans hx)))⟩
  case selected =>
    intro x hx
    refine ⟨hends _ _ rfl (actCancel_some hintact hx), ?_⟩
    intro token c auto entry
    have hoperate {a : Answer} {u : State} (h : actOperate q token (s.dropMail c) = (a, u)) : ends c a u :=
      hends c (actOperate q token) rfl h
    refine ⟨fun h => hoperate (actOperate_token hintact hx h), fun hreq htok => ⟨fun hfull hauto => ?_, fun hroom => ?_,
      fun hfull hauto => ?_⟩⟩
    · exact hoperate (actOperate_full hintact hx hreq htok hfull hauto)
    · refine hoperate ((actOperate_queued hintact hx hreq htok (.inl hroom)).trans ?_)
      unfold operateSelection
      rw [makeRoom_self (s := s.dropMail c) hroom]
      rfl
    · refine hoperate ((actOperate_queued hintact hx hreq htok (.inr hauto)).trans ?_)
      unfold operateSelection
      rw [makeRoom_displaces (s := s.dropMail c) hfull]

end Sys2Proof.Machine


namespace Sys2Proof.Machine

/-! ## The requests about a step (R67, R107 to R109) -/

section
variable {i : Fin 8} {n : Nat} {s : State}

theorem stepOfNumber_val (i : Fin 8) : stepOfNumber i.val = some i := dif_pos i.isLt

theorem stepOfNumber_none (h : 8 ≤ n) : stepOfNumber n = none := dif_neg (Nat.not_lt.2 h)

theorem actWithdraw_range (h : 8 ≤ n) : actWithdraw n s = (Answer.plain .range, s) := by
  unfold actWithdraw
  rw [stepOfNumber_none h]
  rfl

theorem actRestore_range (h : 8 ≤ n) : actRestore n s = (Answer.plain .range, s) := by
  unfold actRestore
  rw [stepOfNumber_none h]
  rfl

theorem actResetLockout_range (h : 8 ≤ n) : actResetLockout n s = (Answer.plain .range, s) := by
  unfold actResetLockout
  rw [stepOfNumber_none h]
  rfl

theorem actNull_range (hlock : s.keylock = false) (h : 8 ≤ n) : actNull n s = (Answer.plain .range, s) := by
  unfold actNull
  rw [hlock, stepOfNumber_none h]
  rfl

theorem actNull_locked (hlock : s.keylock = true) : actNull n s = (Answer.plain .locked, s) := if_pos hlock

theorem withdrawable_iff {x : StepState} :
    withdrawable x = true ↔ x = .unresolved ∨ x = .cooling ∨ x = .ready ∨ x = .lockout := decide_eq_true_iff

theorem actWithdraw_step (i : Fin 8) (s : State) : actWithdraw i.val s =
    if s.stepState i = .unresolved ∨ s.stepState i = .cooling ∨ s.stepState i = .ready ∨ s.stepState i = .lockout then
      (Answer.plain .ok, moveStep i .withdrawn .withdraw s)
    else (Answer.plain .stepBusy, s) := by
  unfold actWithdraw
  rw [stepOfNumber_val]
  exact if_congr withdrawable_iff rfl rfl

theorem rowUsable_iff : rowUsable i s = true ↔ (s.stepRow i).inUse = true ∧ s.stepDamaged i = false := by
  unfold rowUsable
  rw [Bool.and_eq_true, Bool.not_eq_true']

theorem actRestore_step (hs : Intact s) (i : Fin 8) : actRestore i.val s = restoreStep i s := by
  unfold actRestore
  rw [stepOfNumber_val]
  dsimp only
  rw [readRows_intact hs]

theorem actResetLockout_step (hs : Intact s) (i : Fin 8) : actResetLockout i.val s = resetStep i s := by
  unfold actResetLockout
  rw [stepOfNumber_val]
  dsimp only
  rw [readRows_intact hs]

theorem actNull_step (hs : Intact s) (hlock : s.keylock = false) (i : Fin 8) : actNull i.val s = nullStep i s := by
  unfold actNull
  rw [hlock, stepOfNumber_val]
  dsimp only
  rw [readRows_intact hs]
  rfl

theorem restoreStep_unusable (h : ¬ rowUsable i s = true) : restoreStep i s = (Answer.plain .range, s) :=
  if_pos (by rw [Bool.not_eq_true', ← Bool.not_eq_true]; exact h)

theorem restoreStep_usable (h : rowUsable i s = true) : restoreStep i s =
    if s.stepState i = .withdrawn then (Answer.plain .ok, moveStep i .unresolved .restore s)
    else (Answer.plain .stepBusy, s) := by
  unfold restoreStep
  rw [h]
  rfl

theorem resetStep_unusable (h : ¬ rowUsable i s = true) : resetStep i s = (Answer.plain .range, s) :=
  if_pos (by rw [Bool.not_eq_true', ← Bool.not_eq_true]; exact h)

theorem resetStep_usable (h : rowUsable i s = true) : resetStep i s =
    if s.supervisor.steps[i].state ≠ .lockout then (Answer.plain .stepBusy, s)
    else if s.supervisor.steps[i].unitSupervision = .alive ∧ s.supervisor.steps[i].lastPosition = some .opened then
      (Answer.plain .ok, restStep i .lockoutReset s)
    else (Answer.plain .notPosition, s) := by
  unfold resetStep
  dsimp only
  rw [h]
  rfl

theorem nullStep_range (h : ¬ rowUsable i s = true ∨ (s.stepRow i).neutralPresent = false) :
    nullStep i s = (Answer.plain .range, s) := by
  refine if_pos ?_
  rw [Bool.or_eq_true, Bool.not_eq_true', Bool.not_eq_true', ← Bool.not_eq_true]
  exact h

theorem nullStep_judged (h : rowUsable i s = true) (hn : (s.stepRow i).neutralPresent = true) : nullStep i s =
    if s.unbalance.context ≠ none then (Answer.plain .busy, s)
    else if s.stepState i ≠ .inService ∨ s.engine.results[stepInput i 3].quality ≠ .good then (Answer.plain .notPosition, s)
    else (Answer.plain .ok, { s with unbalance := { s.unbalance with
      context := some { step := i, counted := 0, sumR := 0, sumI := 0 } } }) := by
  unfold nullStep
  rw [h, hn]
  refine (if_neg Bool.false_ne_true).trans (if_congr Option.isSome_iff_ne_none rfl ?_)
  by_cases hst : s.stepState i = .inService
  · rw [if_neg (not_not.2 hst)]
    exact if_congr (or_iff_right (not_not.2 hst)).symm rfl rfl
  · rw [if_pos hst, if_pos (.inl hst)]
    rfl

end

/-- Settles O47. -/
theorem stepRequests : Obligations.StepRequests := by
  intro q s hs hq ends turned
  have hintact {c : Instr} : Intact (s.dropMail c) := hs.2.of_memory rfl
  have hends (c : Instr) (act : State → Served) (hexec : exec c s = .next (requesting c q act s)) {a : Code} {t : State}
      (hact : act (s.dropMail c) = (Answer.plain a, t)) : ends c a t := exec_answered hexec hs hq hact
  refine ⟨fun n h => ⟨hends _ _ rfl (actWithdraw_range h), hends _ _ rfl (actRestore_range h),
    hends _ _ rfl (actResetLockout_range h), fun hlock => hends _ _ rfl (actNull_range (s := s.dropMail _) hlock h)⟩,
    fun n hlock => hends _ _ rfl (actNull_locked (s := s.dropMail _) hlock), ?_⟩
  intro i x usable rests record
  have husable (c : Instr) : rowUsable i (s.dropMail c) = true ↔ usable := rowUsable_iff (s := s.dropMail c)
  have hwithdraw := actWithdraw_step i (s.dropMail (.withdraw q i.val))
  have hrestore := actRestore_step (hintact (c := .restore q i.val)) i
  have hreset := actResetLockout_step (hintact (c := .resetLockout q i.val)) i
  refine ⟨fun h => hends _ _ rfl (hwithdraw.trans (if_pos h)), fun h => hends _ _ rfl (hwithdraw.trans (if_neg h)),
    fun h => ⟨hends _ _ rfl (hrestore.trans (restoreStep_unusable (mt (husable _).1 h))),
      hends _ _ rfl (hreset.trans (resetStep_unusable (mt (husable _).1 h)))⟩, fun h => ?usable, fun hlock => ?null⟩
  case usable =>
    have hrestore := hrestore.trans (restoreStep_usable ((husable _).2 h))
    have hreset := hreset.trans (resetStep_usable ((husable _).2 h))
    refine ⟨fun hst => hends _ _ rfl (hrestore.trans (if_pos hst)), fun hst => hends _ _ rfl (hrestore.trans (if_neg hst)),
      fun hst => hends _ _ rfl (hreset.trans (if_pos hst)), fun hst halive hopen => ?_, fun hst hbad => ?_⟩
    · refine hends _ _ rfl (hreset.trans ((if_neg (not_not.2 hst)).trans ((if_pos ⟨halive, hopen⟩).trans ?_)))
      rfl
    · refine hends _ _ rfl (hreset.trans ((if_neg (not_not.2 hst)).trans (if_neg ?_)))
      rintro ⟨halive, hopen⟩
      rcases hbad with hsilent | hpos
      · cases hsilent.symm.trans halive
      · exact hpos hopen
  case null =>
    have hnull := actNull_step (hintact (c := .null q i.val)) (s := s.dropMail _) hlock i
    refine ⟨fun h => hends _ _ rfl (hnull.trans (nullStep_range (h.imp_left (mt (husable _).1)))), fun h hn => ?_⟩
    have hnull := hnull.trans (nullStep_judged ((husable _).2 h) hn)
    refine ⟨fun hctx => hends _ _ rfl (hnull.trans (if_pos hctx)), fun hctx => ⟨fun hbad => ?_, fun hst hgood => ?_⟩⟩
    · exact hends _ _ rfl (hnull.trans ((if_neg (not_not.2 hctx)).trans (if_pos hbad)))
    · exact hends _ _ rfl (hnull.trans ((if_neg (not_not.2 hctx)).trans
        (if_neg (not_or.2 ⟨not_not.2 hst, not_not.2 hgood⟩))))

end Sys2Proof.Machine


namespace Sys2Proof.Machine

/-! ## The other requests (R132, R167, R170, R173) -/

section
variable {n : Nat} {s : State}

theorem forceManual_self (h : s.switching.control = .manual) : forceManual s = s := if_pos h

theorem forceManual_forces (h : s.switching.control ≠ .manual) : forceManual s = withdrawAuto .mode
    ((stopBandTimers s).updSwitching fun w => { w with control := .manual, settle := none }) := if_neg h

theorem setMode_auto (hs : Intact s) : setMode .auto s =
    if s.yardDamaged then (Answer.condition .settings, s)
    else if s.switching.control = .manual then accepted (s.updSwitching fun w => { w with control := .autoWatch })
    else accepted s := by
  unfold setMode
  dsimp only
  rw [readRows_intact hs]

theorem acknowledge_held {before after : List EventEntry} {e : EventEntry}
    (hlist : s.events.entries = before ++ e :: after) (hbefore : ∀ x ∈ before, x.sequence ≠ e.sequence) :
    acknowledge e.sequence s = { s with events := { s.events with entries := after, lost := false } } := by
  have hheld : held e.sequence s = true :=
    held_iff.2 ⟨e, by rw [hlist]; exact List.mem_append_right _ List.mem_cons_self, rfl⟩
  have hrest : (entriesFrom e.sequence s.events.entries).drop 1 = after := by
    rw [hlist, entriesFrom_append rfl hbefore]
    rfl
  unfold acknowledge
  rw [if_pos hheld, hrest]

theorem acknowledge_other (h : ∀ x ∈ s.events.entries, x.sequence ≠ n) :
    acknowledge n s = { s with events := { s.events with lost := false } } := by
  unfold acknowledge
  rw [if_neg fun hheld => (held_iff.1 hheld).elim fun e he => h e he.1 he.2]

theorem actAckEvents_held (h : held n s = true) : actAckEvents n s = (Answer.plain .ok, acknowledge n s) := by
  unfold actAckEvents
  rw [h]
  rfl

theorem actAckEvents_other (h : ∀ x ∈ s.events.entries, x.sequence ≠ n) : actAckEvents n s =
    if afterNewest n s = true then (Answer.plain .range, s) else (Answer.plain .ok, acknowledge n s) := by
  have hheld : held n s = false := Bool.eq_false_iff.2 fun hheld => (held_iff.1 hheld).elim fun e he => h e he.1 he.2
  unfold actAckEvents
  rw [hheld, Bool.not_false, Bool.true_and]
  rfl

theorem actFreeCapture_other {b : Fin 2} (h : s.events.buffers[b].status ≠ .ready) :
    actFreeCapture (some b) s = (Answer.plain .notPosition, s) := if_neg h

theorem actFreeCapture_ready {b : Fin 2} (h : s.events.buffers[b].status = .ready) :
    actFreeCapture (some b) s = (Answer.plain .ok, freeCapture b s) := if_pos h

theorem freeCapture_eq (b : Fin 2) (s : State) : freeCapture b s = s.updBuffer b fun _ =>
    if s.events.buffers[otherBuffer b].status = .armed ∨ s.events.buffers[otherBuffer b].status = .recording then
      CaptureBuffer.free else CaptureBuffer.armed := by
  unfold freeCapture
  dsimp only
  split <;> rfl

theorem actStore_locked (h : s.keylock = true) : actStore s = (Answer.plain .locked, s) := if_pos h

theorem actStore_unlocked (h : s.keylock = false) : actStore s =
    if s.memory.storing then (Answer.plain .busy, s) else (Answer.plain .ok, beginStore s) := by
  unfold actStore
  rw [h]
  rfl

end

/-- Settles O48. -/
theorem otherRequests : Obligations.OtherRequests := by
  intro q s hs hq w ends turned ok
  have hintact {c : Instr} : Intact (s.dropMail c) := hs.2.of_memory rfl
  have hends (c : Instr) (act : State → Served) (hexec : exec c s = .next (requesting c q act s)) {a : Answer} {t : State}
      (hact : act (s.dropMail c) = (a, t)) : ends c a t := exec_answered hexec hs hq hact
  have hauto := setMode_auto (hintact (c := .setMode q (some .auto)))
  refine ⟨hends _ actHold rfl rfl, hends _ actRelease rfl rfl, hends _ (actSetMode none) rfl rfl, fun h => ?_, fun h => ?_,
    fun h => hends _ _ rfl (hauto.trans (if_pos h)), fun h => ⟨fun hmanual => ?_, fun hmanual => ?_⟩, ?_, ?_,
    hends _ (actFreeCapture none) rfl rfl, ?_, fun h => hends _ _ rfl (actStore_locked (s := s.dropMail _) h),
    fun hlock => ⟨fun h => ?_, fun h => ?_⟩, hends _ actClearTableError rfl rfl, hends _ actRestart rfl rfl⟩
  · exact hends _ (actSetMode (some .manual)) rfl (congrArg accepted (forceManual_self (s := s.dropMail _) h))
  · exact hends _ (actSetMode (some .manual)) rfl (congrArg accepted (forceManual_forces (s := s.dropMail _) h))
  · exact hends _ _ rfl (hauto.trans ((if_neg (ne_true_of_eq_false h)).trans (if_pos hmanual)))
  · exact hends _ _ rfl (hauto.trans ((if_neg (ne_true_of_eq_false h)).trans (if_neg hmanual)))
  · intro before e after hlist hbefore
    have hheld : held e.sequence (s.dropMail (.ackEvents q e.sequence)) = true :=
      held_iff.2 ⟨e, by rw [show (s.dropMail _).events.entries = _ from hlist]; exact List.mem_append_right _ List.mem_cons_self, rfl⟩
    refine hends _ _ rfl ((actAckEvents_held hheld).trans ?_)
    rw [acknowledge_held (s := s.dropMail _) hlist hbefore]
    rfl
  · intro n hother
    have hack := actAckEvents_other (s := s.dropMail (.ackEvents q n)) hother
    refine ⟨fun h => hends _ _ rfl (hack.trans (if_pos h)), fun h => hends _ _ rfl (hack.trans ((if_neg ?_).trans ?_))⟩
    · exact ne_true_of_eq_false h
    · rw [acknowledge_other (s := s.dropMail _) hother]
      rfl
  · intro b c o
    refine ⟨fun h => hends _ _ rfl (actFreeCapture_other (s := s.dropMail _) h), fun h => hends _ _ rfl
      ((actFreeCapture_ready (s := s.dropMail _) h).trans ?_)⟩
    rw [freeCapture_eq]
    rfl
  · exact hends _ _ rfl ((actStore_unlocked (s := s.dropMail _) hlock).trans (if_pos h))
  · exact hends _ _ rfl ((actStore_unlocked (s := s.dropMail _) hlock).trans (if_neg (ne_true_of_eq_false h)))

end Sys2Proof.Machine


namespace Sys2Proof.Machine

/-! ## The yard summary (12.2) -/

section
variable {s : State}

theorem harmonicAlarm_iff : harmonicAlarm s = true ↔
    ∃ (k : Fin 6) (i : Fin 15), ((s.harmonic.elements[k][i]).map Element.standing).getD false = true := by
  unfold harmonicAlarm
  simp only [List.any_eq_true, Vector.mem_toList_iff, Vector.mem_iff_getElem]
  constructor
  · rintro ⟨v, ⟨k, hk, rfl⟩, e, ⟨i, hi, rfl⟩, he⟩
    exact ⟨⟨k, hk⟩, ⟨i, hi⟩, he⟩
  · rintro ⟨k, i, he⟩
    exact ⟨_, ⟨k.val, k.isLt, rfl⟩, _, ⟨i.val, i.isLt, rfl⟩, he⟩

theorem anyDamaged_iff : anyDamaged s = true ↔ ∃ r, s.memory.tables.damagedAt r = true := by
  unfold anyDamaged
  simp only [List.any_eq_true, mem_allRows, true_and]

/-- R165: the DAMAGED marks, table by table. -/
theorem damagedAt_iff {t : Tables} : (∃ r, t.damagedAt r = true) ↔
    (∃ i : Fin 16, t.stream[i].damaged = true) ∨ (∃ m : Fin 38, t.input[m].damaged = true) ∨
    (∃ i : Fin 8, t.step[i].damaged = true) ∨ (∃ i : Fin 15, t.harmonic[i].damaged = true) ∨
    (∃ c : Fin 9, t.resonance[c].damaged = true) ∨ t.yard.damaged = true ∨ (∃ u : Fin 9, t.unit[u].damaged = true) ∨
    t.link.damaged = true := by
  constructor
  · rintro ⟨r, hr⟩
    cases r with
    | stream i => exact .inl ⟨i, hr⟩
    | input m => exact .inr (.inl ⟨m, hr⟩)
    | step i => exact .inr (.inr (.inl ⟨i, hr⟩))
    | harmonic i => exact .inr (.inr (.inr (.inl ⟨i, hr⟩)))
    | resonance c => exact .inr (.inr (.inr (.inr (.inl ⟨c, hr⟩))))
    | yard => exact .inr (.inr (.inr (.inr (.inr (.inl hr)))))
    | unit u => exact .inr (.inr (.inr (.inr (.inr (.inr (.inl ⟨u, hr⟩))))))
    | link => exact .inr (.inr (.inr (.inr (.inr (.inr (.inr hr))))))
  · rintro (⟨i, h⟩ | ⟨i, h⟩ | ⟨i, h⟩ | ⟨i, h⟩ | ⟨i, h⟩ | h | ⟨i, h⟩ | h)
    · exact ⟨.stream i, h⟩
    · exact ⟨.input i, h⟩
    · exact ⟨.step i, h⟩
    · exact ⟨.harmonic i, h⟩
    · exact ⟨.resonance i, h⟩
    · exact ⟨.yard, h⟩
    · exact ⟨.unit i, h⟩
    · exact ⟨.link, h⟩

/-! ## Reports (R171) -/

theorem reporting_iff : reporting s = true ↔ s.link.destination ≠ 0 := decide_eq_true_iff

theorem noteChange_quiet {before : State} (h : s.link.destination = 0 ∨ ¬ (yardSummary before ≠ yardSummary s ∨
    (s.events.changePending = true ∧ before.events.changePending = false))) : noteChange before s = s := by
  refine if_neg fun ⟨hreports, hchanged⟩ => ?_
  rcases h with h | h
  · exact reporting_iff.1 hreports h
  · exact h (hchanged.imp_right fun h => ⟨h.1, by simpa using h.2⟩)

theorem noteChange_changed {before : State} (hreports : s.link.destination ≠ 0) (hchanged : yardSummary before ≠ yardSummary s ∨
    (s.events.changePending = true ∧ before.events.changePending = false)) : noteChange before s =
    let noted := { s with events := { s.events with changePending := true } }
    if s.events.changeHold = 0 then sendChange (readRow noted .link) else noted :=
  if_pos ⟨reporting_iff.2 hreports, hchanged.imp_right fun h => ⟨h.1, by simpa using h.2⟩⟩

theorem changeReport_due (hreports : s.link.destination ≠ 0) (hpending : s.events.changePending = true) :
    changeReport s = sendChange s := if_pos ⟨reporting_iff.2 hreports, hpending⟩

theorem changeReport_none (h : s.link.destination = 0 ∨ s.events.changePending = false) : changeReport s = s :=
  if_neg fun ⟨hreports, hpending⟩ => h.elim (reporting_iff.1 hreports) (ne_false_of_eq_true hpending)

theorem periodicReport_none (h : s.link.destination = 0) :
    periodicReport s = { s with events := { s.events with reportTimer := 0 } } :=
  if_neg fun hreports => reporting_iff.1 hreports h

theorem periodicReport_due (h : s.link.destination ≠ 0) : periodicReport s =
    let u : State := { s with events := { s.events with reportTimer := 0 } }
    let both : Bool := s.events.changePending && s.events.changeHold = 0
    let t := sendReport true both u
    if both then { t with events := { t.events with changePending := false, changeHold := 100 } } else t :=
  if_pos (reporting_iff.2 h)

end

/-- Settles O54. -/
theorem reports : Obligations.Reports := by
  unfold Obligations.Reports
  intro frame change
  have hframe (periodic alone : Bool) (u : State) : reportFrame periodic alone u = frame periodic alone u := by
    show ({ cls := .report, frame := makeFrame _ (.report _ _ (newestSequence u) _) _ } : OriginFrame) = _
    rw [newestSequence_eq]
    rfl
  have hsend (periodic alone : Bool) (u : State) :
      sendReport periodic alone u = enterOrigins (frame periodic alone u) u.ports.reportPort u := by
    unfold sendReport
    rw [hframe]
  have hchange (u : State) : sendChange u = change u := by
    unfold sendChange
    dsimp only
    rw [hsend]
    rfl
  refine ⟨?summary, rfl, rfl, rfl, rfl, rfl, rfl, ?noted, ?timers⟩
  case summary =>
    intro s flag yes t w step stands standing damaged
    have hstanding : harmonicAlarm s = standing := by
      rw [Bool.eq_iff_iff, harmonicAlarm_iff, decide_eq_true_iff]
      refine exists_congr fun k => exists_congr fun i => ?_
      cases s.harmonic.elements[k][i] with
      | none => rfl
      | some e => cases e <;> rfl
    have hdamaged : anyDamaged s = damaged := by
      rw [Bool.eq_iff_iff, anyDamaged_iff, damagedAt_iff, decide_eq_true_iff]
    unfold yardSummary
    rw [hstanding, hdamaged]
    simp only [List.append_assoc]
    rfl
  case noted =>
    intro before u changed
    refine ⟨noteChange_quiet, ?_⟩
    intro hreports hchanged noted
    have hnote := noteChange_changed hreports hchanged
    refine ⟨fun hhold => ?_, fun hhold => ?_⟩
    · rw [hnote, ← hchange]
      exact if_pos hhold
    · rw [hnote]
      exact if_neg (Nat.pos_iff_ne_zero.1 hhold)
  case timers =>
    intro s hs
    refine ⟨?_, ?_⟩
    · intro s₀
      refine ⟨fun hreports hpending => ?_, fun h => exec_of_body_self rfl hs (changeReport_none (s := s₀) h)⟩
      rw [← hchange]
      exact exec_of_body rfl hs (changeReport_due (s := s₀) hreports hpending)
    · intro s₀ u both t
      refine ⟨fun h => exec_of_body rfl hs (periodicReport_none (s := s₀) h), fun h => ?_⟩
      refine exec_of_body rfl hs ((periodicReport_due (s := s₀) h).trans ?_)
      dsimp only
      rw [hsend]
      rfl

end Sys2Proof.Machine


namespace Sys2Proof.Machine

/-! ## Resets (R168) -/

theorem CaptureBuffer.restart_eq (b : CaptureBuffer) : b.restart =
    if b.status = .ready then b else if b.status = .armed then CaptureBuffer.armed else CaptureBuffer.free := by
  unfold CaptureBuffer.restart
  cases b.status <;> rfl

theorem execRestartReset_waiting {s : State} (hs : s.phase = .running) (hwait : s.agent.restartWait ≠ none) :
    execRestartReset s = .next (resetPart .restart (s.dropMail .restartReset)) := by
  obtain ⟨n, hn⟩ := Option.ne_none_iff_exists'.1 hwait
  unfold execRestartReset
  dsimp only [State.dropMail]
  rw [hs, hn]

theorem execRestartReset_none {s : State} (h : s.phase ≠ .running ∨ s.agent.restartWait = none) :
    execRestartReset s = .next (s.dropMail .restartReset) := by
  unfold execRestartReset
  dsimp only
  split
  · next hs hwait =>
    rcases h with h | h
    · exact absurd hs h
    · cases hwait.symm.trans h
  · rfl

/-- An entry of a vector that holds one value throughout. -/
theorem getElem_replicate_fin {α : Type} {n : Nat} (x : α) (i : Fin n) : (Vector.replicate n x)[i] = x :=
  Vector.getElem_replicate i.isLt

/-- Settles O50. -/
theorem resets : Obligations.Resets := by
  refine ⟨?_, ?_⟩
  · intro s ports memory cold
    refine ⟨rfl, fun hs hwait => (execRestartReset_waiting hs hwait).trans ?_, execRestartReset_none⟩
    have hbuffers : s.events.buffers.map CaptureBuffer.restart = s.events.buffers.map fun b =>
        if b.status = .ready then b else if b.status = .armed then CaptureBuffer.armed else CaptureBuffer.free :=
      congrArg (Vector.map · s.events.buffers) (funext CaptureBuffer.restart_eq)
    rw [← hbuffers]
    rfl
  · intro r
    have hstream (i : Fin 16) : r.acceptance.streams[i] = StreamLive.reset := getElem_replicate_fin _ i
    have hinput (m : Fin 38) : r.acceptance.inputs[m] = InputLive.reset := getElem_replicate_fin _ m
    have hresult (m : Fin 38) : r.engine.results[m] = ResultRecord.reset := getElem_replicate_fin _ m
    have hduty (i : Fin 8) : r.duty.steps[i] = DutyLive.reset := getElem_replicate_fin _ i
    have hunbalance (i : Fin 8) : r.unbalance.steps[i] = UnbalanceLive.reset := getElem_replicate_fin _ i
    have hstep (i : Fin 8) : r.supervisor.steps[i] = StepLive.reset := getElem_replicate_fin _ i
    have hunit (u : Fin 9) : r.commands[u] = UnitLive.reset := getElem_replicate_fin _ u
    refine ⟨fun i => by rw [hstream]; exact ⟨rfl, rfl⟩, fun m => by rw [hinput, hresult]; exact ⟨rfl, rfl, rfl, rfl⟩, rfl, rfl, rfl,
      fun i => by rw [hduty, hunbalance, hstep]; exact ⟨rfl, rfl, rfl, rfl, rfl, rfl, rfl, rfl⟩, rfl, rfl, rfl, rfl, rfl, rfl, rfl,
      rfl, fun u => by rw [hunit]; exact ⟨rfl, rfl, rfl, rfl, rfl⟩, rfl, rfl, rfl, rfl, rfl⟩

end Sys2Proof.Machine


namespace Sys2Proof.Machine

/-! ## The event list (R169) -/

theorem logEvent_room {k : EventKind} {x : Subject} {v : Option Nat} {s : State} (h : s.events.entries.length < 256) :
    logEvent k x v s = { s with events := { s.events with
      entries := s.events.entries ++ [{ sequence := s.events.next, stamp := s.timebase, kind := k, subject := x, value := v }]
      next := (s.events.next + 1) % 4294967296 } } := by
  have hfull : decide (Config.eventCapacity ≤ s.events.entries.length) = false := decide_eq_false (Nat.not_le.2 h)
  unfold logEvent
  dsimp only
  rw [hfull, Bool.or_false]
  rfl

theorem logEvent_full {k : EventKind} {x : Subject} {v : Option Nat} {s : State} (h : 256 ≤ s.events.entries.length) :
    logEvent k x v s = { s with events := { s.events with
      entries := s.events.entries.drop 1 ++
        [{ sequence := s.events.next, stamp := s.timebase, kind := k, subject := x, value := v }]
      next := (s.events.next + 1) % 4294967296, lost := true } } := by
  have hfull : decide (Config.eventCapacity ≤ s.events.entries.length) = true := decide_eq_true h
  unfold logEvent
  dsimp only
  rw [hfull, Bool.or_true]
  rfl

/-! ## A value handed by acceptance (R172, R173) -/

section
variable {m : Fin 38} {x : CapSample} {b : CaptureBuffer} {s : State}

/-- What a value leaves of one buffer, by the buffer's status. -/
def CaptureBuffer.offered (m : Fin 38) (x : CapSample) (b : CaptureBuffer) : CaptureBuffer :=
  match b.status with
  | .armed => b.keep m x
  | .recording => b.record m x
  | _ => b

/-- R173: whether a value completes the recording of a buffer. -/
def CaptureBuffer.completedBy (m : Fin 38) (x : CapSample) (b : CaptureBuffer) : Bool :=
  b.status = .recording && (!b.full && (b.record m x).full)

theorem offerSample_eq (m : Fin 38) (x : CapSample) (s : State) (i : Fin 2) : offerSample m x s i =
    if s.events.buffers[i].completedBy m x then hand (.captureComplete i) (s.updBuffer i (CaptureBuffer.offered m x))
    else s.updBuffer i (CaptureBuffer.offered m x) := by
  have hupd {f : CaptureBuffer → CaptureBuffer} (hf : s.events.buffers[i].offered m x = f s.events.buffers[i]) :
      s.updBuffer i (CaptureBuffer.offered m x) = s.updBuffer i f := by
    unfold State.updBuffer upd
    rw [hf]
  have hrecorded : (s.updBuffer i (CaptureBuffer.record m x)).events.buffers[i] = s.events.buffers[i].record m x :=
    Vector.getElem_set_self i.isLt
  unfold offerSample CaptureBuffer.completedBy
  dsimp only
  cases hstatus : s.events.buffers[i].status with
  | armed => rw [hupd (f := CaptureBuffer.keep m x) (by unfold CaptureBuffer.offered; rw [hstatus])]; rfl
  | recording =>
    rw [hupd (f := CaptureBuffer.record m x) (by unfold CaptureBuffer.offered; rw [hstatus])]
    rw [hrecorded]
    rfl
  | free | ready =>
    rw [hupd (f := id) (by unfold CaptureBuffer.offered; rw [hstatus]; rfl)]
    show s = s.updBuffer i id
    unfold State.updBuffer
    rw [upd_self]
    rfl

theorem offerSample_buffers (m : Fin 38) (x : CapSample) (s : State) (i j : Fin 2) :
    (offerSample m x s i).events.buffers[j] =
      if i = j then s.events.buffers[j].offered m x else s.events.buffers[j] := by
  have hbuffers : (offerSample m x s i).events.buffers = upd s.events.buffers i (CaptureBuffer.offered m x) := by
    rw [offerSample_eq]
    split <;> rfl
  rw [hbuffers, getElem_upd]

/-- The values handed to the buffers, one after another, and the completions that are due. -/
theorem offerFold_eq {l : List (Fin 2)} (hl : l.Nodup) (s : State) :
    (l.foldl (offerSample m x) s).mail =
      s.mail ++ (l.filter fun i => s.events.buffers[i].completedBy m x).map .captureComplete ∧
    ∀ j, (l.foldl (offerSample m x) s).events.buffers[j] =
      if j ∈ l then s.events.buffers[j].offered m x else s.events.buffers[j] := by
  induction l generalizing s with
  | nil => simp
  | cons i l ih =>
    obtain ⟨hi, hl⟩ := List.nodup_cons.1 hl
    obtain ⟨hmail, hbuffers⟩ := ih hl (offerSample m x s i)
    have hother {j : Fin 2} (hj : j ∈ l) : (offerSample m x s i).events.buffers[j] = s.events.buffers[j] :=
      (offerSample_buffers m x s i j).trans (if_neg fun h : i = j => hi (h ▸ hj))
    rw [List.foldl_cons]
    refine ⟨?_, fun j => ?_⟩
    · have hdue : (l.filter fun j => (offerSample m x s i).events.buffers[j].completedBy m x) =
          l.filter fun j => s.events.buffers[j].completedBy m x := List.filter_congr fun j hj => by rw [hother hj]
      rw [hmail, hdue, offerSample_eq, List.filter_cons]
      split <;> simp
    · rw [hbuffers]
      by_cases hj : j ∈ l
      · rw [if_pos hj, hother hj]
        exact (if_pos (List.mem_cons_of_mem i hj)).symm
      · rw [if_neg hj, offerSample_buffers]
        exact if_congr ⟨fun h => h ▸ List.mem_cons_self, fun h => ((List.mem_cons.1 h).resolve_right hj).symm⟩ rfl rfl

theorem handSample_buffers (m : Fin 38) (v : Int) (c : Nat) (filled : Bool) (s : State) (j : Fin 2) :
    (handSample m v c filled s).events.buffers[j] =
      s.events.buffers[j].offered m { value := v, counter := c, filled := filled } :=
  ((offerFold_eq (List.nodup_finRange 2) s).2 j).trans (if_pos (List.mem_finRange j))

theorem handSample_mail (m : Fin 38) (v : Int) (c : Nat) (filled : Bool) (s : State) : (handSample m v c filled s).mail =
    s.mail ++ (allBuffers.filter fun i =>
      s.events.buffers[i].completedBy m { value := v, counter := c, filled := filled }).map .captureComplete :=
  (offerFold_eq (List.nodup_finRange 2) s).1

theorem full_iff : b.full = true ↔ ∀ k : Fin 7, channelInput b.step k = none ∨ 768 ≤ b.channels[k].after.length := by
  unfold CaptureBuffer.full allChannels
  have hk (k : Fin 7) : ((channelInput b.step k).isNone || decide (Config.captureAfter ≤ b.channels[k].after.length)) = true ↔
      channelInput b.step k = none ∨ 768 ≤ b.channels[k].after.length := by
    rw [Bool.or_eq_true, Option.isNone_iff_eq_none, decide_eq_true_eq]
    rfl
  rw [List.all_eq_true]
  exact ⟨fun h k => (hk k).1 (h k (List.mem_finRange k)), fun h k _ => (hk k).2 (h k)⟩

theorem completedBy_iff : b.completedBy m x = true ↔
    b.status = .recording ∧ ¬ b.full = true ∧ (b.record m x).full = true := by
  unfold CaptureBuffer.completedBy
  rw [Bool.and_eq_true, Bool.and_eq_true, decide_eq_true_eq, Bool.not_eq_true', ← Bool.not_eq_true]

theorem offered_armed (h : b.status = .armed) : b.offered m x =
    if m.val < 3 ∨ 6 ≤ m.val then
      { b with kept := b.kept.set m ((b.kept[m] ++ [x]).drop (b.kept[m].length + 1 - 256)) }
    else b := by
  have hkept : keepLast (b.kept[m] ++ [x]) = (b.kept[m] ++ [x]).drop (b.kept[m].length + 1 - 256) := by
    unfold keepLast
    rw [List.length_append]
    rfl
  have hkeep : b.offered m x = b.keep m x := by
    unfold CaptureBuffer.offered
    rw [h]
  rw [hkeep]
  unfold CaptureBuffer.keep
  refine if_congr ?_ ?_ rfl
  · rw [keptInput, Bool.or_eq_true, decide_eq_true_eq, decide_eq_true_eq]
  · rw [← hkept]
    rfl

theorem offered_recording (h : b.status = .recording) : b.offered m x = b.record m x := by
  unfold CaptureBuffer.offered
  rw [h]

theorem offered_other (h : b.status = .free ∨ b.status = .ready) : b.offered m x = b := by
  unfold CaptureBuffer.offered
  rcases h with h | h <;> rw [h]

/-! ## Triggers and completions (R172, R173) -/

theorem takeTrigger_armed {kind : TriggerKind} {step : Option (Fin 8)} {i : Fin 2} (hi : s.events.buffers[i].status = .armed)
    (hfirst : ∀ j, j < i → s.events.buffers[j].status ≠ .armed) : takeTrigger kind step s =
      s.updBuffer i (CaptureBuffer.start { kind := kind, step := step, stamp := s.timebase }) := by
  have harmed : armedBuffer s = some i :=
    find?_finRange_eq_some.2 ⟨decide_eq_true hi, fun j hj => decide_eq_false (hfirst j hj)⟩
  unfold takeTrigger
  rw [harmed]

theorem takeTrigger_missed {kind : TriggerKind} {step : Option (Fin 8)} (h : ∀ i : Fin 2, s.events.buffers[i].status ≠ .armed) :
    takeTrigger kind step s = logEvent .captureMissed (triggerSubject step) (some (triggerNumber kind)) s := by
  have harmed : armedBuffer s = none := find?_finRange_eq_none.2 fun i => decide_eq_false (h i)
  unfold takeTrigger
  rw [harmed]

theorem otherBuffer_ne (i : Fin 2) : otherBuffer i ≠ i := by
  revert i
  decide

theorem completeCapture_recording {i : Fin 2} (h : s.events.buffers[i].status = .recording) : completeCapture i s =
    let u := logEvent .captureReady (triggerSubject s.events.buffers[i].step) (some i.val)
      (s.updBuffer i fun x => { x with status := .ready })
    if s.events.buffers[otherBuffer i].status = .free then u.updBuffer (otherBuffer i) fun _ => CaptureBuffer.armed else u := by
  have hother : (upd s.events.buffers i fun x => { x with status := .ready })[otherBuffer i] =
      s.events.buffers[otherBuffer i] :=
    (getElem_upd _ _ _ _).trans (if_neg (otherBuffer_ne i).symm)
  have hstatus (k : EventKind) (y : Subject) (v : Option Nat) :
      (logEvent k y v (s.updBuffer i fun x => { x with status := .ready })).events.buffers[otherBuffer i].status =
        s.events.buffers[otherBuffer i].status := congrArg CaptureBuffer.status hother
  unfold completeCapture
  dsimp only
  rw [if_pos h, hstatus]

theorem completeCapture_self {i : Fin 2} (h : s.events.buffers[i].status ≠ .recording) : completeCapture i s = s := if_neg h

end

/-- Settles O53. -/
theorem eventsAndCapture : Obligations.EventsAndCapture := by
  refine ⟨fun k x v s => ⟨logEvent_room, logEvent_full⟩, fun step k => rfl, ?offered, ?trigger, ?complete⟩
  case offered =>
    intro m v c filled s x inputOf full t
    have hbuffers (b : Fin 2) : t.events.buffers[b] = s.events.buffers[b].offered m x := handSample_buffers m v c filled s b
    have hfull (b : CaptureBuffer) : b.full = true ↔ full b := full_iff
    refine ⟨?_, ⟨_, ?_, handSample_mail m v c filled s, fun b => ?_⟩, handSample_sameBut m v c filled s⟩
    · intro b old
      exact ⟨fun h => (hbuffers b).trans (offered_armed h), fun h => (hbuffers b).trans (offered_recording h),
        fun h => (hbuffers b).trans (offered_other h)⟩
    · exact (List.pairwise_lt_finRange 2).filter _
    · rw [List.mem_filter, completedBy_iff, hfull, hfull, hbuffers]
      refine (and_iff_right (List.mem_finRange b)).trans (and_congr_right fun h => ?_)
      rw [offered_recording h]
  case trigger =>
    intro kind step s hs c s₀ subject number
    refine ⟨fun b hb hfirst => exec_of_body rfl hs (takeTrigger_armed (s := s₀) hb hfirst), fun hnone => ?_⟩
    have hsubject : triggerSubject step = subject := by cases step <;> rfl
    have hnumber : triggerNumber kind = number := by cases kind <;> rfl
    rw [← hsubject, ← hnumber]
    exact exec_of_body rfl hs (takeTrigger_missed (s := s₀) hnone)
  case complete =>
    intro b s hs c s₀ other subject u
    refine ⟨fun h => ?_, fun h => exec_of_body_self rfl hs (completeCapture_self (s := s₀) h)⟩
    have hsubject : triggerSubject s₀.events.buffers[b].step = subject := by
      show triggerSubject (s.events.buffers[b].trigger.bind Trigger.step) = _
      dsimp only [subject]
      rcases s.events.buffers[b].trigger with _ | ⟨kind, step, stamp⟩
      · rfl
      · cases step <;> rfl
    refine exec_of_body rfl hs ((completeCapture_recording (s := s₀) h).trans ?_)
    rw [hsubject]
    rfl

end Sys2Proof.Machine


namespace Sys2Proof.Machine

/-! ## Start-up and the count of damaged rows (R168) -/

section
variable {s : State}

theorem startUnit_sameBut (s : State) (u : Fin 9) : SameBut commandParts s (startUnit s u) := by
  unfold startUnit
  split
  · exact unitFoundDamaged_sameBut u s
  · exact (State.updUnit_sameBut u _ s).mono (by decide)

theorem startElements_sameBut (s : State) (i : Fin 15) : SameBut [.harmonic] s (startElements s i) := by
  unfold startElements
  dsimp only
  split
  · exact createElements_sameBut i s
  · exact .refl _ s

/-- Once the tables are loaded, start-up leaves them, and the counts of the table memory. -/
theorem startUp_memory (k : ResetKind) (xs : List Strike) (s : State) : (startUp k xs s).memory = (loadTables xs s).memory := by
  have hearly : (startEarly k xs s).memory = (loadTables xs s).memory :=
    (fillStates_sameBut _).same .memory (by simp)
  have hsteps := (SameBut.foldl startStep_sameBut allSteps (startEarly k xs s)).same .memory (by simp)
  have hmiddle (u : State) : (startMiddle u).memory = u.memory :=
    ((setNextCount_sameBut _).same .memory (by simp)).trans
      ((SameBut.foldl startElements_sameBut allLimits u).same .memory (by simp))
  have hlate (u : State) : (startLate u).memory = u.memory :=
    ((armAtStartUp_sameBut _).same .memory (by simp)).trans
      ((SameBut.foldl startUnit_sameBut allUnits (startAgeClock u)).same .memory (by decide))
  rw [startUp_eq, hlate, (startSwitching_sameBut _).same .memory (by simp), hmiddle]
  exact hsteps.trans hearly

theorem loadRow_whole {r : RowRef} (hdamaged : s.memory.tables.damagedAt r = false) (hclean : s.memory.tables.upsetAt r = .clean) :
    loadRow s r = s := by
  unfold loadRow
  rw [hdamaged, hclean]
  rfl

theorem loadRows_whole {rs : List RowRef}
    (h : ∀ r ∈ rs, s.memory.tables.damagedAt r = false ∧ s.memory.tables.upsetAt r = .clean) : rs.foldl loadRow s = s := by
  induction rs with
  | nil => rfl
  | cons r rs ih =>
    obtain ⟨hdamaged, hclean⟩ := h r List.mem_cons_self
    rw [List.foldl_cons, loadRow_whole hdamaged hclean]
    exact ih fun r hr => h r (List.mem_cons_of_mem _ hr)

/-- R168: a VALID image without errors is loaded, and no error is counted. -/
theorem loadTables_whole {tables : Tables} (hvalid : s.memory.imageValid = true) (himage : s.memory.image = some tables)
    (h : ∀ r ∈ allRows, tables.damagedAt r = false ∧ tables.upsetAt r = .clean) : (loadTables [] s).memory =
    { s.memory with tables := tables, storeInvalid := false } := by
  unfold loadTables
  rw [hvalid, himage]
  dsimp only
  exact congrArg State.memory (loadRows_whole h)

end

/-- A part in reset with a VALID image of Default rows, whose count of damaged rows has left its range modulo 2^32. -/
def overcounted : State :=
  { State.reset with memory := { State.reset.memory with
      imageValid := true, image := some Tables.defaults, damaged := 4294967296 } }

theorem defaults_whole : ∀ r ∈ allRows, Tables.defaults.damagedAt r = false ∧ Tables.defaults.upsetAt r = .clean := by
  intro r _
  have hstream (i : Fin 16) : Tables.defaults.stream[i] = Held.fresh defaultStream := getElem_replicate_fin _ i
  have hinput (i : Fin 38) : Tables.defaults.input[i] = Held.fresh defaultInput := getElem_replicate_fin _ i
  have hstep (i : Fin 8) : Tables.defaults.step[i] = Held.fresh defaultStep := getElem_replicate_fin _ i
  have hharmonic (i : Fin 15) : Tables.defaults.harmonic[i] = Held.fresh (defaultHarm i) := Vector.getElem_ofFn i.isLt
  have hresonance (i : Fin 9) : Tables.defaults.resonance[i] = Held.fresh defaultRes := getElem_replicate_fin _ i
  have hunit (i : Fin 9) : Tables.defaults.unit[i] = Held.fresh defaultUnit := getElem_replicate_fin _ i
  cases r with
  | yard | link => exact ⟨rfl, rfl⟩
  | stream | input | step | harmonic | resonance | unit =>
    simp only [Tables.damagedAt, Tables.upsetAt, hstream, hinput, hstep, hharmonic, hresonance, hunit, Held.fresh, and_self]

/-- A start-up that loads a VALID image without errors leaves the count of damaged rows. -/
theorem exec_startUp_damaged {k : ResetKind} {tables : Tables} {s t : State} (hphase : s.phase = .inReset k)
    (hvalid : s.memory.imageValid = true) (himage : s.memory.image = some tables)
    (h : ∀ r ∈ allRows, tables.damagedAt r = false ∧ tables.upsetAt r = .clean) (ht : exec (.startUp []) s = .next t) :
    t.memory.damaged = s.memory.damaged := by
  have hexec : exec (.startUp []) s = .next (startUp k [] s) := by
    show execStartUp [] s = _
    unfold execStartUp
    rw [hphase]
  rw [← Host.Outcome.next.inj (hexec.symm.trans ht), startUp_memory, loadTables_whole hvalid himage h]

/-- Refutes O51: the count of damaged rows is stated modulo 2^32 for every state that a load starts from, but a load that
finds no error leaves the count as it is. From `overcounted`, where the count is 2^32, it stays at 2^32, and the statement
asks for 0. -/
theorem not_startUp : ¬ Obligations.StartUp := by
  intro h
  have hwithdrawn (i : Fin 8) : overcounted.stepState i = .withdrawn :=
    congrArg StepLive.state (getElem_replicate_fin StepLive.reset i)
  obtain ⟨t, ht, -, -, -, -, -, -, -, -, hloaded, -⟩ := h.2 .cold [] overcounted rfl hwithdrawn
  obtain ⟨-, -, -, hdamaged, -⟩ := hloaded Tables.defaults rfl rfl
  rw [exec_startUp_damaged (s := overcounted) rfl rfl rfl defaults_whole ht] at hdamaged
  have hbounded : overcounted.memory.damaged < 4294967296 := hdamaged ▸ Nat.mod_lt _ (by omega)
  exact absurd hbounded (Nat.lt_irrefl _)

end Sys2Proof.Machine


namespace Sys2Proof.Machine

/-! ## Reads leave no error behind them (R165, R166) -/

/-- The row is DAMAGED already, or agrees with its check bits. -/
def Held.Whole {α : Type} (h : Held α) : Prop := h.damaged = true ∨ h.upset = .clean

/-- A read of row `r` finds no error in it. -/
def RowWhole (r : RowRef) (s : State) : Prop :=
  s.memory.tables.damagedAt r = true ∨ s.memory.tables.upsetAt r = .clean

theorem flawed_eq_false_iff {s : State} {r : RowRef} : flawed s r = false ↔ RowWhole r s := by
  unfold flawed RowWhole
  cases s.memory.tables.damagedAt r <;> simp

theorem upd_whole {α : Type} {n : Nat} {f : {α : Type} → Held α → Held α}
    (hf : ∀ {α : Type} (h : Held α), h.Whole → (f h).Whole) {v : Vector (Held α) n} {i j : Fin n} (h : v[j].Whole) :
    (upd v i f)[j].Whole := by
  rw [getElem_upd]
  split
  · exact hf _ h
  · exact h

/-- A change of one row that leaves no error in a whole row leaves every whole row whole. -/
theorem mapAt_whole {f : {α : Type} → Held α → Held α} (hf : ∀ {α : Type} (h : Held α), h.Whole → (f h).Whole) {t : Tables}
    {q r : RowRef} (h : t.damagedAt q = true ∨ t.upsetAt q = .clean) :
    (t.mapAt r f).damagedAt q = true ∨ (t.mapAt r f).upsetAt q = .clean := by
  cases r with
  | stream i =>
    cases q with
    | stream j => exact upd_whole hf h
    | _ => exact h
  | input i =>
    cases q with
    | input j => exact upd_whole hf h
    | _ => exact h
  | step i =>
    cases q with
    | step j => exact upd_whole hf h
    | _ => exact h
  | harmonic i =>
    cases q with
    | harmonic j => exact upd_whole hf h
    | _ => exact h
  | resonance i =>
    cases q with
    | resonance j => exact upd_whole hf h
    | _ => exact h
  | unit i =>
    cases q with
    | unit j => exact upd_whole hf h
    | _ => exact h
  | yard =>
    cases q with
    | yard => exact hf _ h
    | _ => exact h
  | link =>
    cases q with
    | link => exact hf _ h
    | _ => exact h

/-- A change of one row that leaves no error behind it leaves that row whole. -/
theorem mapAt_self_whole {f : {α : Type} → Held α → Held α} (hf : ∀ {α : Type} (h : Held α), (f h).upset = .clean) {t : Tables}
    (r : RowRef) : (t.mapAt r f).upsetAt r = .clean := by
  cases r <;> simp only [Tables.mapAt, Tables.upsetAt, getElem_upd, if_true] <;> exact hf _

theorem Held.correct_whole {α : Type} (h : Held α) : h.correct.upset = .clean := rfl
theorem Held.fail_whole {α : Type} (h : Held α) : h.fail.upset = .clean := rfl

/-! ### What reads keep of the table memory -/

/-- A property of the table memory that the corrections and marks of reads keep, and the row that a null capture writes. -/
structure ReadKept (P : MemoryState → Prop) : Prop where
  correct : ∀ {m} (r : RowRef) (n : Nat) (e : Option (RowRef × ErrorClass)), P m →
    P { m with tables := m.tables.mapAt r Held.correct, corrected := n, firstError := e }
  fail : ∀ {m} (r : RowRef) (n : Nat) (e : Option (RowRef × ErrorClass)), P m →
    P { m with tables := m.tables.mapAt r Held.fail, damaged := n, firstError := e }
  null : ∀ {m} (i : Fin 8) (row : StepRow), P m →
    P { m with tables := { m.tables with step := m.tables.step.set i (Held.fresh row) } }

section
variable {P : MemoryState → Prop} {s t : State} {r : RowRef}

theorem SameBut.keepsMemory {ps : List Part} (hst : SameBut ps s t) (hps : Part.memory ∉ ps) (h : P s.memory) : P t.memory := by
  rw [hst.same .memory hps]
  exact h

variable (hP : ReadKept P)
include hP

theorem ReadKept.correctRow (h : P s.memory) : P (correctRow r s).memory := hP.correct r _ _ h

theorem ReadKept.markDamaged (h : P s.memory) : P (markDamaged r s).memory := hP.fail r _ _ h

theorem ReadKept.completeNull {c : NullContext} (h : P s.memory) : P (completeNull c s).memory := by
  unfold Machine.completeNull
  dsimp only
  split
  · exact hP.null _ _ h
  · exact h

theorem ReadKept.offerNull {i : Fin 8} {record : ResultRecord} (h : P s.memory) : P (offerNull i record s).memory := by
  unfold Machine.offerNull
  split
  · split
    · split
      · exact (abandonNull_sameBut _ _).keepsMemory (by simp) h
      · exact h
      · dsimp only
        split
        · exact hP.completeNull h
        · exact h
    · exact h
  · exact h

theorem ReadKept.unbalanceEvaluate {i : Fin 8} (h : P s.memory) : P (unbalanceEvaluate i s).memory := by
  unfold Machine.unbalanceEvaluate
  dsimp only
  split
  · exact hP.offerNull ((tripStage_sameBut _ _ _ _ _).keepsMemory (by simp) ((alarmStage_sameBut _ _ _ _ _).keepsMemory
      (by simp) ((formLastU_sameBut _ _ _ _).keepsMemory (by simp) ((judgeInputInvalid_sameBut _ _ _).keepsMemory (by simp) h))))
  · exact h

theorem ReadKept.actOnPublication {m : Fin 38} (h : P s.memory) : P (actOnPublication m s).memory := by
  unfold Machine.actOnPublication
  have hformed := (harmonicPublication_sameBut m s).keepsMemory (by simp) h
  generalize harmonicPublication m s = t at hformed
  have hstep : P (match inputStep m with
      | some (i, k) => if k = 3 then Machine.unbalanceEvaluate i t else if k = 0 then heatUpdate i t else t
      | none => t).memory := by
    split
    · split
      · exact hP.unbalanceEvaluate hformed
      · split
        · exact (heatUpdate_sameBut _ _).keepsMemory (by simp) hformed
        · exact hformed
    · exact hformed
  dsimp only
  split
  · exact (controlEvaluation_sameBut _).keepsMemory (by simp) hstep
  · exact hstep

theorem ReadKept.publish {m : Fin 38} {record : ResultRecord} (h : P s.memory) : P (publish m record s).memory :=
  (markChange_sameBut _ _).keepsMemory (by simp)
    (hP.actOnPublication (s := { s with engine := { s.engine with results := s.engine.results.set m record } }) h)

theorem ReadKept.settleNotice {m : Fin 38} (h : P s.memory) : P (settleNotice m s).memory := by
  unfold Machine.settleNotice
  split
  · split
    · exact h
    · exact hP.publish (s := setNotice m none s) h
  · exact h

theorem ReadKept.endWait {m : Fin 38} {w : Fin 2} (h : P s.memory) : P (endWait m w s).memory := by
  unfold Machine.endWait
  split
  · exact hP.settleNotice (s := setNotice m _ s) h
  · exact h

theorem ReadKept.handNotice {m : Fin 38} (h : P s.memory) : P (handNotice m s).memory :=
  hP.settleNotice (s := setNotice m _ s) h

theorem ReadKept.withdrawWindow {m : Fin 38} {w : Fin 2} (h : P s.memory) : P (withdrawWindow m s w).memory := by
  unfold Machine.withdrawWindow
  split
  · have hgone := (setWindow_sameBut m w Window.empty s).keepsMemory (P := P) (by simp) h
    exact hP.endWait hgone
  · exact hP.endWait ((setWindow_sameBut m w _ s).keepsMemory (by simp) h)
  · exact h

omit hP in
theorem foldl_keepsMemory {α : Type} {f : State → α → State} (hf : ∀ {s a}, P s.memory → P (f s a).memory) (xs : List α)
    (h : P s.memory) : P (xs.foldl f s).memory := by
  induction xs generalizing s with
  | nil => exact h
  | cons x xs ih => exact ih (hf h)

theorem ReadKept.unmapInput {m : Fin 38} (h : P s.memory) : P (unmapInput s m).memory :=
  foldl_keepsMemory hP.withdrawWindow _ (hP.handNotice ((discardTo_sameBut _ _ _).keepsMemory (by simp) h))

theorem ReadKept.streamFoundDamaged {i : Fin 16} {inputs : List (Fin 38)} (h : P s.memory) :
    P (streamFoundDamaged i inputs s).memory := by
  have hended : P (s.updStream i StreamLive.endStream).memory := h
  unfold Machine.streamFoundDamaged
  exact foldl_keepsMemory hP.unmapInput inputs hended

theorem ReadKept.ownerActs {mapped : List (Fin 38)} (h : P s.memory) : P (ownerActs r mapped s).memory := by
  unfold Machine.ownerActs
  cases r with
  | stream i =>
    dsimp only
    exact hP.streamFoundDamaged h
  | input m =>
    dsimp only
    unfold inputFoundDamaged
    exact hP.unmapInput h
  | step i => exact (settingsFault_sameBut i _).keepsMemory (by simp) ((abandonNull_sameBut i s).keepsMemory (by simp) h)
  | harmonic i => exact (harmonicFoundDamaged_sameBut i s).keepsMemory (by simp) h
  | resonance => exact (reformNextCount_sameBut s).keepsMemory (by simp) h
  | yard => exact (yardFoundDamaged_sameBut s).keepsMemory (by simp) h
  | unit u => exact (unitFoundDamaged_sameBut u s).keepsMemory (by decide) h
  | link => exact h

theorem ReadKept.readAt {n : Nat} (h : P s.memory) : P (readAt n s r).memory := by
  induction n generalizing s r with
  | zero => exact h
  | succ n ih =>
    unfold Machine.readAt
    split
    · exact h
    · split
      · exact h
      · exact hP.correctRow h
      · exact (markChange_sameBut _ _).keepsMemory (by simp) (hP.ownerActs
          (readAlong_keeps (P := fun s => P s.memory) (fun _ _ _ ht => ih ht) _ _ (hP.markDamaged h)))

theorem ReadKept.readRow (h : P s.memory) : P (readRow s r).memory := hP.readAt h

theorem ReadKept.readRows {rs : List RowRef} (h : P s.memory) : P (readRows rs s).memory := foldl_keepsMemory hP.readRow rs h

theorem ReadKept.noteChange {before : State} (h : P s.memory) : P (noteChange before s).memory := by
  unfold Machine.noteChange
  split
  · dsimp only
    split
    · exact (sendChange_sameBut _).keepsMemory (by simp)
        (hP.readRow (s := { s with events := { s.events with changePending := true } }) h)
    · exact h
  · exact h

end

/-! ### Wholeness -/

/-- Reads leave a row that holds no error without one. -/
theorem rowWhole_readKept (q : RowRef) :
    ReadKept fun m => m.tables.damagedAt q = true ∨ m.tables.upsetAt q = .clean where
  correct r _ _ h := mapAt_whole (fun _ _ => .inr (Held.correct_whole _)) h
  fail r _ _ h := mapAt_whole (fun _ _ => .inr (Held.fail_whole _)) h
  null i row h := by
    cases q with
    | step j =>
      simp only [Tables.damagedAt, Tables.upsetAt, Fin.getElem_fin, Vector.getElem_set]
      split
      · exact .inr rfl
      · exact h
    | _ => exact h

section
variable {s : State} {q r : RowRef}

theorem correctRow_self_whole : RowWhole r (correctRow r s) := .inr (mapAt_self_whole Held.correct_whole r)

theorem markDamaged_whole (h : RowWhole q s) : RowWhole q (markDamaged r s) := (rowWhole_readKept q).markDamaged h

theorem markDamaged_self_whole : RowWhole r (markDamaged r s) := .inr (mapAt_self_whole Held.fail_whole r)

theorem readRow_self_whole : RowWhole r (readRow s r) := by
  have hkept := rowWhole_readKept r
  show RowWhole r (readAt (96 + 1) s r)
  unfold readAt
  split
  next h => exact .inl h
  next =>
    split
    next h => exact .inr h
    next => exact correctRow_self_whole
    next =>
      have hread := readAlong_keeps (P := RowWhole r) (read := readAt 96) (fun _ _ _ ht => hkept.readAt ht) (ownerUses r (rowInputs r s)) 96
        (markDamaged_self_whole (s := s) (r := r))
      exact (markChange_sameBut _ _).keepsMemory (P := fun m => m.tables.damagedAt r = true ∨ m.tables.upsetAt r = .clean)
        (by simp) (hkept.ownerActs hread)

/-- R166: rows read one after the other leave no error in any of them. -/
theorem readRows_whole {rs : List RowRef} (hq : q ∈ rs) : RowWhole q (readRows rs s) := by
  induction rs generalizing s with
  | nil => cases hq
  | cons r rs ih =>
    rcases List.mem_cons.1 hq with rfl | hq
    · exact (rowWhole_readKept q).readRows (s := readRow s q) readRow_self_whole
    · exact ih (s := readRow s r) hq

theorem readRows_intact_after (s : State) : Intact (readRows allRows s) :=
  fun _ hr => readRows_whole hr

theorem Intact.noteChange {before : State} (h : Intact s) : Intact (noteChange before s) :=
  fun r hr => (rowWhole_readKept r).noteChange (h r hr)

end

end Sys2Proof.Machine


namespace Sys2Proof.Machine

/-! ## One read of a row (R165) -/

section
variable {s : State} {r : RowRef}

theorem readRow_single (hdamaged : s.memory.tables.damagedAt r = false) (hupset : s.memory.tables.upsetAt r = .single) :
    readRow s r = correctRow r s := by
  show readAt (96 + 1) s r = _
  unfold readAt
  rw [if_neg (by simp [hdamaged]), hupset]

theorem readRow_double (hdamaged : s.memory.tables.damagedAt r = false) (hupset : s.memory.tables.upsetAt r = .double) :
    readRow s r = markChange s (ownerActs r (rowInputs r s)
      (readAlong (readAt 96) (ownerUses r (rowInputs r s)) 96 (markDamaged r s))) := by
  show readAt (96 + 1) s r = _
  unfold readAt
  rw [if_neg (by simp [hdamaged]), hupset]

/-- With no error in any other row, the owner of a row found DAMAGED finds none in the rows it uses. -/
theorem readRow_double_alone (hdamaged : s.memory.tables.damagedAt r = false)
    (hupset : s.memory.tables.upsetAt r = .double)
    (hothers : ∀ q, q ≠ r → s.memory.tables.damagedAt q = true ∨ s.memory.tables.upsetAt q = .clean) :
    readRow s r = markChange s (ownerActs r (rowInputs r s) (markDamaged r s)) := by
  have hwhole (q : RowRef) : RowWhole q (markDamaged r s) := by
    by_cases hq : q = r
    · exact hq ▸ markDamaged_self_whole
    · exact markDamaged_whole (hothers q hq)
  rw [readRow_double hdamaged hupset, readAlong_whole fun q _ => flawed_eq_false_iff.2 (hwhole q)]

/-! ## The reads of an act (R165) -/

theorem readUsed_first {uses : State → List RowRef} {before after : List RowRef} (huses : uses s = before ++ r :: after)
    (hbefore : ∀ x ∈ before, RowWhole x s) (hr : ¬ RowWhole r s) :
    readUsed uses s = readAlong readRow uses 96 (readRow s r) := by
  have hflawed : flawed s r = true := by simpa using mt flawed_eq_false_iff.1 hr
  have hfind : (uses s).find? (flawed s) = some r := by
    rw [huses, find?_append_cons hflawed fun x hx => by simp [flawed_eq_false_iff.2 (hbefore x hx)]]
  show (match (uses s).find? (flawed s) with
    | some r => readAlong readRow uses 96 (readRow s r)
    | none => s) = _
  rw [hfind]

theorem taking_running (h : s.phase = .running) (c : Instr) (uses : State → List RowRef) (body : State → State) :
    taking c uses body s = noteChange (sinceTaken (s.dropMail c) (readUsed uses (s.dropMail c)))
      (body (readUsed uses (s.dropMail c))) := by
  have hp : (s.dropMail c).phase = .running := h
  unfold taking
  dsimp only
  rw [hp]

/-- A command none of whose rows holds an error acts on the state as it stands. -/
theorem taking_whole (h : s.phase = .running) {c : Instr} {uses : State → List RowRef}
    (huses : ∀ r ∈ uses (s.dropMail c), RowWhole r s) (body : State → State) :
    taking c uses body s = noteChange (s.dropMail c) (body (s.dropMail c)) := by
  have hread : readUsed uses (s.dropMail c) = s.dropMail c :=
    readUsed_whole fun r hr => flawed_eq_false_iff.2 (huses r hr)
  rw [taking_running h, hread]
  rfl

/-- An act that gives no record a new sequence number publishes nothing. -/
theorem noticeUses_none {act : State → State}
    (h : ∀ m : Fin 38, (act s).engine.results[m].sequence = s.engine.results[m].sequence) : noticeUses act s = [] := by
  have hnone : publishedBy act s = [] := List.filter_eq_nil_iff.2 fun m _ => by simpa using h m
  unfold noticeUses
  rw [hnone]
  rfl

theorem sampleUses_whole {f : SampleFrame} (hstream : ∀ i, RowWhole (.stream i) s)
    (h : ∀ m : Fin 38, (acceptFrame f s).engine.results[m].sequence = s.engine.results[m].sequence) :
    ∀ r ∈ sampleUses f s, RowWhole r s := by
  unfold sampleUses
  rw [noticeUses_none h, List.append_nil]
  intro r hr
  obtain ⟨i, -, rfl⟩ := List.mem_map.1 hr
  exact hstream i

theorem grantUses_empty (h : s.switching.queue = []) : grantUses s = [] := by
  unfold grantUses
  rw [h]
  rfl

/-! ## A step report with nothing to grant and no selection -/

theorem withdrawAuto_empty {c : Condition} (h : s.switching.queue = []) : withdrawAuto c s = s :=
  withdrawAuto_none fun e he => by rw [h] at he; cases he

theorem settleAtRelease_queue (h : s.switching.queue = []) : (settleAtRelease s).switching.queue = [] := by
  unfold settleAtRelease
  split
  case h_6 =>
    rw [withdrawAuto_empty h]
    exact h
  all_goals exact h

theorem settleAtMove_queue (h : s.switching.queue = []) : (settleAtMove s).switching.queue = [] := by
  unfold settleAtMove
  split
  case h_6 =>
    rw [withdrawAuto_empty h]
    split <;> exact h
  all_goals exact h

theorem releaseByReport_queue {r : StepReport} (h : s.switching.queue = []) : (releaseByReport r s).switching.queue = [] := by
  have hfreed : (releaseSlot (stepUnit r.step) s).switching.queue = [] := by
    rcases releaseSlot_switching (stepUnit r.step) s with heq | heq <;> rw [heq] <;> exact h
  unfold releaseByReport
  split
  · refine settleAtRelease_queue ?_
    split <;> exact hfreed
  · exact h

theorem settleByReport_queue {r : StepReport} (h : s.switching.queue = []) : (settleByReport r s).switching.queue = [] := by
  unfold settleByReport
  dsimp only
  split
  · exact settleAtMove_queue (releaseByReport_queue h)
  · exact releaseByReport_queue h

theorem tripInDead_queue {r : StepReport} (h : s.switching.queue = []) : (tripInDead r s).switching.queue = [] := by
  unfold tripInDead
  split <;> exact h

theorem selectionByReport_none {r : StepReport} (h : s.switching.selection = none) : selectionByReport r s = s := by
  rw [selectionByReport_eq]
  refine if_neg fun ⟨⟨x, hx, _⟩, _⟩ => ?_
  rw [h] at hx
  cases hx

/-- With no selection and an empty queue a step report leads to no grant, and no row is used. -/
theorem controlReportUses_none {r : StepReport} (hselection : s.switching.selection = none) (hqueue : s.switching.queue = []) :
    controlReportUses r s = [] := by
  have hnone : (settleByReport r s).switching.selection = none := (settleByReport_watch r s).1.trans hselection
  unfold controlReportUses selectionUses
  dsimp only
  rw [selectionByReport_none hnone, grantUses_empty (tripInDead_queue (settleByReport_queue hqueue)), List.append_nil]
  refine if_neg fun ⟨hselected, _⟩ => ?_
  obtain ⟨x, hx, _⟩ := isSelected_iff.1 hselected
  rw [hnone] at hx
  cases hx

end

end Sys2Proof.Machine


namespace Sys2Proof.Machine

/-! ## What the owner of a row found DAMAGED does (11.1) -/

section
variable {s : State} {mapped : List (Fin 38)}

theorem raisePending_settingsFault (held : Option LockoutCause) :
    raisePending .settingsFault held = some .settingsFault := by
  cases held with
  | none => rfl
  | some c => cases c <;> rfl

theorem setPending_settingsFault (i : Fin 8) (s : State) : setPending i .settingsFault s =
    s.updStep i fun x => { x with lockoutPending := some .settingsFault } :=
  congrArg (State.updStep i · s) (funext fun x => by rw [raisePending_settingsFault])

theorem settingsFault_stands {i : Fin 8} (h : s.stepState i = .withdrawn ∨ s.stepState i = .lockout) :
    settingsFault i s = s := by
  unfold settingsFault
  rcases h with h | h <;> rw [h]

theorem settingsFault_withdraws {i : Fin 8}
    (h : s.stepState i = .unresolved ∨ s.stepState i = .cooling ∨ s.stepState i = .ready) :
    settingsFault i s = moveStep i .withdrawn .settingsFault s := by
  unfold settingsFault
  rcases h with h | h | h <;> rw [h]

theorem settingsFault_trips {i : Fin 8}
    (h : s.stepState i = .inService ∨ s.stepState i = .closing ∨ s.stepState i = .opening) :
    settingsFault i s = hand (.commandRequest { unit := stepUnit i, kind := .opn, cls := .trip, cause := .settingsFault })
      (s.updStep i fun x => { x with lockoutPending := some .settingsFault }) := by
  unfold settingsFault
  rw [← setPending_settingsFault]
  rcases h with h | h | h <;> rw [h]

theorem settingsFault_failed {i : Fin 8} (h : s.stepState i = .failed) :
    settingsFault i s = s.updStep i fun x => { x with lockoutPending := some .settingsFault } := by
  unfold settingsFault
  rw [h, ← setPending_settingsFault]

/-- R42: an element ceases to exist, with the event of its return to OFF when it stood. -/
theorem removeElement_eq (i : Fin 15) (s : State) (k : Fin 6) : removeElement i s k =
    if ((s.harmonic.elements[k][i]).map Element.standing).getD false then
      logEvent .harmonicAlarmOff (.input ⟨k.val, by omega⟩) (some (if i.val = 14 then 0 else i.val + 2)) (setElement k i none s)
    else setElement k i none s := by
  unfold removeElement logElement
  rw [← limitNumber_eq i]
  cases ((s.harmonic.elements[k][i]).map Element.standing).getD false <;> rfl

theorem yardFoundDamaged_eq (s : State) : yardFoundDamaged s =
    let v := if s.switching.control = .manual then s else withdrawAuto .mode
      { s with switching := { s.switching with
          control := .manual, high := .stopped, low := .stopped, expiryHeld := none, settle := none } }
    { v with switching := { v.switching with restore := none } } := by
  unfold yardFoundDamaged
  by_cases h : s.switching.control = .manual
  · rw [forceManual_self h, if_pos h]
    rfl
  · rw [forceManual_forces h, if_neg h]
    rfl

/-- R147: a unit that was SILENT already stays so. -/
theorem updUnit_silent {u : Fin 9} (h : s.commands[u].supervision ≠ .alive) :
    (s.updUnit u fun x => { x with learned := none }) =
      s.updUnit u fun x => { x with supervision := .silent, learned := none } := by
  refine State.updUnit_congr ?_
  have hsilent : s.commands[u].supervision = .silent := by
    cases hs : s.commands[u].supervision with
    | alive => exact absurd hs h
    | silent => rfl
  rw [← hsilent]

theorem unitFoundDamaged_eq (u : Fin 9) (s : State) :
    let x := s.commands[u]
    let forced : CmdOutcome := if x.context.kind = some .opn ∧ x.position = some .opened then .done else .unanswered
    let ended : State :=
      if x.context.state = .sending ∨ x.context.state = .awaitingMove then endCommand u forced s else s
    let silent : State := ended.updUnit u fun y => { y with supervision := .silent, learned := none }
    let told : State :=
      if ended.commands[u].supervision = .alive then
        match unitStep u with
        | some i => hand (.unitSupervisionNotice i .silent) (logEvent .unitSilent (.unit u) none silent)
        | none => logEvent .unitSilent (.unit u) none silent
      else silent
    unitFoundDamaged u s = told.updUnit u fun y => { y with timer := none } := by
  intro x forced ended silent told
  have hended : forceEnd u s = ended := if_congr inFlight_iff rfl rfl
  have htold : (if ended.commands[u].supervision = .alive then goSilent u ended
      else ended.updUnit u fun x => { x with learned := none }) = told := by
    by_cases h : ended.commands[u].supervision = .alive
    · simp only [told, if_pos h]
      rfl
    · simp only [told, if_neg h]
      exact updUnit_silent h
  unfold unitFoundDamaged
  dsimp only
  rw [hended, htold]

/-- R14, R21: an input becomes UNMAPPED through damage. -/
theorem unmapInput_eq (s : State) (m : Fin 38) : unmapInput s m =
    withdrawInput m (handNotice m (s.updInput m fun x =>
      { x with fill := .unmapped, windows := x.windows.map fun w => if w.state = .filling then Window.empty else w })) := rfl

theorem abandonNull_stepState (i j : Fin 8) (s : State) : (abandonNull i s).stepState j = s.stepState j := by
  have hsup := (abandonNull_sameBut i s).same .supervisor (by simp)
  exact congrArg (fun v : SupervisorState => v.steps[j].state) hsup

end

/-! ## Windows withdrawn (R21) -/

theorem withdrawWindow_eq (m : Fin 38) (w : Fin 2) (u : State) : withdrawWindow m u w =
    let x := u.window m w
    let gone := (u.updInput m fun y => { y with windows := y.windows.set w Window.empty })
    match x.state with
    | .queued => endWait m w { gone with engine := { u.engine with queue := u.engine.queue.erase m } }
    | .computing _ => endWait m w (u.updInput m fun y =>
        { y with windows := y.windows.set w { x with state := .computing true } })
    | _ => u := by
  unfold withdrawWindow
  dsimp only
  cases (u.window m w).state <;> rfl

end Sys2Proof.Machine


namespace Sys2Proof.Machine

/-! ## The scrubber and the STORE (R166, R167) -/

section
variable {s : State} {n : Nat}

theorem scrubLeft_readKept (n : Nat) : ReadKept fun m => m.scrubLeft = n :=
  ⟨fun _ _ _ h => h, fun _ _ _ h => h, fun _ _ h => h⟩

theorem scrub_eq (before after : List Strike) (s : State) : scrub before after s =
    strikeRows after (readRows allRows (strikeRows before { s with memory := { s.memory with scrubLeft := 10000 } })) := rfl

theorem strikeRows_scrubLeft (xs : List Strike) (s : State) : (strikeRows xs s).memory.scrubLeft = s.memory.scrubLeft := rfl

theorem strikeRows_nil (s : State) : strikeRows [] s = s := rfl

/-- R166: a pass reads every row and leaves no error behind it; the next pass is 10 s away. -/
theorem scrub_memory (before after : List Strike) (s t : State) :
    (noteChange t (scrub before after s)).memory.scrubLeft = Config.scrubInterval ∧
    (after = [] → Intact (noteChange t (scrub before after s))) := by
  have hkept := scrubLeft_readKept Config.scrubInterval
  have hscrub : (scrub before after s).memory.scrubLeft = Config.scrubInterval := by
    unfold scrub
    rw [strikeRows_scrubLeft]
    refine hkept.readRows ?_
    rw [strikeRows_scrubLeft]
    rfl
  refine ⟨hkept.noteChange (before := t) hscrub, fun hafter => Intact.noteChange ?_⟩
  unfold scrub
  rw [hafter, strikeRows_nil]
  exact readRows_intact_after _

theorem noteChange_memory (h : Intact s) (before : State) : (noteChange before s).memory = s.memory :=
  (noteChange_whole (h .link (mem_allRows .link))).same .memory (by simp)

theorem storeWorks_idle (h : s.memory.storing = false) (rows : Nat) (verified : Option Bool) :
    storeWorks rows verified s = s := by
  unfold storeWorks
  rw [if_neg (by simp [h])]

/-- R167: how far the store has come once it has copied its next rows. -/
theorem copyRows_copied (n : Nat) (s : State) :
    (copyRows n s).memory.copied = s.memory.copied + ((allRows.drop s.memory.copied).take n).length := by
  unfold copyRows
  generalize (allRows.drop s.memory.copied).take n = rs
  induction rs generalizing s with
  | nil => rfl
  | cons r rs ih =>
    have hread : (readRow s r).memory.copied = s.memory.copied := (readRow_moves (s₀ := s) .refl).sameStore.copied
    rw [List.foldl_cons, ih, copyToImage, State.updMemory_memory]
    dsimp only
    rw [hread, List.length_cons]
    omega

theorem allRows_length : allRows.length = 97 := by simp [allRows]

/-- R167: the store has copied its last row once its next rows reach behind the 97th. -/
theorem copyRows_complete_iff (n : Nat) (s : State) :
    allRows.length ≤ (copyRows n s).memory.copied ↔ 97 ≤ s.memory.copied + n := by
  rw [copyRows_copied, List.length_take, List.length_drop, allRows_length]
  omega

end

end Sys2Proof.Machine


namespace Sys2Proof.Machine

section
variable {s : State}

theorem storeWorks_copies {rows : Nat} {verified : Option Bool} (hs : s.memory.storing = true)
    (h : verified = none ∨ s.memory.copied + rows < 97) : storeWorks rows verified s = copyRows rows s := by
  unfold storeWorks
  rw [if_pos hs]
  dsimp only
  split
  next done =>
    have hopen : s.memory.copied + rows < 97 := h.resolve_left nofun
    exact if_neg fun hdone => absurd ((copyRows_complete_iff rows s).1 hdone) (by omega)
  next => rfl

theorem storeWorks_ends {rows : Nat} {done : Bool} (hs : s.memory.storing = true) (h : 97 ≤ s.memory.copied + rows) :
    storeWorks rows (some done) s = endStore done (copyRows rows s) := by
  unfold storeWorks
  rw [if_pos hs]
  exact if_pos ((copyRows_complete_iff rows s).2 h)

theorem taking_notRunning (h : s.phase ≠ .running) (c : Instr) (uses : State → List RowRef) (body : State → State) :
    taking c uses body s = s.dropMail c := by
  cases hp : s.phase with
  | running => exact absurd hp h
  | inReset k => exact taking_inReset hp c uses body

theorem Intact.endStore (h : Intact s) (done : Bool) : Intact (endStore done s) := h

theorem Intact.copyRows (h : Intact s) (n : Nat) : Intact (copyRows n s) := by
  rw [copyRows_intact h]
  exact h

end

theorem mapAt_eq (t : Tables) (f : {α : Type} → Held α → Held α) :
    (∀ i, t.mapAt (.stream i) f = { t with stream := t.stream.set i (f t.stream[i]) }) ∧
    (∀ i, t.mapAt (.input i) f = { t with input := t.input.set i (f t.input[i]) }) ∧
    (∀ i, t.mapAt (.step i) f = { t with step := t.step.set i (f t.step[i]) }) ∧
    (∀ i, t.mapAt (.harmonic i) f = { t with harmonic := t.harmonic.set i (f t.harmonic[i]) }) ∧
    (∀ i, t.mapAt (.resonance i) f = { t with resonance := t.resonance.set i (f t.resonance[i]) }) ∧
    t.mapAt .yard f = { t with yard := f t.yard } ∧
    (∀ i, t.mapAt (.unit i) f = { t with unit := t.unit.set i (f t.unit[i]) }) ∧
    t.mapAt .link f = { t with link := f t.link } :=
  ⟨fun _ => rfl, fun _ => rfl, fun _ => rfl, fun _ => rfl, fun _ => rfl, rfl, fun _ => rfl, rfl⟩

theorem copyRow_eq (a b : Tables) :
    (∀ i, a.copyRow b (.stream i) = { b with stream := b.stream.set i a.stream[i] }) ∧
    (∀ i, a.copyRow b (.input i) = { b with input := b.input.set i a.input[i] }) ∧
    (∀ i, a.copyRow b (.step i) = { b with step := b.step.set i a.step[i] }) ∧
    (∀ i, a.copyRow b (.harmonic i) = { b with harmonic := b.harmonic.set i a.harmonic[i] }) ∧
    (∀ i, a.copyRow b (.resonance i) = { b with resonance := b.resonance.set i a.resonance[i] }) ∧
    a.copyRow b .yard = { b with yard := a.yard } ∧
    (∀ i, a.copyRow b (.unit i) = { b with unit := b.unit.set i a.unit[i] }) ∧
    a.copyRow b .link = { b with link := a.link } :=
  ⟨fun _ => rfl, fun _ => rfl, fun _ => rfl, fun _ => rfl, fun _ => rfl, rfl, fun _ => rfl, rfl⟩

/-- R166: a pass of the scrubber. -/
theorem scrubPass_acts (before after : List Strike) (s : State) :
    (s.phase = .running → exec (.scrubPass before after) s = .next (noteChange (s.dropMail (.scrubPass before after))
      (scrub before after (s.dropMail (.scrubPass before after))))) ∧
    (s.phase ≠ .running → exec (.scrubPass before after) s = .next (s.dropMail (.scrubPass before after))) :=
  ⟨fun h => congrArg Host.Outcome.next (taking_noRows h _ _), fun h => congrArg Host.Outcome.next (taking_notRunning h _ _ _)⟩

/-- R167: the work of a STORE. -/
theorem storeCompletion_acts (rows : Nat) (verified : Option Bool) (s : State) :
    (s.phase = .running → exec (.storeCompletion rows verified) s =
      .next (noteChange (s.dropMail (.storeCompletion rows verified))
        (storeWorks rows verified (s.dropMail (.storeCompletion rows verified))))) ∧
    (s.phase ≠ .running → exec (.storeCompletion rows verified) s = .next (s.dropMail (.storeCompletion rows verified))) :=
  ⟨fun h => congrArg Host.Outcome.next (taking_noRows h _ _), fun h => congrArg Host.Outcome.next (taking_notRunning h _ _ _)⟩

/-- R167: with no error to find, the store's next rows are copied as they stand. -/
theorem storeCompletion_memory {rows : Nat} {verified : Option Bool} {s : State} (hs : Ready s)
    (hstoring : s.memory.storing = true) :
    let m := s.memory
    let next := (allRows.drop m.copied).take rows
    let copied : MemoryState :=
      { m with
        copied := m.copied + next.length
        image := if next = [] then m.image
          else some (next.foldl (fun d r => m.tables.copyRow d r) (m.image.getD Tables.defaults)) }
    ∃ t, exec (.storeCompletion rows verified) s = .next t ∧
      (verified = none ∨ m.copied + rows < 97 → t.memory = copied) ∧
      (∀ done, verified = some done → 97 ≤ m.copied + rows →
        t.memory = { copied with storing := false, copied := 0, imageValid := done, storeInvalid := !done }) := by
  intro m next copied
  have hcopied : (copyRows rows (s.dropMail (.storeCompletion rows verified))).memory = copied :=
    congrArg State.memory (copyRows_intact (s := s.dropMail (.storeCompletion rows verified)) hs.2 rows)
  have hintact : Intact (copyRows rows (s.dropMail (.storeCompletion rows verified))) :=
    Intact.copyRows (s := s.dropMail _) hs.2 rows
  refine ⟨_, (storeCompletion_acts rows verified s).1 hs.1, fun h => ?_, fun done hdone h => ?_⟩
  · rw [storeWorks_copies (s := s.dropMail _) hstoring h, noteChange_memory hintact, hcopied]
  · subst hdone
    rw [storeWorks_ends (s := s.dropMail _) hstoring h, noteChange_memory (hintact.endStore done)]
    show { (copyRows rows _).memory with storing := false, copied := 0, imageValid := done, storeInvalid := !done } = _
    rw [hcopied]

end Sys2Proof.Machine


namespace Sys2Proof.Machine

/-! ## Reads of rows, the owners' acts, the scrubber and the STORE -/

section
variable {s : State} {mapped : List (Fin 38)}

theorem ownerActs_stepRow (i : Fin 8) (s : State) (mapped : List (Fin 38)) :
    let v := abandonNull i s
    let pending := v.updStep i fun x => { x with lockoutPending := some .settingsFault }
    (s.stepState i = .withdrawn ∨ s.stepState i = .lockout → ownerActs (.step i) mapped s = v) ∧
    (s.stepState i = .unresolved ∨ s.stepState i = .cooling ∨ s.stepState i = .ready →
      ownerActs (.step i) mapped s = moveStep i .withdrawn .settingsFault v) ∧
    (s.stepState i = .inService ∨ s.stepState i = .closing ∨ s.stepState i = .opening →
      ownerActs (.step i) mapped s =
        hand (.commandRequest { unit := stepUnit i, kind := .opn, cls := .trip, cause := .settingsFault }) pending) ∧
    (s.stepState i = .failed → ownerActs (.step i) mapped s = pending) := by
  intro v pending
  have hstate : v.stepState i = s.stepState i := abandonNull_stepState i i s
  rw [← hstate]
  exact ⟨settingsFault_stands, settingsFault_withdraws, settingsFault_trips, settingsFault_failed⟩

theorem ownerActs_harmonicRow (i : Fin 15) (s : State) (mapped : List (Fin 38)) :
    let order : Nat := if i.val = 14 then 0 else i.val + 2
    let removed := (List.finRange 6).foldl (fun u k =>
      let v := setElement k i none u
      if ((u.harmonic.elements[k][i]).map Element.standing).getD false then
        logEvent .harmonicAlarmOff (.input ⟨k.val, by omega⟩) (some order) v
      else v) s
    ownerActs (.harmonic i) mapped s = reformNextCount
      (if h : i.val < 14 then
        { removed with harmonic := { removed.harmonic with sustain := removed.harmonic.sustain.set i.val 0 } }
       else removed) := by
  intro order removed
  have hremoved : removeElements i s = removed :=
    congrArg (fun f => (List.finRange 6).foldl f s) (funext fun u => funext fun k => removeElement_eq i u k)
  unfold ownerActs
  dsimp only
  unfold harmonicFoundDamaged
  rw [hremoved]
  rfl

theorem ownerActs_streamRow (i : Fin 16) (s : State) (mapped : List (Fin 38)) : ownerActs (.stream i) mapped s =
    mapped.foldl (fun u m => withdrawInput m (handNotice m (u.updInput m fun x =>
      { x with fill := .unmapped, windows := x.windows.map fun w => if w.state = .filling then Window.empty else w })))
      (s.updStream i fun x =>
        { x with
          status := .idle, loss := none, lastCounter := none, lastValues := Vector.replicate 12 none, gapCount := 0 }) := by
  unfold ownerActs
  dsimp only
  unfold streamFoundDamaged
  exact congrArg (fun f => mapped.foldl f (s.updStream i StreamLive.endStream)) (funext fun u => funext (unmapInput_eq u))

theorem ownerActs_inputRow (m : Fin 38) (s : State) (mapped : List (Fin 38)) : ownerActs (.input m) mapped s =
    withdrawInput m (handNotice m (s.updInput m fun x =>
      { x with fill := .unmapped, windows := x.windows.map fun w => if w.state = .filling then Window.empty else w })) := by
  unfold ownerActs
  dsimp only
  unfold inputFoundDamaged
  exact unmapInput_eq s m

theorem ownerActs_resonanceRow (c : Fin 9) (s : State) (mapped : List (Fin 38)) :
    ownerActs (.resonance c) mapped s = reformNextCount s := by
  unfold ownerActs
  rfl

theorem ownerActs_yardRow (s : State) (mapped : List (Fin 38)) : ownerActs .yard mapped s =
    let v := if s.switching.control = .manual then s else withdrawAuto .mode
      { s with switching := { s.switching with
          control := .manual, high := .stopped, low := .stopped, expiryHeld := none, settle := none } }
    { v with switching := { v.switching with restore := none } } := by
  unfold ownerActs
  exact yardFoundDamaged_eq s

theorem ownerActs_unitRow (u : Fin 9) (s : State) (mapped : List (Fin 38)) :
    let x := s.commands[u]
    let forced : CmdOutcome := if x.context.kind = some .opn ∧ x.position = some .opened then .done else .unanswered
    let ended : State :=
      if x.context.state = .sending ∨ x.context.state = .awaitingMove then endCommand u forced s else s
    let silent : State := ended.updUnit u fun y => { y with supervision := .silent, learned := none }
    let told : State :=
      if ended.commands[u].supervision = .alive then
        match unitStep u with
        | some i => hand (.unitSupervisionNotice i .silent) (logEvent .unitSilent (.unit u) none silent)
        | none => logEvent .unitSilent (.unit u) none silent
      else silent
    ownerActs (.unit u) mapped s = told.updUnit u fun y => { y with timer := none } := by
  unfold ownerActs
  exact unitFoundDamaged_eq u s

theorem ownerActs_linkRow (s : State) (mapped : List (Fin 38)) : ownerActs .link mapped s = s := by
  unfold ownerActs
  rfl

end

/-- Settles O52. -/
theorem rowReadsAndStore : Obligations.RowReadsAndStore := by
  refine ⟨?_, ?_, ?_, ?_, ?_, mapAt_eq, fun _ _ => ⟨rfl, rfl⟩, ?_, ?_, ?_, ?_, ?_, copyRow_eq, ?_⟩
  · intro r s m mapped
    refine ⟨readRow_whole, fun hd hu => readRow_single hd hu, fun hd hu hothers => ?_⟩
    intro u
    have hmapped : rowInputs r s = mapped := by cases r <;> rfl
    rw [readRow_double_alone hd hu hothers, hmapped]
    exact markChange_eq _ _
  · intro uses s m whole
    exact ⟨fun h => readUsed_whole fun r hr => flawed_eq_false_iff.2 (h r hr), fun _ _ _ => readUsed_first⟩
  · intro s hphase acts
    exact ⟨congrArg Host.Outcome.next (taking_running hphase _ _ _),
      fun r => congrArg Host.Outcome.next (taking_running hphase _ _ _),
      fun i => congrArg Host.Outcome.next (taking_running hphase _ _ _)⟩
  · intro f s s₀ hphase hstream hsequence
    exact congrArg Host.Outcome.next (taking_whole hphase (sampleUses_whole (s := s₀) hstream hsequence) _)
  · intro r s s₀ hphase hselection hqueue
    have huses : controlReportUses r s₀ = [] := controlReportUses_none hselection hqueue
    exact congrArg Host.Outcome.next (taking_whole hphase (fun x hx => by rw [huses] at hx; cases hx) _)
  · intro mapped s unmap
    refine ⟨fun i => ownerActs_streamRow i s mapped, fun m => ownerActs_inputRow m s mapped,
      fun i => ownerActs_stepRow i s mapped, ?_,
      fun c => ownerActs_resonanceRow c s mapped, ownerActs_yardRow s mapped, fun u => ownerActs_unitRow u s mapped,
      ownerActs_linkRow s mapped⟩
    intro i order removed
    have h := ownerActs_harmonicRow i s mapped
    dsimp only at h
    dsimp only [removed, order]
    rw [h]
  · intro m s withdrawn
    have heq (w : Fin 2) (u : State) : withdrawWindow m u w = withdrawn w u := withdrawWindow_eq m w u
    exact (heq 1 _).trans (congrArg (withdrawn 1) (heq 0 s))
  · intro i s
    exact ⟨fun c => abandonNull_serving, abandonNull_other⟩
  · intro c s
    refine ⟨withdrawAuto_none, fun before e after hqueue he hbefore => ?_⟩
    rw [withdrawAuto_some hqueue he hbefore]
    cases e.kind <;> rfl
  · intro before after s c s₀
    obtain ⟨hruns, hstands⟩ := scrubPass_acts before after s
    obtain ⟨hleft, hintact⟩ := scrub_memory before after (s.dropMail (.scrubPass before after))
      (s.dropMail (.scrubPass before after))
    have hnext : Config.scrubInterval = 10000 := rfl
    rw [hnext] at hleft
    rw [scrub_eq] at hruns hleft hintact
    refine ⟨fun hphase => ⟨hruns hphase, _, hruns hphase, hleft, hintact⟩, fun hs hbefore => ?_, hstands⟩
    subst hbefore
    rw [hruns hs.1, strikeRows_nil]
    exact congrArg (fun u => Host.Outcome.next (noteChange s₀ (strikeRows after u)))
      (readRows_intact (s := s₀.updMemory fun m => { m with scrubLeft := 10000 }) hs.2 allRows)
  · intro rows verified s c s₀ m next copies ended ending
    obtain ⟨hruns, hstands⟩ := storeCompletion_acts rows verified s
    refine ⟨?_, fun hphase hstoring => ⟨fun h => ?_, fun done hdone h => ?_⟩, fun hs hstoring => storeCompletion_memory hs hstoring⟩
    · rintro (hphase | hstoring)
      · exact hstands hphase
      · by_cases hphase : s.phase = .running
        · rw [hruns hphase, storeWorks_idle (s := s₀) hstoring, noteChange_self]
        · exact hstands hphase
    · rw [hruns hphase, storeWorks_copies (s := s₀) hstoring h]
      rfl
    · have hends : storeWorks rows verified s₀ = endStore done (copyRows rows s₀) := by
        rw [hdone]
        exact storeWorks_ends (s := s₀) hstoring h
      rw [hruns hphase, hends]
      rfl

end Sys2Proof.Machine


namespace Sys2Proof.Machine

/-! ## The engine invariant, input by input (R15, R16, R19 to R22)

`Flow` is what the invariant speaks of; an operation on one input is judged on that input alone. -/

/-- The queue, the computation, the pending notices and the inputs. -/
structure Flow where
  queue : List (Fin 38)
  computing : Option (Fin 38 × Fin 2)
  notices : Vector (Option (Vector Bool 2)) 38
  inputs : Vector InputLive 38

def State.flow (s : State) : Flow where
  queue := s.engine.queue
  computing := s.engine.computing
  notices := s.engine.notices
  inputs := s.acceptance.inputs

/-- A pending notice waits for at least one window, and only for such as stand ahead of it (R22). -/
def NoticeFine (notice : Option (Vector Bool 2)) (x : InputLive) : Prop :=
  ∀ waits, notice = some waits → (∃ w : Fin 2, waits[w] = true) ∧
    ∀ w : Fin 2, waits[w] = true → standsAhead x.windows[w] = true

/-- The windows of one input: whether it is queued, which of its windows is computed, and whether it collects. -/
structure WindowsFine (queued : Prop) (computes : Fin 2 → Prop) (x : InputLive) : Prop where
  queued : queued ↔ ∃ w : Fin 2, x.windows[w].state = .queued
  computing : ∀ w, computes w ↔ ∃ b, x.windows[w].state = .computing b
  collecting : x.fill = .collecting ↔ ∃ w : Fin 2, x.windows[w].state = .filling
  once : ∀ v w : Fin 2, x.windows[v].state = x.windows[w].state →
    x.windows[v].state = .queued ∨ x.windows[v].state = .filling → v = w

/-- The windows of input `m` agree with the queue and the computation. -/
def Flow.InputFine (f : Flow) (m : Fin 38) : Prop :=
  WindowsFine (m ∈ f.queue) (fun w => f.computing = some (m, w)) f.inputs[m]

/-- The invariant but for an idle engine with a queue (R20). -/
structure Flow.Loose (f : Flow) : Prop where
  nodup : f.queue.Nodup
  windows : ∀ m, f.InputFine m
  notices : ∀ m : Fin 38, NoticeFine f.notices[m] f.inputs[m]

structure Flow.Fine (f : Flow) : Prop extends Flow.Loose f where
  idle : f.computing = none → f.queue = []

theorem engineOk_iff {s : State} : EngineOk s ↔
    (s.phase ≠ .running → ∀ (m : Fin 38) (w : Fin 2), (s.window m w).state = .free) ∧ s.flow.Fine := by
  constructor
  · rintro ⟨hreset, hnodup, hidle, hqueued, hcomputing, hcollecting, honce, hnotices⟩
    exact ⟨hreset, ⟨hnodup, fun m => ⟨hqueued m, hcomputing m, hcollecting m, honce m⟩, hnotices⟩, hidle⟩
  · rintro ⟨hreset, ⟨hnodup, hwindows, hnotices⟩, hidle⟩
    exact ⟨hreset, hnodup, hidle, fun m => (hwindows m).queued, fun m => (hwindows m).computing,
      fun m => (hwindows m).collecting, fun m => (hwindows m).once, hnotices⟩

/-! ### One input changes -/

/-- `g` differs from `f` in what concerns input `m` at most. -/
structure Flow.OnlyInput (m : Fin 38) (f g : Flow) : Prop where
  queue : ∀ k, k ≠ m → (k ∈ g.queue ↔ k ∈ f.queue)
  computing : ∀ k, k ≠ m → ∀ w, (g.computing = some (k, w) ↔ f.computing = some (k, w))
  notices : ∀ k : Fin 38, k ≠ m → g.notices[k] = f.notices[k]
  inputs : ∀ k : Fin 38, k ≠ m → g.inputs[k] = f.inputs[k]

theorem Flow.Loose.update {m : Fin 38} {f g : Flow} (h : f.Loose) (honly : f.OnlyInput m g) (hnodup : g.queue.Nodup)
    (hwindows : g.InputFine m) (hnotice : NoticeFine g.notices[m] g.inputs[m]) : g.Loose where
  nodup := hnodup
  windows k := by
    by_cases hk : k = m
    · exact hk ▸ hwindows
    · obtain ⟨hqueued, hcomputing, hcollecting, honce⟩ := h.windows k
      rw [Flow.InputFine, honly.inputs k hk]
      exact ⟨(honly.queue k hk).trans hqueued, fun w => (honly.computing k hk w).trans (hcomputing w), hcollecting, honce⟩
  notices k := by
    by_cases hk : k = m
    · exact hk ▸ hnotice
    · rw [honly.notices k hk, honly.inputs k hk]
      exact h.notices k

theorem set_same {α : Type} {n : Nat} (v : Vector α n) (i : Fin n) (x : α) : (v.set i x)[i] = x :=
  Vector.getElem_set_self i.isLt

theorem set_other {α : Type} {n : Nat} (v : Vector α n) {i j : Fin n} (h : j ≠ i) (x : α) : (v.set i x)[j] = v[j] :=
  Vector.getElem_set_ne i.isLt j.isLt fun hij => h (Fin.ext hij.symm)

/-! ### Two windows -/

theorem otherWindow_ne (w : Fin 2) : otherWindow w ≠ w := by revert w; decide

theorem forall_window {p : Fin 2 → Prop} (w : Fin 2) : (∀ v, p v) ↔ p w ∧ p (otherWindow w) := by
  have hcase (w : Fin 2) : w = 0 ∨ w = 1 := by revert w; decide
  rw [Fin.forall_fin_two]
  rcases hcase w with rfl | rfl
  · exact Iff.rfl
  · exact and_comm

theorem exists_window {p : Fin 2 → Prop} (w : Fin 2) : (∃ v, p v) ↔ p w ∨ p (otherWindow w) := by
  have hcase (w : Fin 2) : w = 0 ∨ w = 1 := by revert w; decide
  rw [Fin.exists_fin_two]
  rcases hcase w with rfl | rfl
  · exact Iff.rfl
  · exact or_comm

/-- What the invariant asks of the states `a` and `b` of the two windows of an input: `queued` that it is in the queue,
`first` and `second` that the window is the one computed, `collecting` that its fill state is COLLECTING. -/
def PairFine (queued first second collecting : Prop) (a b : WindowState) : Prop :=
  (queued ↔ a = .queued ∨ b = .queued) ∧ (first ↔ ∃ d, a = .computing d) ∧ (second ↔ ∃ d, b = .computing d) ∧
    (collecting ↔ a = .filling ∨ b = .filling) ∧ (a = b → a ≠ .queued ∧ a ≠ .filling)

/-- The windows of an input, told of a window and the other one. -/
theorem windowsFine_iff {queued : Prop} {computes : Fin 2 → Prop} {x : InputLive} (w : Fin 2) :
    WindowsFine queued computes x ↔ PairFine queued (computes w) (computes (otherWindow w)) (x.fill = .collecting)
      x.windows[w].state x.windows[otherWindow w].state := by
  have hne := otherWindow_ne w
  constructor
  · rintro ⟨hqueued, hcomputing, hcollecting, honce⟩
    exact ⟨hqueued.trans (exists_window w), hcomputing w, hcomputing _, hcollecting.trans (exists_window w),
      fun heq => ⟨fun hq => hne (honce _ _ heq (.inl hq)).symm, fun hf => hne (honce _ _ heq (.inr hf)).symm⟩⟩
  · rintro ⟨hqueued, hw, hother, hcollecting, honce⟩
    have hboth : ¬ (x.windows[w].state = x.windows[otherWindow w].state ∧
        (x.windows[w].state = .queued ∨ x.windows[w].state = .filling)) :=
      fun ⟨heq, hstate⟩ => hstate.elim (honce heq).1 (honce heq).2
    refine ⟨hqueued.trans (exists_window (p := fun v => x.windows[v].state = .queued) w).symm,
      (forall_window w).2 ⟨hw, hother⟩,
      hcollecting.trans (exists_window (p := fun v => x.windows[v].state = .filling) w).symm,
      (forall_window w).2 ⟨(forall_window w).2 ⟨fun _ _ => rfl, fun heq hstate => absurd ⟨heq, hstate⟩ hboth⟩,
        (forall_window w).2 ⟨fun heq hstate => absurd ⟨heq.symm, heq ▸ hstate⟩ hboth, fun _ _ => rfl⟩⟩⟩

/-! ### What can become of the two windows -/

section
variable {queued first second collecting : Prop} {a b : WindowState}

theorem PairFine.congr {queued' first' second' collecting' : Prop} (h : PairFine queued first second collecting a b)
    (hqueued : queued ↔ queued') (hfirst : first ↔ first') (hsecond : second ↔ second') (hcollecting : collecting ↔ collecting') :
    PairFine queued' first' second' collecting' a b := by
  rwa [← propext hqueued, ← propext hfirst, ← propext hsecond, ← propext hcollecting]

/-- The FILLING window of an input is discarded. -/
def WindowState.discarded (a : WindowState) : WindowState := if a = .filling then .free else a

theorem PairFine.discard (h : PairFine queued first second collecting a b) :
    PairFine queued first second False a.discarded b.discarded := by
  unfold PairFine WindowState.discarded at *
  cases a <;> cases b <;> simp_all

/-- R21: a QUEUED window leaves the queue. -/
theorem PairFine.withdraw (h : PairFine queued first second collecting .queued b) :
    PairFine False first second collecting .free b := by
  unfold PairFine at *
  cases b <;> simp_all

/-- R21: a COMPUTING window is marked withdrawn. -/
theorem PairFine.mark {d : Bool} (h : PairFine queued first second collecting (.computing d) b) :
    PairFine queued first second collecting (.computing true) b := by
  unfold PairFine at *
  cases b <;> simp_all

/-- R15: a FREE window starts to fill. -/
theorem PairFine.fill (h : PairFine queued first second collecting .free b) (hb : b ≠ .filling) :
    PairFine queued first second True .filling b := by
  unfold PairFine at *
  cases b <;> simp_all

/-- R16: the window is complete, and the FREE one fills. -/
theorem PairFine.completeFree (h : PairFine queued first second collecting .filling .free) :
    PairFine True first second collecting .queued .filling := by
  unfold PairFine at *
  simp_all

/-- R16: the window is complete, and the QUEUED one is discarded and fills. -/
theorem PairFine.completeQueued (h : PairFine queued first second collecting .filling .queued) :
    PairFine queued first second collecting .queued .filling := by
  unfold PairFine at *
  simp_all

/-- R16: the window is complete while the other one is computed. -/
theorem PairFine.completeComputing {d : Bool} (h : PairFine queued first second collecting .filling (.computing d)) :
    PairFine True first second False .queued (.computing d) := by
  unfold PairFine at *
  simp_all

/-- R20: the engine takes the QUEUED window. -/
theorem PairFine.take (h : PairFine queued False False collecting .queued b) :
    PairFine False True False collecting (.computing false) b := by
  unfold PairFine at *
  cases b <;> simp_all

/-- R31: the computation of the window ends. -/
theorem PairFine.free {d : Bool} (h : PairFine queued True False collecting (.computing d) b) :
    PairFine queued False False collecting .free b := by
  unfold PairFine at *
  cases b <;> simp_all

end

end Sys2Proof.Machine


namespace Sys2Proof.Machine

/-! ## Notices and publications in the flow (R22, R31, R32) -/

theorem toList_any_iff (v : Vector Bool 2) : v.toList.any id = true ↔ ∃ w : Fin 2, v[w] = true := by
  simp only [List.any_eq_true, id, Vector.mem_toList_iff, Vector.mem_iff_getElem]
  constructor
  · rintro ⟨_, ⟨i, hi, rfl⟩, h⟩
    exact ⟨⟨i, hi⟩, h⟩
  · rintro ⟨w, h⟩
    exact ⟨_, ⟨w.val, w.isLt, rfl⟩, h⟩

/-- A notice that still waits for a window; one that waits for none is published and gone. -/
def stillWaits (waits : Vector Bool 2) : Option (Vector Bool 2) := if waits.toList.any id then some waits else none

/-- What is left of a notice once window `w` has ended its part. -/
def dropWait (notice : Option (Vector Bool 2)) (w : Fin 2) : Option (Vector Bool 2) :=
  notice.bind fun waits => stillWaits (waits.set w false)

/-- What a notice handed now waits for, merged into a pending one. -/
def joinWaits (notice : Option (Vector Bool 2)) (x : InputLive) : Option (Vector Bool 2) :=
  stillWaits (Vector.ofFn fun w : Fin 2 => (notice.getD (Vector.replicate 2 false))[w] || standsAhead x.windows[w])

/-- `f` with another notice of input `m`. -/
def Flow.setNotice (f : Flow) (m : Fin 38) (notice : Option (Vector Bool 2)) : Flow :=
  { f with notices := f.notices.set m notice }

section
variable {s t : State} {m : Fin 38}

theorem flow_eq (hengine : t.engine.queue = s.engine.queue ∧ t.engine.computing = s.engine.computing ∧
    t.engine.notices = s.engine.notices) (hinputs : t.acceptance.inputs = s.acceptance.inputs) : t.flow = s.flow := by
  obtain ⟨hqueue, hcomputing, hnotices⟩ := hengine
  unfold State.flow
  rw [hqueue, hcomputing, hnotices, hinputs]

theorem SameBut.flow_eq {ps : List Part} (h : SameBut ps s t) (he : Part.engine ∉ ps) (ha : Part.acceptance ∉ ps) :
    t.flow = s.flow := by
  have hengine : t.engine = s.engine := h.same .engine he
  have hacceptance : t.acceptance = s.acceptance := h.same .acceptance ha
  unfold State.flow
  rw [hengine, hacceptance]

theorem publish_engine (m : Fin 38) (record : ResultRecord) (s : State) :
    (publish m record s).engine = { s.engine with results := s.engine.results.set m record } :=
  ((markChange_sameBut _ _).same .engine (by simp)).trans ((actOnPublication_sameBut m _).same .engine (by simp))

theorem publish_flow (record : ResultRecord) : (publish m record s).flow = s.flow := by
  have hacceptance : (publish m record s).acceptance = s.acceptance :=
    (publish_sameBut m record s).same .acceptance (by simp)
  have hengine := publish_engine m record s
  unfold State.flow
  rw [hengine, hacceptance]

theorem settleNotice_flow {waits : Vector Bool 2} (h : s.engine.notices[m] = some waits) :
    (settleNotice m s).flow = s.flow.setNotice m (stillWaits waits) := by
  unfold settleNotice stillWaits
  rw [h]
  dsimp only
  split
  · have hself : s.engine.notices.set m (some waits) = s.engine.notices := by
      rw [← h]
      exact Vector.set_getElem_self m.isLt
    unfold Flow.setNotice State.flow
    rw [hself]
  · exact publish_flow _

theorem setNotice_self (x : Option (Vector Bool 2)) : (setNotice m x s).engine.notices[m] = x := set_same _ m x

theorem Flow.setNotice_setNotice (f : Flow) (x y : Option (Vector Bool 2)) :
    (f.setNotice m x).setNotice m y = f.setNotice m y := by
  unfold Flow.setNotice
  rw [Vector.set_set]

theorem endWait_flow (m : Fin 38) (w : Fin 2) (s : State) :
    (endWait m w s).flow = s.flow.setNotice m (dropWait s.flow.notices[m] w) := by
  unfold endWait dropWait
  have hnotice : s.flow.notices[m] = s.engine.notices[m] := rfl
  rw [hnotice]
  cases h : s.engine.notices[m] with
  | none =>
    have hself : s.engine.notices.set m none = s.engine.notices := by
      rw [← h]
      exact Vector.set_getElem_self m.isLt
    unfold Flow.setNotice State.flow
    dsimp only [Option.bind]
    rw [hself]
  | some waits => exact (settleNotice_flow (setNotice_self _)).trans (s.flow.setNotice_setNotice _ _)

theorem handNotice_flow (m : Fin 38) (s : State) :
    (handNotice m s).flow = s.flow.setNotice m (joinWaits s.flow.notices[m] s.flow.inputs[m]) := by
  unfold handNotice
  exact (settleNotice_flow (setNotice_self _)).trans (s.flow.setNotice_setNotice _ _)

end

/-! ### Notices stay fine -/

theorem stillWaits_eq_some {v waits : Vector Bool 2} (h : stillWaits v = some waits) : v = waits ∧ ∃ w : Fin 2, waits[w] = true := by
  unfold stillWaits at h
  split at h
  next hany =>
    obtain rfl := Option.some.inj h
    exact ⟨rfl, (toList_any_iff v).1 hany⟩
  next => cases h

/-- Once a window has ended its part, the notice waits for the other one alone. -/
theorem noticeFine_dropWait {notice : Option (Vector Bool 2)} {w : Fin 2} {x : InputLive}
    (h : ∀ waits, notice = some waits → waits[otherWindow w] = true → standsAhead x.windows[otherWindow w] = true) :
    NoticeFine (dropWait notice w) x := by
  intro waits hwaits
  unfold dropWait at hwaits
  cases hn : notice with
  | none =>
    rw [hn] at hwaits
    cases hwaits
  | some held =>
    rw [hn] at hwaits
    obtain ⟨rfl, hany⟩ := stillWaits_eq_some hwaits
    refine ⟨hany, (forall_window w).2 ⟨fun hw => ?_, fun hother => h held hn ?_⟩⟩
    · rw [set_same] at hw
      cases hw
    · rwa [set_other _ (otherWindow_ne w)] at hother

theorem noticeFine_joinWaits {notice : Option (Vector Bool 2)} {x : InputLive} (h : NoticeFine notice x) :
    NoticeFine (joinWaits notice x) x := by
  intro waits hwaits
  obtain ⟨rfl, hany⟩ := stillWaits_eq_some hwaits
  refine ⟨hany, fun w hw => ?_⟩
  rw [Fin.getElem_fin, Vector.getElem_ofFn, Bool.or_eq_true] at hw
  refine hw.elim (fun hheld => ?_) id
  cases hn : notice with
  | none =>
    rw [hn] at hheld
    simp at hheld
  | some held =>
    rw [hn] at hheld
    exact (h held hn).2 w hheld

/-- A window that does not stand ahead is waited for by no notice. -/
theorem NoticeFine.notWaited {notice : Option (Vector Bool 2)} {x : InputLive} (h : NoticeFine notice x) {w : Fin 2}
    (hw : standsAhead x.windows[w] = false) : ∀ waits, notice = some waits → waits[w] = false := by
  intro waits hn
  by_contra hwait
  rw [Bool.not_eq_false] at hwait
  rw [(h waits hn).2 w hwait] at hw
  cases hw

/-- A notice stays fine while each window that stood ahead still does. -/
theorem NoticeFine.of_ahead {notice : Option (Vector Bool 2)} {x y : InputLive} (h : NoticeFine notice x)
    (hxy : ∀ w : Fin 2, standsAhead x.windows[w] = true → standsAhead y.windows[w] = true) : NoticeFine notice y :=
  fun waits hn => ⟨(h waits hn).1, fun w hw => hxy w ((h waits hn).2 w hw)⟩

end Sys2Proof.Machine


namespace Sys2Proof.Machine

/-! ## The operations on windows keep the engine invariant (R10, R13 to R16, R19 to R22) -/

/-- What concerns input `m` replaced: its windows, its notice, its place in the queue and in the computation. -/
theorem Flow.Loose.at {f : Flow} (h : f.Loose) {m : Fin 38} {q : List (Fin 38)} {c : Option (Fin 38 × Fin 2)}
    {n : Option (Vector Bool 2)} {g : InputLive → InputLive} (hqueue : ∀ k, k ≠ m → (k ∈ q ↔ k ∈ f.queue))
    (hcomputing : ∀ k, k ≠ m → ∀ w, (c = some (k, w) ↔ f.computing = some (k, w))) (hnodup : q.Nodup)
    (hwindows : WindowsFine (m ∈ q) (fun w => c = some (m, w)) (g f.inputs[m])) (hnotice : NoticeFine n (g f.inputs[m])) :
    Flow.Loose ⟨q, c, f.notices.set m n, upd f.inputs m g⟩ := by
  have hinput : (upd f.inputs m g)[m] = g f.inputs[m] := by rw [getElem_upd, if_pos rfl]
  have hset : (f.notices.set m n)[m] = n := set_same _ m n
  refine h.update (m := m) ⟨hqueue, hcomputing, fun k hk => set_other _ hk n, fun k hk => ?_⟩ hnodup ?_ ?_
  · show (upd f.inputs m g)[k] = _
    rw [getElem_upd, if_neg (Ne.symm hk)]
  · show WindowsFine _ _ (upd f.inputs m g)[m]
    rw [hinput]
    exact hwindows
  · show NoticeFine (f.notices.set m n)[m] (upd f.inputs m g)[m]
    rw [hinput, hset]
    exact hnotice

/-- The windows of an input alone change. -/
theorem Flow.Fine.atInput {f : Flow} (h : f.Fine) {m : Fin 38} {g : InputLive → InputLive}
    (hwindows : WindowsFine (m ∈ f.queue) (fun w => f.computing = some (m, w)) (g f.inputs[m]))
    (hnotice : NoticeFine f.notices[m] (g f.inputs[m])) : Flow.Fine { f with inputs := upd f.inputs m g } := by
  have hloose := h.toLoose.at (m := m) (fun _ _ => Iff.rfl) (fun _ _ _ => Iff.rfl) h.nodup hwindows hnotice
  rw [show f.notices.set m f.notices[m] = f.notices from Vector.set_getElem_self m.isLt] at hloose
  exact ⟨hloose, h.idle⟩

section
variable {s : State} {m : Fin 38}

/-- R16: the state of a window is all that the invariant asks of it. -/
theorem Flow.Fine.sameStates {f : Flow} (h : f.Fine) {m : Fin 38} {g : InputLive → InputLive}
    (hfill : (g f.inputs[m]).fill = f.inputs[m].fill)
    (hstate : ∀ w : Fin 2, (g f.inputs[m]).windows[w].state = f.inputs[m].windows[w].state) :
    Flow.Fine { f with inputs := upd f.inputs m g } := by
  obtain ⟨hqueued, hcomputing, hcollecting, honce⟩ := h.windows m
  refine h.atInput ⟨?_, ?_, ?_, ?_⟩ ((h.notices m).of_ahead fun w hw => ?_)
  · simpa only [hstate] using hqueued
  · simpa only [hstate] using hcomputing
  · simpa only [hstate, hfill] using hcollecting
  · simpa only [hstate] using honce
  · unfold standsAhead at hw ⊢
    rwa [hstate]

theorem countOverrun_fine (h : s.flow.Fine) : (countOverrun m s).flow.Fine :=
  h.sameStates (g := fun i => { i with overruns := (i.overruns + 1) % mod16 }) rfl fun _ => rfl

theorem discardFilling_state (i : InputLive) (w : Fin 2) :
    i.discardFilling.windows[w].state = i.windows[w].state.discarded := by
  have hwindow : i.discardFilling.windows[w] = if i.windows[w].state = .filling then Window.empty else i.windows[w] :=
    Vector.getElem_map _ w.isLt
  rw [hwindow, WindowState.discarded, apply_ite Window.state]
  rfl

theorem discardTo_fine {x : FillState} (hx : x ≠ .collecting) (h : s.flow.Fine) : (discardTo x m s).flow.Fine := by
  have hstate (w : Fin 2) := discardFilling_state s.flow.inputs[m] w
  refine h.atInput (g := fun i => { i.discardFilling with fill := x }) ((windowsFine_iff 0).2 ?_)
    ((h.notices m).of_ahead fun w hw => ?_)
  · simp only [hstate]
    exact ((windowsFine_iff 0).1 (h.windows m)).discard.congr Iff.rfl Iff.rfl Iff.rfl (iff_of_false id hx)
  · unfold standsAhead at hw ⊢
    rw [hstate w]
    cases hold : s.flow.inputs[m].windows[w].state with
    | filling => rw [hold] at hw; cases hw
    | free | queued | computing => rw [hold] at hw; exact hw

theorem handNotice_fine (h : s.flow.Fine) : (handNotice m s).flow.Fine := by
  rw [handNotice_flow]
  refine ⟨h.toLoose.update (m := m) ⟨fun _ _ => Iff.rfl, fun _ _ _ => Iff.rfl, fun k hk => set_other _ hk _, fun _ _ => rfl⟩
    h.nodup (h.windows m) ?_, h.idle⟩
  show NoticeFine (s.flow.notices.set m _)[m] _
  rw [set_same]
  exact noticeFine_joinWaits (h.notices m)

theorem breakInput_fine (h : s.flow.Fine) : (breakInput m s).flow.Fine :=
  handNotice_fine (discardTo_fine (by simp) h)

/-! ### Withdrawal (R21) -/

theorem window_flow (w : Fin 2) (s : State) : s.window m w = s.flow.inputs[m].windows[w] := rfl

theorem endWait_setWindow_flow (w : Fin 2) (x : Window) (q : List (Fin 38)) (s : State) :
    (endWait m w { setWindow m w x s with engine := { s.engine with queue := q } }).flow =
      ⟨q, s.flow.computing, s.flow.notices.set m (dropWait s.flow.notices[m] w),
        upd s.flow.inputs m fun i => { i with windows := i.windows.set w x }⟩ := endWait_flow m w _

/-- With window `w` of input `m` replaced and its part in the notice ended, the notice waits for the other window alone. -/
theorem Flow.Loose.dropWait_fine {f : Flow} (h : f.Loose) (w : Fin 2) (x : Window) :
    NoticeFine (dropWait f.notices[m] w) { f.inputs[m] with windows := f.inputs[m].windows.set w x } :=
  noticeFine_dropWait fun waits hn hwait => by
    rw [set_other _ (otherWindow_ne w)]
    exact (h.notices m waits hn).2 _ hwait

theorem withdrawWindow_fine {w : Fin 2} (h : s.flow.Fine) : (withdrawWindow m s w).flow.Fine := by
  have hpair := (windowsFine_iff w).1 (h.windows m)
  have hne := otherWindow_ne w
  have hdrop (x : Window) := h.toLoose.dropWait_fine (m := m) w x
  unfold withdrawWindow
  split
  next hstate =>
    rw [window_flow] at hstate
    rw [hstate] at hpair
    dsimp only
    refine (endWait_setWindow_flow w Window.empty (s.flow.queue.erase m) s).symm ▸ ⟨h.toLoose.at (fun k hk => ?_)
      (fun _ _ _ => Iff.rfl) (h.nodup.erase m) ((windowsFine_iff w).2 ?_) (hdrop _), fun hidle => ?_⟩
    · exact List.mem_erase_of_ne hk
    · simp only [set_same, set_other _ hne]
      exact hpair.withdraw.congr (iff_of_false id h.nodup.not_mem_erase) Iff.rfl Iff.rfl Iff.rfl
    · have hqueue : s.flow.queue = [] := h.idle hidle
      show s.flow.queue.erase m = []
      rw [hqueue]
      rfl
  next b hstate =>
    rw [window_flow] at hstate
    rw [hstate] at hpair
    refine (endWait_setWindow_flow w { s.window m w with state := .computing true } s.flow.queue s).symm ▸
      ⟨h.toLoose.at (fun _ _ => Iff.rfl) (fun _ _ _ => Iff.rfl) h.nodup ((windowsFine_iff w).2 ?_) (hdrop _), h.idle⟩
    simp only [set_same, set_other _ hne]
    exact hpair.mark
  next => exact h

theorem foldl_fine {α : Type} {f : State → α → State} (hf : ∀ {s a}, s.flow.Fine → (f s a).flow.Fine) (xs : List α)
    (h : s.flow.Fine) : (xs.foldl f s).flow.Fine := by
  induction xs generalizing s with
  | nil => exact h
  | cons x xs ih => exact ih (hf h)

theorem withdrawInput_fine (h : s.flow.Fine) : (withdrawInput m s).flow.Fine := foldl_fine withdrawWindow_fine _ h

end

end Sys2Proof.Machine


namespace Sys2Proof.Machine

/-! ## The engine's queue and the window boundary keep the invariant (R16, R19, R20, R31) -/

section
variable {s : State} {m : Fin 38}

theorem findWindow_some {p : WindowState → Bool} {w : Fin 2} (h : findWindow m p s = some w) :
    p s.flow.inputs[m].windows[w].state = true := (find?_finRange_eq_some.1 h).1

theorem findWindow_none {p : WindowState → Bool} (h : findWindow m p s = none) (w : Fin 2) :
    p s.flow.inputs[m].windows[w].state = false :=
  find?_finRange_eq_none.1 h w

/-- R20: an idle engine takes the head of its queue, which has a QUEUED window. -/
theorem engineTake_fine (h : s.flow.Loose) : (engineTake s).flow.Fine := by
  unfold engineTake
  split
  next k rest hcomputing hqueue =>
    have hcomputing : s.flow.computing = none := hcomputing
    have hqueue : s.flow.queue = k :: rest := hqueue
    obtain ⟨hk, hrest⟩ := List.nodup_cons.1 (hqueue ▸ h.nodup)
    have hmem : k ∈ s.flow.queue := hqueue ▸ List.mem_cons_self
    split
    next w hw =>
      have hstate : s.flow.inputs[k].windows[w].state = .queued := by simpa using findWindow_some hw
      have hpair := (windowsFine_iff w).1 (h.windows k)
      rw [hstate] at hpair
      have hidle (v : Fin 2) : (s.flow.computing = some (k, v)) ↔ False := by simp [hcomputing]
      refine ⟨?_, nofun⟩
      have hloose : Flow.Loose ⟨rest, some (k, w), s.flow.notices.set k s.flow.notices[k],
          upd s.flow.inputs k fun i => { i with windows := i.windows.set w { s.window k w with state := .computing false } }⟩ := by
        refine h.at (fun j hj => ?_) (fun j hj v => ?_) hrest ((windowsFine_iff w).2 ?_)
          ((h.notices k).of_ahead ((forall_window w).2 ⟨fun _ => ?_, fun hahead => ?_⟩))
        · simp [hqueue, hj]
        · simp [hcomputing, Ne.symm hj]
        · simp only [set_same, set_other _ (otherWindow_ne w)]
          refine (hpair.congr Iff.rfl (hidle w) (hidle _) Iff.rfl).take.congr (iff_of_false id hk) (by simp) ?_ Iff.rfl
          simp [(otherWindow_ne w).symm]
        · rw [set_same]
          rfl
        · rwa [set_other _ (otherWindow_ne w)]
      rw [show s.flow.notices.set k s.flow.notices[k] = s.flow.notices from Vector.set_getElem_self k.isLt] at hloose
      exact hloose
    next hnone =>
      obtain ⟨w, hw⟩ := (h.windows k).queued.1 hmem
      exact absurd hw (by simpa using findWindow_none hnone w)
  next hnot =>
    refine ⟨h, fun hcomputing => ?_⟩
    cases hqueue : s.flow.queue with
    | nil => rfl
    | cons k rest => exact absurd hqueue (hnot k rest hcomputing)

/-- R19, R20: a complete window joins the queue. -/
theorem enqueueWindow_fine (h : Flow.Loose { s.flow with queue := s.flow.queue ++ [m] }) : (enqueueWindow m s).flow.Fine :=
  engineTake_fine (s := { s with engine := { s.engine with queue := s.engine.queue ++ [m] } }) h

theorem nodup_append_of_not_mem {q : List (Fin 38)} (h : q.Nodup) (hm : m ∉ q) : (q ++ [m]).Nodup := by
  rw [List.nodup_append]
  exact ⟨h, List.nodup_singleton m, fun a ha b hb hab => hm (List.mem_singleton.1 hb ▸ hab ▸ ha)⟩

/-- R19: the windows of input `m` replaced, one of them now QUEUED, and the input behind the queue. -/
theorem Flow.Loose.join {f : Flow} (h : f.Loose) {g : InputLive → InputLive} (hm : m ∉ f.queue)
    (hwindows : WindowsFine True (fun w => f.computing = some (m, w)) (g f.inputs[m]))
    (hnotice : NoticeFine f.notices[m] (g f.inputs[m])) :
    Flow.Loose { f with queue := f.queue ++ [m], inputs := upd f.inputs m g } := by
  have hloose : Flow.Loose ⟨f.queue ++ [m], f.computing, f.notices.set m f.notices[m], upd f.inputs m g⟩ :=
    h.at (fun k hk => by simp [hk]) (fun _ _ _ => Iff.rfl) (nodup_append_of_not_mem h.nodup hm)
      ⟨iff_of_true (by simp) (hwindows.queued.1 trivial), hwindows.computing, hwindows.collecting, hwindows.once⟩ hnotice
  rwa [show f.notices.set m f.notices[m] = f.notices from Vector.set_getElem_self m.isLt] at hloose

/-! ### The window boundary (R16) -/

theorem otherWindow_otherWindow (w : Fin 2) : otherWindow (otherWindow w) = w := by revert w; decide

/-- With the filling window of an input complete, the notice of the input waits for no other window than before. -/
theorem Flow.Loose.notice_filling {f : Flow} (h : f.Loose) {w : Fin 2} (hw : f.inputs[m].windows[w].state = .filling) :
    ∀ waits, f.notices[m] = some waits → waits[w] = false :=
  (h.notices m).notWaited (by unfold standsAhead; rw [hw])

theorem windowBoundary_fine {w : Fin 2} (h : s.flow.Fine) (hw : s.flow.inputs[m].windows[w].state = .filling) :
    (windowBoundary m w s).flow.Fine := by
  have hne := otherWindow_ne w
  have hpair := (windowsFine_iff w).1 (h.windows m)
  rw [hw] at hpair
  have hqueue : s.flow.inputs[m].windows[otherWindow w].state ≠ .queued → m ∉ s.flow.queue :=
    fun hother hq => (hpair.1.1 hq).elim nofun hother
  unfold windowBoundary
  dsimp only
  split
  next hother =>
    rw [window_flow] at hother
    rw [hother] at hpair
    unfold countOverrun setWindow
    rw [State.updInput_updInput, State.updInput_updInput, endWait_flow]
    refine ⟨h.toLoose.at (fun _ _ => Iff.rfl) (fun _ _ _ => Iff.rfl) h.nodup ((windowsFine_iff w).2 ?_) ?_, h.idle⟩
    · simp only [Function.comp, set_same, set_other _ hne.symm]
      exact hpair.completeQueued
    · refine noticeFine_dropWait fun waits hn hwait => ?_
      simp only [otherWindow_otherWindow] at hwait
      rw [h.notice_filling hw waits hn] at hwait
      cases hwait
  next d hother =>
    rw [window_flow] at hother
    rw [hother] at hpair
    have hjoin := h.toLoose.join (m := m) (g := fun i => { i with
      fill := .aligning, windows := i.windows.set w { s.window m w with state := .queued } })
      (hqueue (by rw [hother]; simp)) ((windowsFine_iff w).2 ?_)
      ((h.notices m).of_ahead ((forall_window w).2 ⟨fun hahead => ?_, fun hahead => ?_⟩))
    · refine enqueueWindow_fine ?_
      unfold setFill setWindow
      rw [State.updInput_updInput]
      exact hjoin
    · simp only [set_same, set_other _ hne, hother]
      exact hpair.completeComputing.congr Iff.rfl Iff.rfl Iff.rfl (by simp)
    · rw [set_same]
      rfl
    · rwa [set_other _ hne]
  next hnotQueued hnotComputing =>
    have hother : s.flow.inputs[m].windows[otherWindow w].state = .free := by
      cases hstate : s.flow.inputs[m].windows[otherWindow w].state with
      | free => rfl
      | filling => exact absurd rfl (hpair.2.2.2.2 hstate.symm).2
      | queued => exact absurd hstate hnotQueued
      | computing d => exact absurd hstate (hnotComputing d)
    rw [hother] at hpair
    have hjoin := h.toLoose.join (m := m) (g := fun i => { i with
      windows := (i.windows.set w { s.window m w with state := .queued }).set (otherWindow w)
        (Window.opened (((s.window m w).start + Config.windowSize) % mod16)) })
      (hqueue (by rw [hother]; simp)) ((windowsFine_iff w).2 ?_)
      ((h.notices m).of_ahead ((forall_window w).2 ⟨fun _ => ?_, fun hahead => ?_⟩))
    · refine enqueueWindow_fine ?_
      unfold setWindow
      rw [State.updInput_updInput]
      exact hjoin
    · simp only [set_same, set_other _ hne.symm]
      exact hpair.completeFree
    · rw [set_other _ hne.symm, set_same]
      rfl
    · unfold standsAhead at hahead
      rw [hother] at hahead
      cases hahead

/-! ### Values placed (R15, R16) -/

theorem storeValue_fine {c : Nat} {value : Int} {doubtful : Bool} {w : Fin 2} (h : s.flow.Fine)
    (hw : s.flow.inputs[m].windows[w].state = .filling) : (storeValue m c value doubtful w s).flow.Fine := by
  have hput (x : Window) (hx : x.state = .filling) : (setWindow m w x s).flow.Fine ∧
      (setWindow m w x s).flow.inputs[m].windows[w].state = .filling := by
    refine ⟨h.sameStates (g := fun i => { i with windows := i.windows.set w x }) rfl
      ((forall_window w).2 ⟨?_, ?_⟩), ?_⟩
    · rw [set_same, hx, hw]
    · rw [set_other _ (otherWindow_ne w)]
    · have hinput : (setWindow m w x s).flow.inputs[m] =
          { s.flow.inputs[m] with windows := s.flow.inputs[m].windows.set w x } := by
        show (upd s.flow.inputs m _)[m] = _
        rw [getElem_upd, if_pos rfl]
      rw [hinput, set_same, hx]
  unfold storeValue
  dsimp only
  obtain ⟨hfine, hstate⟩ := hput ((s.window m w).write ((c + mod16 - (s.window m w).start) % mod16) value doubtful) hw
  split
  · exact windowBoundary_fine hfine hstate
  · exact hfine

theorem handSample_flow (m : Fin 38) (value : Int) (c : Nat) (filled : Bool) (s : State) :
    (handSample m value c filled s).flow = s.flow := (handSample_sameBut m value c filled s).flow_eq (by simp) (by simp)

theorem openWindow_fine {w : Fin 2} {x : Window} (h : s.flow.Fine) (hfill : s.flow.inputs[m].fill ≠ .collecting)
    (hw : s.flow.inputs[m].windows[w].state = .free) (hx : x.state = .filling) :
    (setFill m .collecting (setWindow m w x s)).flow.Fine := by
  have hne := otherWindow_ne w
  have hpair := (windowsFine_iff w).1 (h.windows m)
  rw [hw] at hpair
  have hother : s.flow.inputs[m].windows[otherWindow w].state ≠ .filling := fun hf => hfill (hpair.2.2.2.1.2 (.inr hf))
  unfold setFill setWindow
  rw [State.updInput_updInput]
  refine h.atInput (g := fun i => { i with windows := i.windows.set w x, fill := .collecting }) ((windowsFine_iff w).2 ?_)
    ((h.notices m).of_ahead ((forall_window w).2 ⟨fun hahead => ?_, fun hahead => ?_⟩))
  · simp only [set_same, set_other _ hne, hx]
    exact (hpair.fill hother).congr Iff.rfl Iff.rfl Iff.rfl (by simp)
  · unfold standsAhead at hahead
    rw [hw] at hahead
    cases hahead
  · rwa [set_other _ hne]

theorem placeReceived_fine {c : Nat} {value : Int} {doubtful : Bool} (h : s.flow.Fine) :
    (placeReceived m c value doubtful s).flow.Fine := by
  have hhand : (handSample m value c false s).flow.Fine := by rwa [handSample_flow]
  unfold placeReceived
  split
  next => exact h
  next hfill =>
    dsimp only
    split
    · split
      next w hw =>
        refine openWindow_fine hhand ?_ (by simpa using findWindow_some hw) rfl
        rw [handSample_flow]
        show fillState m s ≠ _
        rw [hfill]
        simp
      next => exact countOverrun_fine hhand
    · exact hhand
  next =>
    dsimp only
    split
    next w hw => exact storeValue_fine hhand (by simpa using findWindow_some hw)
    next => exact hhand

theorem placeFilled_fine {c : Nat} {value : Int} (h : s.flow.Fine) : (placeFilled m c value s).flow.Fine := by
  have hhand : (handSample m value c true s).flow.Fine := by rwa [handSample_flow]
  unfold placeFilled
  split
  · dsimp only
    split
    next w hw => exact storeValue_fine hhand (by simpa using findWindow_some hw)
    next => exact hhand
  · exact h

/-! ### The end of a computation (R20, R31) -/

theorem computationEnds_fine (h : s.flow.Fine) : (computationEnds s).flow.Fine := by
  unfold computationEnds
  split
  next k w hcomputing =>
    have hcomputing : s.flow.computing = some (k, w) := hcomputing
    have hne := otherWindow_ne w
    have hpair := (windowsFine_iff w).1 (h.windows k)
    obtain ⟨d, hstate⟩ := (h.windows k).computing w |>.1 hcomputing
    rw [hstate] at hpair
    have hsame : s.flow.computing = some (k, w) ↔ True := iff_true_intro hcomputing
    have hother : s.flow.computing = some (k, otherWindow w) ↔ False := by simp [hcomputing, hne.symm]
    have hfreed : Flow.Loose ⟨s.flow.queue, none, s.flow.notices.set k (dropWait s.flow.notices[k] w),
        upd s.flow.inputs k fun i => { i with windows := i.windows.set w Window.empty }⟩ := by
      refine h.toLoose.at (fun _ _ => Iff.rfl) (fun j hj v => ?_) h.nodup ((windowsFine_iff w).2 ?_)
        (h.toLoose.dropWait_fine w Window.empty)
      · simp [hcomputing, Ne.symm hj]
      · simp only [set_same, set_other _ hne]
        exact (hpair.congr Iff.rfl hsame hother Iff.rfl).free.congr Iff.rfl (by simp) (by simp) Iff.rfl
    dsimp only
    refine engineTake_fine ?_
    split
    next => exact (endWait_flow k w _).symm ▸ hfreed
    next =>
      refine endWait_flow k w _ ▸ ?_
      simp only [publish_flow]
      exact hfreed
  next => exact h

end

end Sys2Proof.Machine


namespace Sys2Proof.Machine

/-! ## Stream Acceptance and the reads keep the engine invariant -/

section
variable {s t : State} {m : Fin 38} {i : Fin 16}

theorem SameBut.keepsFine {ps : List Part} (hst : SameBut ps s t) (hps : Part.engine ∉ ps ∧ Part.acceptance ∉ ps)
    (h : s.flow.Fine) : t.flow.Fine := by
  rwa [hst.flow_eq hps.1 hps.2]

theorem updStream_fine {f : StreamLive → StreamLive} (h : s.flow.Fine) : (s.updStream i f).flow.Fine := h

theorem abandonInput_fine (h : s.flow.Fine) : (abandonInput s m).flow.Fine := by
  unfold abandonInput
  split
  · exact breakInput_fine h
  · exact h

theorem abandonRow_fine (h : s.flow.Fine) : (abandonRow i s).flow.Fine := foldl_fine abandonInput_fine _ (updStream_fine h)

theorem fillCounter_fine {c : Nat} (h : s.flow.Fine) : (fillCounter i c s).flow.Fine := by
  refine foldl_fine (fun ht => ?_) _ h
  split
  · exact placeFilled_fine ht
  · exact ht

theorem enterCounter_fine {c : Nat} (h : s.flow.Fine) : (enterCounter i c s).flow.Fine := updStream_fine h

theorem fillGap_fine {n c : Nat} (h : s.flow.Fine) : (fillGap i n c s).flow.Fine := by
  induction n generalizing s c with
  | zero => exact h
  | succ n ih =>
    unfold fillGap
    dsimp only
    split
    · exact abandonRow_fine (enterCounter_fine h)
    · exact ih (fillCounter_fine (updStream_fine (enterCounter_fine h)))

theorem takeChannel_fine {c : Nat} {j : Fin 12} {ch : Channel} (h : s.flow.Fine) : (takeChannel i c j m ch s).flow.Fine := by
  unfold takeChannel
  split
  · exact abandonInput_fine (updStream_fine h)
  · exact placeReceived_fine (updStream_fine h)

theorem takeChannels_fine {c : Nat} {channels : List Channel} (h : s.flow.Fine) : (takeChannels i c channels s).flow.Fine := by
  refine foldl_fine (fun ht => ?_) _ h
  split
  · exact takeChannel_fine ht
  · exact ht

theorem takeFrame_fine {f : SampleFrame} (h : s.flow.Fine) : (takeFrame i f s).flow.Fine := by
  unfold takeFrame
  dsimp only
  refine takeChannels_fine (enterCounter_fine ?_)
  split
  · exact (logEvent_sameBut _ _ _ _).keepsFine (by decide) (updStream_fine h)
  · exact updStream_fine h

theorem countGap_fine (h : s.flow.Fine) : (countGap i s).flow.Fine := updStream_fine h

theorem judgeCounter_fine {f : SampleFrame} (h : s.flow.Fine) : (judgeCounter i f s).flow.Fine := by
  unfold judgeCounter
  split
  · exact takeFrame_fine h
  · dsimp only
    split
    · exact takeFrame_fine h
    · split
      · exact countGap_fine h
      · split
        · exact takeFrame_fine (fillGap_fine (countGap_fine h))
        · exact takeFrame_fine (abandonRow_fine (countGap_fine h))

theorem acceptFrame_fine {f : SampleFrame} (h : s.flow.Fine) : (acceptFrame f s).flow.Fine := by
  unfold acceptFrame
  split
  · dsimp only
    split
    · exact h
    · split
      · exact updStream_fine h
      · exact judgeCounter_fine h
  · exact h

theorem loseInput_fine (h : s.flow.Fine) : (loseInput s m).flow.Fine := by
  unfold loseInput
  split
  · exact h
  · exact breakInput_fine h

theorem streamLost_fine (h : s.flow.Fine) : (streamLost i s).flow.Fine := by
  unfold streamLost
  split
  · exact foldl_fine loseInput_fine _ ((logEvent_sameBut _ _ _ _).keepsFine (by decide) (updStream_fine h))
  · exact h

theorem unmapInput_fine (h : s.flow.Fine) : (unmapInput s m).flow.Fine :=
  withdrawInput_fine (handNotice_fine (discardTo_fine (by simp) h))

theorem streamFoundDamaged_fine {inputs : List (Fin 38)} (h : s.flow.Fine) :
    (streamFoundDamaged i inputs s).flow.Fine := foldl_fine unmapInput_fine inputs (updStream_fine h)

/-! ### Rewritten rows (R4, R5) -/

theorem alignInput_fine (h : s.flow.Fine) : (alignInput s m).flow.Fine := by
  unfold alignInput
  split
  · exact h
  · exact discardTo_fine (by simp) h

theorem dropInput_fine (h : s.flow.Fine) : (dropInput s m).flow.Fine := by
  unfold dropInput
  split
  · exact h
  · exact withdrawInput_fine (discardTo_fine (by simp) h)

theorem streamRewritten_fine {old : Held StreamRow} (h : s.flow.Fine) : (streamRewritten i old s).flow.Fine := by
  unfold streamRewritten
  dsimp only
  split
  · have hdropped := foldl_fine (f := dropInput) dropInput_fine (mappedInputs old.row) (updStream_fine (i := i) (f := fun _ => .reset) h)
    split
    · exact foldl_fine alignInput_fine _ hdropped
    · exact hdropped
  · exact h

theorem inputRewritten_fine {damaged : Bool} (h : s.flow.Fine) : (inputRewritten m damaged s).flow.Fine := by
  unfold inputRewritten
  split
  · exact discardTo_fine (by simp) h
  · exact h

/-! ### Reads (R165) -/

theorem ownerActs_fine {r : RowRef} {mapped : List (Fin 38)} (h : s.flow.Fine) : (ownerActs r mapped s).flow.Fine := by
  unfold ownerActs
  cases r with
  | stream i =>
    dsimp only
    exact streamFoundDamaged_fine h
  | input m =>
    dsimp only
    unfold inputFoundDamaged
    exact unmapInput_fine h
  | step i =>
    exact (settingsFault_sameBut i _).keepsFine (by decide) ((abandonNull_sameBut i s).keepsFine (by decide) h)
  | harmonic i => exact (harmonicFoundDamaged_sameBut i s).keepsFine (by decide) h
  | resonance => exact (reformNextCount_sameBut s).keepsFine (by decide) h
  | yard => exact (yardFoundDamaged_sameBut s).keepsFine (by decide) h
  | unit u => exact (unitFoundDamaged_sameBut u s).keepsFine (by decide) h
  | link => exact h

theorem readAt_fine {n : Nat} {r : RowRef} (h : s.flow.Fine) : (readAt n s r).flow.Fine := by
  induction n generalizing s r with
  | zero => exact h
  | succ n ih =>
    unfold readAt
    split
    · exact h
    · split
      · exact h
      · exact h
      · exact (markChange_sameBut _ _).keepsFine (by decide) (ownerActs_fine
          (readAlong_keeps (P := fun s => s.flow.Fine) (fun _ _ _ ht => ih ht) _ _
            ((markDamaged_sameBut r s).keepsFine (by decide) h)))

theorem readRow_fine {r : RowRef} (h : s.flow.Fine) : (readRow s r).flow.Fine := readAt_fine h

theorem readRows_fine {rs : List RowRef} (h : s.flow.Fine) : (readRows rs s).flow.Fine := foldl_fine readRow_fine rs h

theorem readUsed_fine {uses : State → List RowRef} (h : s.flow.Fine) : (readUsed uses s).flow.Fine :=
  readAlong_keeps (P := fun s => s.flow.Fine) (fun _ _ _ ht => readRow_fine ht) _ _ h

theorem copyRows_fine {n : Nat} (h : s.flow.Fine) : (copyRows n s).flow.Fine :=
  foldl_fine (f := copyToImage) (fun ht => readRow_fine ht) _ h

theorem noteChange_fine {before : State} (h : s.flow.Fine) : (noteChange before s).flow.Fine :=
  (noteChange_sameBut before s).keepsFine (by decide) h

end

end Sys2Proof.Machine


namespace Sys2Proof.Machine

/-! ## The requests keep the engine invariant -/

section
variable {s : State}

theorem secondsTick_fine (h : s.flow.Fine) : (secondsTick s).flow.Fine :=
  foldl_fine (fun ht => (cooldownUpdate_sameBut _ _).keepsFine (by decide) ht) _
    (s := { s with duty := { s.duty with secondsLeft := 1000 } }) h

theorem dischargeExpiry_fine {i : Fin 8} (h : s.flow.Fine) : (dischargeExpiry i s).flow.Fine := by
  unfold dischargeExpiry
  split
  · exact h
  · exact h

theorem takeUnbalanceReport_fine {r : StepReport} (h : s.flow.Fine) : (takeUnbalanceReport r s).flow.Fine := by
  unfold takeUnbalanceReport
  split
  · exact (unbalanceLeave_sameBut _ _).keepsFine (by decide) h
  · split
    · exact (unbalanceEnter_sameBut _ _).keepsFine (by decide) h
    · exact h

theorem announcedRequest_fine {r : CmdRequest} (h : s.flow.Fine) : (announcedRequest r s).flow.Fine :=
  (takeRequest_sameBut _ _).keepsFine (by decide) (readUsed_fine ((announceTrip_sameBut r s).keepsFine (by decide) h))

theorem takeSwitchOutcome_fine {i : Fin 8} {k : CmdKind} {r : SwitchResult} (h : s.flow.Fine) :
    (takeSwitchOutcome i k r s).flow.Fine :=
  (grantWaiting_sameBut _).keepsFine (by decide) ((switchEvent_sameBut i k r s).keepsFine (by decide) h)

theorem portGoesDown_fine {p : Port} (h : s.flow.Fine) : (portGoesDown p s).flow.Fine := by
  unfold portGoesDown
  split
  · exact (setPort_sameBut p _ s).keepsFine (by decide) h
  · exact h

theorem portComesUp_fine {p : Port} (h : s.flow.Fine) : (portComesUp p s).flow.Fine := by
  unfold portComesUp
  split
  · exact h
  · exact (setPort_sameBut p _ s).keepsFine (by decide) h

theorem scrub_fine {before after : List Strike} (h : s.flow.Fine) : (scrub before after s).flow.Fine := by
  have hstruck : (strikeRows before (s.updMemory fun m => { m with scrubLeft := Config.scrubInterval })).flow.Fine :=
    (strikeRows_sameBut _ _).keepsFine (by decide) h
  unfold scrub
  exact (strikeRows_sameBut _ _).keepsFine (by decide) (readRows_fine hstruck)

theorem storeWorks_fine {rows : Nat} {verified : Option Bool} (h : s.flow.Fine) : (storeWorks rows verified s).flow.Fine := by
  have hcopied := copyRows_fine (n := rows) h
  unfold storeWorks
  dsimp only
  split
  · split
    · split
      · exact hcopied
      · exact hcopied
    · exact hcopied
  · exact h

/-! ### Writes (R162) -/

theorem putTables_fine {t : Tables} (h : s.flow.Fine) : (s.putTables t).flow.Fine := h

theorem harmRewritten_fine {i : Fin 15} (h : s.flow.Fine) : (harmRewritten s i).flow.Fine := by
  have hformed : (reformBlock (if s.memory.tables.harmonic[i].row.supervise then createElements i s
      else removeElements i s) i).flow.Fine := by
    refine (reformBlock_sameBut _ _).keepsFine (by decide) ?_
    split
    · exact (createElements_sameBut i s).keepsFine (by decide) h
    · exact (removeElements_sameBut i s).keepsFine (by decide) h
  unfold harmRewritten
  dsimp only
  generalize reformBlock _ i = t at hformed
  split
  · exact (zeroSustain_sameBut _ _).keepsFine (by decide) hformed
  · exact hformed

theorem stepRewritten_fine {old : StepRow} {i : Fin 8} (h : s.flow.Fine) : (stepRewritten old i s).flow.Fine := by
  unfold stepRewritten
  refine (reformDutyBar_sameBut _ _).keepsFine (by decide) ?_
  split
  · exact (abandonNull_sameBut i s).keepsFine (by decide) h
  · exact h

theorem unitRewritten_fine {u : Fin 9} {old : Held UnitRow} (h : s.flow.Fine) : (unitRewritten u old s).flow.Fine := by
  unfold unitRewritten
  split
  · exact h
  · exact h

theorem writeTable_fine {first : Nat} {rows : RawRows} {x : Bool × State} (h : s.flow.Fine)
    (hx : writeTable first rows s = .ok x) : x.2.flow.Fine := by
  cases rows with
  | stream rs =>
    unfold writeTable writeStream at hx
    dsimp only at hx
    split at hx
    · cases hx
    · cases hx
      exact foldl_fine streamRewritten_fine _ (putTables_fine h)
  | input rs =>
    unfold writeTable writeInput at hx
    dsimp only at hx
    split at hx
    · cases hx
    · cases hx
      exact foldl_fine inputRewritten_fine _ (putTables_fine h)
  | step rs =>
    unfold writeTable writeStep at hx
    dsimp only at hx
    split at hx
    · cases hx
    · cases hx
      exact foldl_fine stepRewritten_fine _ (putTables_fine h)
  | harmonic rs =>
    unfold writeTable writeHarm at hx
    dsimp only at hx
    split at hx
    · cases hx
    · cases hx
      exact (reformNextCount_sameBut _).keepsFine (by decide) (foldl_fine harmRewritten_fine _ (putTables_fine h))
  | resonance rs =>
    unfold writeTable writeRes at hx
    dsimp only at hx
    split at hx
    · cases hx
    · cases hx
      exact (reformNextCount_sameBut _).keepsFine (by decide) (putTables_fine h)
  | yard rs =>
    unfold writeTable writeYard writeYardRow at hx
    dsimp only at hx
    split at hx
    · split at hx
      · cases hx
      · cases hx
        exact (expireReached_sameBut _).keepsFine (by decide) (putTables_fine h)
    · cases hx
  | unit rs =>
    unfold writeTable writeUnit at hx
    dsimp only at hx
    split at hx
    · cases hx
    · cases hx
      exact foldl_fine unitRewritten_fine _ (putTables_fine h)
  | link rs =>
    unfold writeTable writeLink writeLinkRow at hx
    dsimp only at hx
    split at hx
    · split at hx
      · cases hx
      · cases hx
        exact h
    · cases hx

end

end Sys2Proof.Machine


namespace Sys2Proof.Machine

/-! ## Every command keeps the engine invariant -/

section
variable {s : State}

theorem actReadRows_fine {table : Option TableId} {first count : Nat} (h : s.flow.Fine) :
    (actReadRows table first count s).2.flow.Fine := by
  unfold actReadRows
  split
  · exact readRows_fine h
  · exact h

theorem actWriteRows_fine {first : Nat} {rows : RawRows} (h : s.flow.Fine) : (actWriteRows first rows s).2.flow.Fine := by
  unfold actWriteRows
  split
  · exact h
  · split
    · exact h
    · split
      · exact h
      · split
        next => exact h
        next x hx => exact writeTable_fine (readUsed_fine h) hx

theorem actReadResults_fine {inputs : List Nat} (h : s.flow.Fine) : (actReadResults inputs s).2.flow.Fine := by
  unfold actReadResults
  split <;> exact h

theorem actReadStatus_fine {sec : Option Section} (h : s.flow.Fine) : (actReadStatus sec s).2.flow.Fine := by
  unfold actReadStatus
  split <;> exact h

theorem selectTarget_fine {q : Requester} {t : Fin 9} {k : CmdKind} {token : Nat} (h : s.flow.Fine) :
    (selectTarget q t k token s).2.flow.Fine := by
  have hread := readUsed_fine (uses := selectUses t k) h
  unfold selectTarget
  dsimp only
  split
  · exact h
  · split
    · exact hread
    · exact hread

theorem actSelect_fine {q : Requester} {target : Nat} {action : Option CmdKind} {token : Nat} (h : s.flow.Fine) :
    (actSelect q target action token s).2.flow.Fine := by
  unfold actSelect
  split
  · exact selectTarget_fine h
  · exact h

theorem makeRoom_fine (h : s.flow.Fine) : (makeRoom s).flow.Fine := by
  unfold makeRoom displaceAuto
  split
  · exact h
  · exact (startSettle_sameBut _).keepsFine (by decide) ((withdrawAuto_sameBut _ s).keepsFine (by decide) h)

theorem operateSelection_fine {x : Selection} (h : s.flow.Fine) : (operateSelection x s).flow.Fine := by
  have harrived := (arrive_sameBut x.action (.manual x.target) (makeRoom s)).keepsFine (by decide) (makeRoom_fine h)
  unfold operateSelection
  exact (dropSelection_sameBut _).keepsFine (by decide) harrived

theorem actOperate_fine {q : Requester} {token : Nat} (h : s.flow.Fine) : (actOperate q token s).2.flow.Fine := by
  unfold actOperate
  split
  · exact h
  · split
    · exact h
    · split
      · exact h
      · dsimp only
        exact operateSelection_fine (readUsed_fine h)

theorem actCancel_fine (h : s.flow.Fine) : (actCancel s).2.flow.Fine := by
  unfold actCancel
  split
  · exact h
  · exact (dropSelection_sameBut _).keepsFine (by decide) (readUsed_fine h)

theorem actWithdraw_fine {step : Nat} (h : s.flow.Fine) : (actWithdraw step s).2.flow.Fine := by
  unfold actWithdraw
  split
  · split
    · exact (moveStep_sameBut _ _ _ s).keepsFine (by decide) h
    · exact h
  · exact h

theorem actRestore_fine {step : Nat} (h : s.flow.Fine) : (actRestore step s).2.flow.Fine := by
  unfold actRestore
  split
  next i _ =>
    have hread := readRows_fine (rs := [.step i]) h
    unfold restoreStep
    split
    · exact hread
    · split
      · exact (moveStep_sameBut _ _ _ _).keepsFine (by decide) hread
      · exact hread
  next => exact h

theorem actResetLockout_fine {step : Nat} (h : s.flow.Fine) : (actResetLockout step s).2.flow.Fine := by
  unfold actResetLockout
  split
  next i _ =>
    have hread := readRows_fine (rs := [.step i]) h
    unfold resetStep
    dsimp only
    split
    · exact hread
    · split
      · exact hread
      · split
        · exact (restStep_sameBut _ _ _).keepsFine (by decide) hread
        · exact hread
  next => exact h

theorem actNull_fine {step : Nat} (h : s.flow.Fine) : (actNull step s).2.flow.Fine := by
  unfold actNull
  split
  · exact h
  · split
    next i _ =>
      have hread := readRows_fine (rs := [.step i]) h
      unfold nullStep
      split
      · exact hread
      · split
        · exact hread
        · split
          · exact hread
          · split
            · exact hread
            · exact hread
    next => exact h

theorem actSetMode_fine {mode : Option Mode} (h : s.flow.Fine) : (actSetMode mode s).2.flow.Fine := by
  unfold actSetMode
  split
  · unfold setMode
    split
    · exact (forceManual_sameBut s).keepsFine (by decide) h
    · have hread := readRows_fine (rs := [.yard]) h
      dsimp only
      split
      · exact hread
      · split
        · exact hread
        · exact hread
  · exact h

theorem actAckEvents_fine {n : Nat} (h : s.flow.Fine) : (actAckEvents n s).2.flow.Fine := by
  unfold actAckEvents
  split <;> exact h

theorem actReadCapture_fine {buffer : Option (Fin 2)} {offset : Nat} (h : s.flow.Fine) :
    (actReadCapture buffer offset s).2.flow.Fine := by
  unfold actReadCapture
  split
  · dsimp only
    split
    · exact h
    · split <;> exact h
  · exact h

theorem actFreeCapture_fine {buffer : Option (Fin 2)} (h : s.flow.Fine) : (actFreeCapture buffer s).2.flow.Fine := by
  unfold actFreeCapture
  split
  next i =>
    split
    · exact (freeCapture_sameBut i s).keepsFine (by decide) h
    · exact h
  next => exact h

theorem actStore_fine (h : s.flow.Fine) : (actStore s).2.flow.Fine := by
  unfold actStore
  split
  · exact h
  · split
    · exact h
    · exact h

theorem serve_fine {q : Requester} {act : State → Served} (hact : ∀ {t : State}, t.flow.Fine → (act t).2.flow.Fine)
    (h : s.flow.Fine) : (serve q act s).flow.Fine := by
  unfold serve
  split
  · exact h
  · split
    · exact h
    · exact (reply_sameBut _ _ _ _).keepsFine (by decide) (hact h)

theorem taking_fine {c : Instr} {uses : State → List RowRef} {body : State → State}
    (hbody : ∀ {t : State}, t.flow.Fine → (body t).flow.Fine) (h : s.flow.Fine) : (taking c uses body s).flow.Fine := by
  have hread := readUsed_fine (uses := uses) (s := s.dropMail c) h
  unfold taking
  dsimp only
  split
  · exact noteChange_fine (hbody hread)
  · exact h

theorem taking_sameBut_fine {c : Instr} {uses : State → List RowRef} {body : State → State} {ps : List Part}
    (hbody : ∀ t, SameBut ps t (body t)) (hps : Part.engine ∉ ps ∧ Part.acceptance ∉ ps) (h : s.flow.Fine) :
    (taking c uses body s).flow.Fine := taking_fine (fun ht => (hbody _).keepsFine hps ht) h

theorem requesting_fine {c : Instr} {q : Requester} {act : State → Served}
    (hact : ∀ {t : State}, t.flow.Fine → (act t).2.flow.Fine) (h : s.flow.Fine) : (requesting c q act s).flow.Fine :=
  taking_fine (serve_fine hact) h

end

theorem fine_of_next {o : Host.Outcome State Fault Refusal} {t u : State} (ht : o = .next t) (hu : o = .next u)
    (h : u.flow.Fine) : t.flow.Fine := Host.Outcome.next.inj (hu.symm.trans ht) ▸ h

/-- A running part that takes a command keeps the invariant, or is reset. -/
theorem exec_fine {c : Instr} {s t : State} (hphase : s.phase = .running) (h : s.flow.Fine) (hexec : exec c s = .next t) :
    t.flow.Fine ∨ ∃ k u, t = resetPart k u := by
  cases c with
  | coldReset =>
    cases hexec
    exact .inr ⟨_, _, rfl⟩
  | restartReset =>
    replace hexec : execRestartReset s = .next t := hexec
    unfold execRestartReset at hexec
    dsimp only at hexec
    split at hexec
    · cases hexec
      exact .inr ⟨_, _, rfl⟩
    · cases hexec
      exact .inl h
  | startUp strikes =>
    replace hexec : execStartUp strikes s = .next t := hexec
    unfold execStartUp at hexec
    rw [hphase] at hexec
    cases hexec
    exact .inl h
  | keylockChange asserted =>
    replace hexec : execKeylockChange asserted s = .next t := hexec
    unfold execKeylockChange at hexec
    rw [hphase] at hexec
    cases hexec
    exact .inl (taking_fine (fun ht => ht) h)
  | portDown p => exact .inl (fine_of_next hexec (exec_port_running hphase).2.1 (taking_fine portGoesDown_fine h))
  | portUp p => exact .inl (fine_of_next hexec (exec_port_running hphase).1 (taking_fine portComesUp_fine h))
  | transmissionEnd p =>
    exact .inl (fine_of_next hexec (exec_port_running hphase).2.2
      (taking_sameBut_fine (transmissionEnds_sameBut p) (by decide) h))
  | frameReceived p bytes checkOk =>
    exact .inl (fine_of_next hexec (exec_frameReceived_running hphase)
      (taking_sameBut_fine (receiveFrame_sameBut p bytes checkOk) (by decide) h))
  | sampleFrame f => exact .inl (fine_of_next hexec rfl (taking_fine acceptFrame_fine h))
  | lossTimerExpiry row => exact .inl (fine_of_next hexec rfl (taking_fine streamLost_fine h))
  | computationEnd => exact .inl (fine_of_next hexec rfl (taking_fine computationEnds_fine h))
  | ageClockTick => exact .inl (fine_of_next hexec rfl (taking_fine (fun ht => ht) h))
  | holdTimerExpiry => exact .inl (fine_of_next hexec rfl (taking_fine (fun ht => ht) h))
  | secondsClockTick => exact .inl (fine_of_next hexec rfl (taking_fine secondsTick_fine h))
  | dischargeTimerExpiry step => exact .inl (fine_of_next hexec rfl (taking_fine dischargeExpiry_fine h))
  | decayTimerExpiry step => exact .inl (fine_of_next hexec rfl (taking_sameBut_fine (decayExpiry_sameBut step) (by decide) h))
  | heatModeChange r => exact .inl (fine_of_next hexec rfl (taking_fine (fun ht => ht) h))
  | positionReport step pos => exact .inl (fine_of_next hexec rfl (taking_sameBut_fine (takePosition_sameBut step pos) (by decide) h))
  | unitSupervisionNotice step sup => exact .inl (fine_of_next hexec rfl (taking_sameBut_fine (takeSupervision_sameBut step sup) (by decide) h))
  | tripStart step cause => exact .inl (fine_of_next hexec rfl (taking_sameBut_fine (takeTripStart_sameBut step cause) (by decide) h))
  | unitBusyRefusal r => exact .inl (fine_of_next hexec rfl (taking_sameBut_fine (takeBusy_sameBut r) (by decide) h))
  | unbalanceLockoutNotice step => exact .inl (fine_of_next hexec rfl (taking_sameBut_fine (takeLockoutNotice_sameBut step) (by decide) h))
  | closeOutcome step o => exact .inl (fine_of_next hexec rfl (taking_sameBut_fine (takeCloseOutcome_sameBut step o) (by decide) h))
  | openOutcome step o => exact .inl (fine_of_next hexec rfl (taking_sameBut_fine (takeOpenOutcome_sameBut step o) (by decide) h))
  | dischargedReport step => exact .inl (fine_of_next hexec rfl (taking_sameBut_fine (takeDischarged_sameBut step) (by decide) h))
  | unbalanceStepReport r => exact .inl (fine_of_next hexec rfl (taking_fine takeUnbalanceReport_fine h))
  | harmonicStepReport r => exact .inl (fine_of_next hexec rfl (taking_sameBut_fine (harmonicReport_sameBut r) (by decide) h))
  | controlStepReport r => exact .inl (fine_of_next hexec rfl (taking_sameBut_fine (controlReport_sameBut r) (by decide) h))
  | statusFrame f => exact .inl (fine_of_next hexec rfl (taking_sameBut_fine (takeStatus_sameBut f) (by decide) h))
  | commandRequest r => exact .inl (fine_of_next hexec rfl (taking_fine announcedRequest_fine h))
  | nextSendTime unit => exact .inl (fine_of_next hexec rfl (taking_sameBut_fine (nextSend_sameBut unit) (by decide) h))
  | operateDeadline unit => exact .inl (fine_of_next hexec rfl (taking_sameBut_fine (deadlineArrives_sameBut unit) (by decide) h))
  | supervisionTimerExpiry unit => exact .inl (fine_of_next hexec rfl (taking_sameBut_fine (supervisionExpiry_sameBut unit) (by decide) h))
  | switchOutcome step kind result => exact .inl (fine_of_next hexec rfl (taking_fine takeSwitchOutcome_fine h))
  | incomerOutcome kind result => exact .inl (fine_of_next hexec rfl (taking_sameBut_fine (takeIncomerOutcome_sameBut kind result) (by decide) h))
  | detuneRequest => exact .inl (fine_of_next hexec rfl (taking_sameBut_fine takeDetune_sameBut (by decide) h))
  | highTimerExpiry => exact .inl (fine_of_next hexec rfl (taking_sameBut_fine highExpiry_sameBut (by decide) h))
  | lowTimerExpiry => exact .inl (fine_of_next hexec rfl (taking_sameBut_fine lowExpiry_sameBut (by decide) h))
  | settleTimerExpiry => exact .inl (fine_of_next hexec rfl (taking_sameBut_fine settleExpiry_sameBut (by decide) h))
  | restoreHoldExpiry => exact .inl (fine_of_next hexec rfl (taking_sameBut_fine restoreExpiry_sameBut (by decide) h))
  | selectExpiry => exact .inl (fine_of_next hexec rfl (taking_sameBut_fine (removeSelection_sameBut .selectExpired none) (by decide) h))
  | readRows q table first count => exact .inl (fine_of_next hexec rfl (requesting_fine actReadRows_fine h))
  | writeRows q first rows => exact .inl (fine_of_next hexec rfl (requesting_fine actWriteRows_fine h))
  | readResults q inputs => exact .inl (fine_of_next hexec rfl (requesting_fine actReadResults_fine h))
  | readStatus q sec => exact .inl (fine_of_next hexec rfl (requesting_fine actReadStatus_fine h))
  | hold q => exact .inl (fine_of_next hexec rfl (requesting_fine (fun ht => ht) h))
  | release q => exact .inl (fine_of_next hexec rfl (requesting_fine (fun ht => ht) h))
  | select q target action token => exact .inl (fine_of_next hexec rfl (requesting_fine actSelect_fine h))
  | operate q token => exact .inl (fine_of_next hexec rfl (requesting_fine actOperate_fine h))
  | cancel q => exact .inl (fine_of_next hexec rfl (requesting_fine actCancel_fine h))
  | withdraw q step => exact .inl (fine_of_next hexec rfl (requesting_fine actWithdraw_fine h))
  | restore q step => exact .inl (fine_of_next hexec rfl (requesting_fine actRestore_fine h))
  | resetLockout q step => exact .inl (fine_of_next hexec rfl (requesting_fine actResetLockout_fine h))
  | null q step => exact .inl (fine_of_next hexec rfl (requesting_fine actNull_fine h))
  | setMode q mode => exact .inl (fine_of_next hexec rfl (requesting_fine actSetMode_fine h))
  | readEvents q first => exact .inl (fine_of_next hexec rfl (requesting_fine (fun ht => ht) h))
  | ackEvents q n => exact .inl (fine_of_next hexec rfl (requesting_fine actAckEvents_fine h))
  | readCapture q buffer offset => exact .inl (fine_of_next hexec rfl (requesting_fine actReadCapture_fine h))
  | freeCapture q buffer => exact .inl (fine_of_next hexec rfl (requesting_fine actFreeCapture_fine h))
  | store q => exact .inl (fine_of_next hexec rfl (requesting_fine actStore_fine h))
  | storeCompletion rows verified => exact .inl (fine_of_next hexec rfl (taking_fine storeWorks_fine h))
  | restart q => exact .inl (fine_of_next hexec rfl (requesting_fine (fun ht => ht) h))
  | clearTableError q => exact .inl (fine_of_next hexec rfl (requesting_fine (fun ht => ht) h))
  | scrubPass before after => exact .inl (fine_of_next hexec rfl (taking_fine scrub_fine h))
  | reportTimerExpiry => exact .inl (fine_of_next hexec rfl (taking_sameBut_fine periodicReport_sameBut (by decide) h))
  | changeReportDue => exact .inl (fine_of_next hexec rfl (taking_sameBut_fine changeReport_sameBut (by decide) h))
  | captureTrigger kind step => exact .inl (fine_of_next hexec rfl (taking_sameBut_fine (takeTrigger_sameBut kind step) (by decide) h))
  | captureComplete buffer => exact .inl (fine_of_next hexec rfl (taking_sameBut_fine (completeCapture_sameBut buffer) (by decide) h))

end Sys2Proof.Machine


namespace Sys2Proof.Machine

/-! ## Resets, start-up and idle parts -/

/-- Every window stands FREE, as between a reset and start-up. -/
def AllFree (s : State) : Prop := ∀ (m : Fin 38) (w : Fin 2), s.flow.inputs[m].windows[w].state = .free

section
variable {s t : State}

theorem resetPart_flow (k : ResetKind) (s : State) : (resetPart k s).flow = State.reset.flow := rfl

theorem resetPart_engineOk (k : ResetKind) (s : State) : EngineOk (resetPart k s) := by
  obtain ⟨hfree, hfine⟩ := engineOk_iff.1 reset_engineOk
  exact engineOk_iff.2 ⟨fun _ => hfree nofun, resetPart_flow k s ▸ hfine⟩

/-- R18: with every window FREE an input's fill state is set to ALIGNING. -/
theorem setFill_aligning_fine {m : Fin 38} (hfree : AllFree s) (h : s.flow.Fine) :
    (setFill m .aligning s).flow.Fine ∧ AllFree (setFill m .aligning s) := by
  have hinput (k : Fin 38) : (setFill m .aligning s).flow.inputs[k] =
      if m = k then { s.flow.inputs[k] with fill := .aligning } else s.flow.inputs[k] := getElem_upd _ m k _
  obtain ⟨hqueued, hcomputing, hcollecting, honce⟩ := h.windows m
  have hnot : ¬ ∃ w : Fin 2, s.flow.inputs[m].windows[w].state = .filling := fun ⟨w, hw⟩ => by
    rw [hfree m w] at hw
    cases hw
  refine ⟨h.atInput (g := fun i => { i with fill := .aligning }) ⟨hqueued, hcomputing, iff_of_false (by simp) hnot, honce⟩
    (h.notices m), fun k w => ?_⟩
  rw [hinput]
  split
  · exact hfree k w
  · exact hfree k w

theorem fillStates_fine (hfree : AllFree s) (h : s.flow.Fine) : (fillStates s).flow.Fine := by
  unfold fillStates
  suffices hboth : ∀ (xs : List (Fin 38)) {s : State}, s.flow.Fine ∧ AllFree s → (xs.foldl (fun s m =>
      if fed s.memory.tables m && !s.memory.tables.input[m].damaged then setFill m .aligning s else s) s).flow.Fine from
    hboth _ ⟨h, hfree⟩
  intro xs
  induction xs with
  | nil => exact fun hs => hs.1
  | cons m xs ih =>
    intro s ⟨hs, hsfree⟩
    rw [List.foldl_cons]
    refine ih ?_
    split
    · exact setFill_aligning_fine hsfree hs
    · exact ⟨hs, hsfree⟩

theorem loadRow_flow (r : RowRef) (s : State) : (loadRow s r).flow = s.flow := by
  unfold loadRow
  split
  · rfl
  · split <;> rfl

theorem foldl_flow {α : Type} {f : State → α → State} (hf : ∀ s a, (f s a).flow = s.flow) (xs : List α) (s : State) :
    (xs.foldl f s).flow = s.flow := by
  induction xs generalizing s with
  | nil => rfl
  | cons x xs ih => exact (ih (f s x)).trans (hf s x)

theorem loadTables_flow (xs : List Strike) (s : State) : (loadTables xs s).flow = s.flow := by
  unfold loadTables
  split
  · exact foldl_flow (fun s r => loadRow_flow r s) allRows _
  · rfl

theorem startEarly_fine {k : ResetKind} {xs : List Strike} (hfree : AllFree s) (h : s.flow.Fine) :
    (startEarly k xs s).flow.Fine := by
  have hflow := loadTables_flow xs s
  unfold startEarly
  refine fillStates_fine ?_ ?_
  · intro m w
    show (loadTables xs s).flow.inputs[m].windows[w].state = _
    simp only [hflow]
    exact hfree m w
  · show (loadTables xs s).flow.Fine
    rw [hflow]
    exact h

theorem startUp_fine {k : ResetKind} {xs : List Strike} (hfree : AllFree s) (h : s.flow.Fine) : (startUp k xs s).flow.Fine := by
  have hearly := startEarly_fine (k := k) (xs := xs) hfree h
  rw [startUp_eq]
  generalize startEarly k xs s = a at hearly
  have hsteps := (SameBut.foldl startStep_sameBut allSteps a).keepsFine (by decide) hearly
  generalize allSteps.foldl startStep a = b at hsteps
  have hmiddle : (startMiddle b).flow.Fine := (setNextCount_sameBut _).keepsFine (by decide)
    ((SameBut.foldl startElements_sameBut allLimits b).keepsFine (by decide) hsteps)
  have hswitching := (startSwitching_sameBut _).keepsFine (by decide) hmiddle
  generalize startSwitching (startMiddle b) = c at hswitching
  have hclock : (startAgeClock c).flow.Fine := hswitching
  exact (armAtStartUp_sameBut _).keepsFine (by decide)
    ((SameBut.foldl startUnit_sameBut allUnits _).keepsFine (by decide) hclock)

theorem tick_flow (s : State) : (tick s).flow = s.flow := rfl

/-- Every command keeps the engine invariant. -/
theorem exec_engineOk {c : Instr} (h : EngineOk s) (hexec : exec c s = .next t) : EngineOk t := by
  obtain ⟨hfree, hfine⟩ := engineOk_iff.1 h
  cases hphase : s.phase with
  | running =>
    rcases exec_fine hphase hfine hexec with ht | ⟨k, u, rfl⟩
    · refine engineOk_iff.2 ⟨fun hreset => ?_, ht⟩
      rcases exec_leaves_inReset hexec hreset with ⟨hnot, -⟩ | ⟨k, u, rfl⟩
      · exact absurd hphase hnot
      · exact (engineOk_iff.1 (resetPart_engineOk k u)).1 hreset
    · exact resetPart_engineOk k u
  | inReset k =>
    have hnot : s.phase ≠ .running := by rw [hphase]; nofun
    rcases exec_inReset hphase hexec with hsame | hcold | ⟨xs, hstart⟩
    · have hflow : t.flow = s.flow := hsame.flow_eq (by decide) (by decide)
      refine engineOk_iff.2 ⟨fun _ m w => ?_, hflow ▸ hfine⟩
      show t.flow.inputs[m].windows[w].state = _
      simp only [hflow]
      exact hfree hnot m w
    · exact hcold ▸ resetPart_engineOk .cold s
    · rw [hstart]
      exact engineOk_iff.2 ⟨fun hreset => absurd (startUp_phase _ _ _) hreset, startUp_fine (hfree hnot) hfine⟩

theorem step_engineOk (h : EngineOk s) (hstep : step s = .next t) : EngineOk t := by
  unfold step at hstep
  split at hstep
  next c rest _ => exact exec_engineOk (s := { s with pending := rest }) h hstep
  next =>
    unfold idle at hstep
    split at hstep
    next => cases hstep; exact h
    next =>
      split at hstep
      next => exact exec_engineOk h hstep
      next =>
        split at hstep
        next => exact exec_engineOk h hstep
        next =>
          cases hstep
          obtain ⟨hfree, hfine⟩ := engineOk_iff.1 h
          exact engineOk_iff.2 ⟨hfree, (tick_flow s).symm ▸ hfine⟩

end

end Sys2Proof.Machine


namespace Sys2Proof.Machine

/-! ## The engine queue and its head (R19, R20) -/

section
variable {s : State} {m : Fin 38} {w : Fin 2}

theorem findWindow_queued (hw : (s.window m w).state = .queued) (hfirst : ∀ w', w' < w → (s.window m w').state ≠ .queued) :
    findWindow m (· = .queued) s = some w :=
  find?_finRange_eq_some.2 ⟨by simpa using hw, fun v hv => by simpa using hfirst v hv⟩

theorem findWindow_notQueued (h : ∀ w : Fin 2, (s.window m w).state ≠ .queued) : findWindow m (· = .queued) s = none :=
  find?_finRange_eq_none.2 fun v => by simpa using h v

theorem engineTake_idle (h : s.engine.computing ≠ none ∨ s.engine.queue = []) : engineTake s = s := by
  unfold engineTake
  split
  next k rest hcomputing hqueue =>
    rcases h with h | h
    · exact absurd hcomputing h
    · rw [h] at hqueue
      cases hqueue
  next => rfl

/-- R20: the head of the queue is taken, and its QUEUED window is computed. -/
theorem engineTake_head {rest : List (Fin 38)} (hcomputing : s.engine.computing = none) (hqueue : s.engine.queue = m :: rest)
    (hw : (s.window m w).state = .queued) (hfirst : ∀ w', w' < w → (s.window m w').state ≠ .queued) :
    engineTake s = { s with
      engine := { s.engine with queue := rest, computing := some (m, w) }
      acceptance := { s.acceptance with inputs := upd s.acceptance.inputs m fun x =>
        { x with windows := x.windows.set w { s.window m w with state := .computing false } } } } := by
  unfold engineTake
  rw [hcomputing, hqueue]
  dsimp only
  rw [findWindow_queued hw hfirst]
  rfl

theorem engineTake_none {rest : List (Fin 38)} (hcomputing : s.engine.computing = none) (hqueue : s.engine.queue = m :: rest)
    (h : ∀ w : Fin 2, (s.window m w).state ≠ .queued) :
    engineTake s = { s with engine := { s.engine with queue := rest } } := by
  unfold engineTake
  rw [hcomputing, hqueue]
  dsimp only
  rw [findWindow_notQueued h, hcomputing]

theorem computationEnds_acts (hcomputing : s.engine.computing = some (m, w)) : computationEnds s = engineTake (endWait m w
    (let u := ({ s with engine := { s.engine with computing := none } }).updInput m fun x =>
        { x with windows := x.windows.set w Window.empty }
     if (s.window m w).state = .computing true then u
     else publish m (computeRecord (s.window m w) s.memory.tables.input[m].row.nominal s.engine.results[m]) u)) := by
  unfold computationEnds
  rw [hcomputing]
  rfl

theorem computationEnds_none (hcomputing : s.engine.computing = none) : computationEnds s = s := by
  unfold computationEnds
  rw [hcomputing]

end

/-- Settles O6. -/
theorem engineQueue : Obligations.EngineQueue := by
  refine ⟨fun m s => ⟨fun hbusy => ?_, fun hcomputing hqueue w hw hfirst => ?_⟩, fun s => ⟨engineTake_idle,
    fun hcomputing m rest hqueue => ⟨fun w hw hfirst => engineTake_head hcomputing hqueue hw hfirst,
      engineTake_none hcomputing hqueue⟩⟩, fun s hs => ⟨fun m w hcomputing => ?_, fun hcomputing => ?_⟩,
    fun s t => step_engineOk⟩
  · exact engineTake_idle (s := { s with engine := { s.engine with queue := s.engine.queue ++ [m] } }) (.inl hbusy)
  · have hjoined : s.engine.queue ++ [m] = m :: s.engine.queue := by
      rw [hqueue]
      rfl
    exact engineTake_head (s := { s with engine := { s.engine with queue := s.engine.queue ++ [m] } })
      hcomputing hjoined hw hfirst
  · exact exec_of_body rfl hs (computationEnds_acts (s := s.dropMail .computationEnd) hcomputing)
  · exact exec_of_body_self rfl hs (computationEnds_none (s := s.dropMail .computationEnd) hcomputing)

end Sys2Proof.Machine


namespace Sys2Proof.Machine

/-! ## Fields, rows and checks of a write (R162) -/

theorem clampTo_eq {lo hi : Nat} (h : lo ≤ hi) (x : Int) : clampTo lo hi x = (max (lo : Int) (min (hi : Int) x)).toNat := by
  unfold clampTo
  split
  · omega
  · split <;> omega

theorem within_iff {lo hi : Nat} {x : Int} : within lo hi x = true ↔ (lo : Int) ≤ x ∧ x ≤ (hi : Int) := by
  unfold within
  rw [Bool.and_eq_true, decide_eq_true_eq, decide_eq_true_eq]

theorem clamps_iff {lo hi : Nat} {x : Int} : clamps lo hi x = true ↔ ¬ ((lo : Int) ≤ x ∧ x ≤ (hi : Int)) := by
  unfold clamps
  rw [Bool.not_eq_true', ← within_iff, Bool.not_eq_true]

/-- An answer by the first check that fails, check by check. -/
theorem elim_firstRefusal_cons {α : Type} (b : Bool) (c : Code) (rest : List (Bool × Code)) (x : α) (f : Code → α) :
    (firstRefusal ((b, c) :: rest)).elim x f = if b = true then (firstRefusal rest).elim x f else f c := by
  cases b <;> rfl

theorem answer_eq_elim {α : Type} (o : Option Code) (x : α) : (match o with
    | some c => (Except.error c : Except Code α)
    | none => .ok x) = o.elim (.ok x) .error := by
  cases o <;> rfl

/-- The rows of a request are placed on the numbers that follow its first row. -/
theorem placeRows_eq {α : Type} {n : Nat} {first : Nat} {raws : List α} {placed : List (Fin n × α)}
    (hplace : placed.map (fun x => x.1.val) = List.range' first raws.length) (hrows : placed.map Prod.snd = raws) :
    placeRows first raws = placed := by
  induction placed generalizing first raws with
  | nil =>
    subst hrows
    rfl
  | cons x placed ih =>
    subst hrows
    simp only [List.map_cons, List.length_cons, List.range'_succ, List.cons.injEq] at hplace
    obtain ⟨hfirst, hrest⟩ := hplace
    have hlt : first < n := hfirst ▸ x.1.isLt
    rw [List.map_cons, placeRows, dif_pos hlt, ih hrest rfl]
    congr 1
    exact Prod.ext (Fin.ext hfirst.symm) rfl

theorem placed_nodup {α : Type} {n first len : Nat} {placed : List (Fin n × α)}
    (hplace : placed.map (fun x => x.1.val) = List.range' first len) : (placed.map Prod.fst).Nodup := by
  have hnodup : (placed.map fun x => x.1.val).Nodup := hplace ▸ List.nodup_range'
  exact List.Nodup.of_map Fin.val (by simpa [Function.comp_def] using hnodup)

/-- The table as the rows of a request leave it. -/
theorem putRows_eq {α β : Type} {n first len : Nat} {placed : List (Fin n × β)} {row : Fin n × β → Taken α}
    {t v : Vector (Held α) n} (hplace : placed.map (fun x => x.1.val) = List.range' first len)
    (hput : ∀ x ∈ placed, v[x.1] = Held.fresh (row x).1) (hkeep : ∀ i, (∀ x ∈ placed, x.1 ≠ i) → v[i] = t[i]) :
    putRows (placed.map fun x => (x.1, row x)) t = v := by
  have hnodup := placed_nodup hplace
  clear hplace
  unfold putRows
  induction placed generalizing t with
  | nil => exact Vector.ext fun i hi => (hkeep ⟨i, hi⟩ nofun).symm
  | cons x placed ih =>
    obtain ⟨hx, hnodup⟩ := List.nodup_cons.1 hnodup
    rw [List.map_cons, List.foldl_cons]
    refine ih (fun y hy => hput y (List.mem_cons_of_mem _ hy)) (fun i hi => ?_) hnodup
    by_cases hix : x.1 = i
    · subst hix
      rw [set_same]
      exact hput x List.mem_cons_self
    · rw [set_other _ (Ne.symm hix)]
      refine hkeep i fun y hy => ?_
      rcases List.mem_cons.1 hy with rfl | hy
      · exact hix
      · exact hi y hy

/-- A row of a request is judged as its raw row is. -/
theorem exists_raw_iff {α : Type} {n : Nat} {placed : List (Fin n × α)} {raws : List α} (hrows : placed.map Prod.snd = raws)
    {p : α → Prop} : (∃ x ∈ placed, p x.2) ↔ ∃ r ∈ raws, p r :=
  by
  subst hrows
  simp only [List.mem_map, exists_exists_and_eq_and]

theorem forall_raw_iff {α : Type} {n : Nat} {placed : List (Fin n × α)} {raws : List α} (hrows : placed.map Prod.snd = raws)
    {p : α → Prop} : (∀ x ∈ placed, p x.2) ↔ ∀ r ∈ raws, p r :=
  by
  subst hrows
  exact List.forall_mem_map.symm

theorem anyClamped_iff {α β γ : Type} {placed : List (γ × β)} {row : γ × β → Taken α} :
    anyClamped (placed.map fun x => (x.1, row x)) = true ↔ ∃ x ∈ placed, (row x).2 = true := by
  unfold anyClamped
  rw [List.any_map, List.any_eq_true]
  rfl

/-! ### Rows judged one after the other (R40) -/

theorem judgeRows_ok {α β : Type} {judge : α → Except Code β} {f : α → β} {xs : List α}
    (h : ∀ x ∈ xs, judge x = .ok (f x)) : judgeRows judge xs = .ok (xs.map f) := by
  induction xs with
  | nil => rfl
  | cons x xs ih =>
    unfold judgeRows
    rw [h x List.mem_cons_self, ih fun y hy => h y (List.mem_cons_of_mem _ hy)]
    rfl

/-- The first row that fails refuses the request. -/
theorem judgeRows_error {α β : Type} {judge : α → Except Code β} {f : α → β} {before after : List α} {x : α} {c : Code}
    (hbefore : ∀ y ∈ before, judge y = .ok (f y)) (hx : judge x = .error c) :
    judgeRows judge (before ++ x :: after) = .error c := by
  induction before with
  | nil =>
    rw [List.nil_append, judgeRows, hx]
  | cons y before ih =>
    rw [List.cons_append, judgeRows, hbefore y List.mem_cons_self, ih fun z hz => hbefore z (List.mem_cons_of_mem _ hz)]

/-- Where every failure has one code, a row that fails refuses the request with it. -/
theorem judgeRows_error_of_mem {α β : Type} {judge : α → Except Code β} {xs : List α} {c : Code}
    (hcode : ∀ x ∈ xs, ∀ d, judge x = .error d → d = c) (hfail : ∃ x ∈ xs, ∃ d, judge x = .error d) :
    judgeRows judge xs = .error c := by
  induction xs with
  | nil =>
    obtain ⟨x, hx, _⟩ := hfail
    cases hx
  | cons y xs ih =>
    unfold judgeRows
    cases hy : judge y with
    | error d => rw [hcode y List.mem_cons_self d hy]
    | ok z =>
      obtain ⟨x, hx, d, hd⟩ := hfail
      rcases List.mem_cons.1 hx with rfl | hx
      · rw [hd] at hy
        cases hy
      · rw [ih (fun w hw => hcode w (List.mem_cons_of_mem _ hw)) ⟨x, hx, d, hd⟩]

end Sys2Proof.Machine


namespace Sys2Proof.Machine

/-! ## WRITE_ROWS at the agent (R160 to R162) -/

section
variable {first : Nat} {rows : RawRows} {s : State}

theorem actWriteRows_unaddressed (h : addressed (rawTable rows) first (rawCount rows) = none) :
    actWriteRows first rows s = (Answer.plain .range, s) := by
  unfold actWriteRows
  rw [h]
  rfl

theorem actWriteRows_addressed (h : addressed (rawTable rows) first (rawCount rows) ≠ none) (hs : Intact s) :
    actWriteRows first rows s =
      if s.keylock then (Answer.plain .locked, s)
      else if s.memory.storing then (Answer.plain .busy, s)
      else match writeTable first rows s with
        | .error c => (Answer.plain c, s)
        | .ok x => ({ Answer.plain .ok with clamped := x.1 }, x.2) := by
  unfold actWriteRows
  rw [if_neg (by simpa using h), readUsed_intact hs]
  rfl

end

/-! ## The Yard Table (R113, R114) -/

theorem yardClamped_iff {r : RawYard} : yardClamped r = true ↔
    ¬ (within 1 8388607 r.uLo = true ∧ within 1 8388607 r.uHi = true ∧ within 1 8388607 r.stepRise = true ∧
      within 0 8388607 r.deadLevel = true ∧ within 1 600 r.highDelay = true ∧ within 1 600 r.lowDelay = true ∧
      within 5 600 r.settleTime = true ∧ within 1 100 r.deadDelay = true ∧ within 5 600 r.restoreHold = true ∧
      within 5 120 r.selectTimeout = true) := by
  unfold yardClamped clamps
  grind

theorem startModeOf_isSome {n : Nat} : (startModeOf n).isSome = true ↔ n = 1 ∨ n = 2 := by
  unfold startModeOf
  grind

theorem startModeOf_getD {n : Nat} (h : n = 1 ∨ n = 2) : (startModeOf n).getD .manual = if n = 1 then .auto else .manual := by
  rcases h with rfl | rfl <;> rfl

section
variable {r : RawYard} {s : State}

/-- The fields that R113 does not clamp, as they may be. -/
def yardFieldsOk (r : RawYard) : Bool :=
  (r.frequency = 50 || r.frequency = 60) && within 1 8 r.maxSteps && (startModeOf r.startMode).isSome

theorem yardFieldsOk_iff : yardFieldsOk r = true ↔
    (r.frequency = 50 ∨ r.frequency = 60) ∧ 1 ≤ r.maxSteps ∧ r.maxSteps ≤ 8 ∧ (r.startMode = 1 ∨ r.startMode = 2) := by
  simp only [yardFieldsOk, Bool.and_eq_true, Bool.or_eq_true, decide_eq_true_eq, within_iff, startModeOf_isSome, and_assoc]
  rfl

theorem writeYardRow_eq (r : RawYard) (s : State) : writeYardRow r s =
    if yardFieldsOk r then
      if (yardTaken r).uLo + (yardTaken r).stepRise < (yardTaken r).uHi then
        if (yardTaken r).deadLevel < (yardTaken r).uLo then
          .ok (yardClamped r, expireReached (s.putTables { s.memory.tables with yard := Held.fresh (yardTaken r) }))
        else .error .order
      else .error .bandNarrow
    else .error .range := by
  unfold writeYardRow yardChecks
  refine Eq.trans (answer_eq_elim _ _) ?_
  simp only [elim_firstRefusal_cons, decide_eq_true_eq]
  rfl

end

/-! ## The Input Table (R5) -/

section
variable {x : Fin 38 × RawInput}

theorem judgeInput_ok (h : 1 ≤ x.2.nominal ∧ x.2.nominal ≤ 8388607 ∧ x.2.kind = if x.1.val < 3 then 1 else 2) :
    judgeInput x = .ok (x.1, ({ nominal := x.2.nominal.toNat }, false)) := by
  obtain ⟨hlow, hhigh, hkind⟩ := h
  exact if_pos ⟨within_iff.2 ⟨hlow, hhigh⟩, hkind.trans (inputKindNumber_eq x.1).symm⟩

theorem judgeInput_error (h : ¬ (1 ≤ x.2.nominal ∧ x.2.nominal ≤ 8388607 ∧ x.2.kind = if x.1.val < 3 then 1 else 2)) :
    judgeInput x = .error .range := by
  refine if_neg fun hgood => h ?_
  rw [inputKindNumber_eq, within_iff] at hgood
  exact ⟨hgood.1.1, hgood.1.2, hgood.2⟩

theorem judgeInput_error_code {d : Code} (h : judgeInput x = .error d) : d = .range := by
  unfold judgeInput at h
  split at h
  · cases h
  · exact (Except.error.inj h).symm

end

end Sys2Proof.Machine


namespace Sys2Proof.Machine

/-! ## The Resonance Table (R40) -/

section
variable {x : Fin 9 × RawRes}

/-- What R40 asks of a row first: as many orders as it may hold, each of them 2 to 15. -/
def resListed (orders : List Int) : Bool := orders.length ≤ 4 && orders.all (within 2 15)

theorem resListed_iff {orders : List Int} : resListed orders = true ↔ orders.length ≤ 4 ∧ ∀ x ∈ orders, 2 ≤ x ∧ x ≤ 15 := by
  unfold resListed
  rw [Bool.and_eq_true, decide_eq_true_eq, List.all_eq_true]
  exact and_congr_right' (forall₂_congr fun _ _ => within_iff)

theorem judgeRes_eq (x : Fin 9 × RawRes) : judgeRes x =
    if resListed x.2.orders then
      if x.2.orders.Nodup then
        if x.2.orders.Pairwise (· < ·) then .ok (x.1, ({ orders := x.2.orders.map Int.toNat }, false))
        else .error .order
      else .error .duplicate
    else .error .range := by
  unfold judgeRes
  refine Eq.trans (answer_eq_elim _ _) ?_
  simp only [elim_firstRefusal_cons, decide_eq_true_eq]
  rfl

theorem judgeRes_ok (hlisted : resListed x.2.orders = true) (horder : x.2.orders.Pairwise (· < ·)) :
    judgeRes x = .ok (x.1, ({ orders := x.2.orders.map Int.toNat }, false)) := by
  have hdistinct : x.2.orders.Nodup := horder.imp ne_of_lt
  rw [judgeRes_eq, if_pos hlisted, if_pos hdistinct, if_pos horder]

theorem writeRes_error {first : Nat} {raws before after : List RawRes} {r : RawRes} {placed : List (Fin 9 × RawRes)} {s : State}
    {c : Code} (hplace : placed.map (fun x => x.1.val) = List.range' first raws.length) (hrows : placed.map Prod.snd = raws)
    (hsplit : raws = before ++ r :: after)
    (hbefore : ∀ r ∈ before, resListed r.orders = true ∧ r.orders.Pairwise (· < ·))
    (hfail : ∀ i : Fin 9, judgeRes (i, r) = .error c) : writeRes first raws s = .error c := by
  subst hsplit
  obtain ⟨fine, rest, rfl, hfine, hrest⟩ := List.map_eq_append_iff.1 hrows
  obtain ⟨x, rest, rfl, hx, -⟩ := List.map_eq_cons_iff.1 hrest
  have hjudge : judgeRes x = .error c := by
    rw [← Prod.mk.eta (p := x), hx]
    exact hfail x.1
  have hfirst := (forall_raw_iff hfine).2 hbefore
  unfold writeRes
  rw [placeRows_eq hplace hrows,
    judgeRows_error (judge := judgeRes) (fun y hy => judgeRes_ok (hfirst y hy).1 (hfirst y hy).2) hjudge]

end

/-! ## The Harmonic Limit Table (R39, R41, R42) -/

theorem flagOf_eq_none {n : Nat} : flagOf n = none ↔ n ≠ 1 ∧ n ≠ 2 := by
  unfold flagOf
  grind

theorem flagOf_flag {n : Nat} (h : n = 1 ∨ n = 2) : flagOf n = some (decide (n = 2)) := by
  rcases h with rfl | rfl <;> rfl

section
variable {x : Fin 15 × RawHarm}

/-- A Harmonic Limit row as it is taken, its levels and counts clamped (R39). -/
def harmTaken (r : RawHarm) : Taken HarmRow :=
  ({ supervise := r.supervise = 2, alarmLevel := clampTo 1 10000 r.alarmLevel, blockLevel := clampTo 1 10000 r.blockLevel
     pickup := clampTo 1 600 r.pickup, dropout := clampTo 1 600 r.dropout },
   clamps 1 10000 r.alarmLevel || clamps 1 10000 r.blockLevel || clamps 1 600 r.pickup || clamps 1 600 r.dropout)

theorem judgeHarm_ok (h : x.2.supervise = 1 ∨ x.2.supervise = 2) : judgeHarm x = .ok (x.1, harmTaken x.2) := by
  unfold judgeHarm
  dsimp only
  rw [flagOf_flag h]
  rfl

theorem judgeHarm_error (h : x.2.supervise ≠ 1 ∧ x.2.supervise ≠ 2) : judgeHarm x = .error .range := by
  unfold judgeHarm
  dsimp only
  rw [flagOf_eq_none.2 h]

theorem judgeHarm_error_code {d : Code} (h : judgeHarm x = .error d) : d = .range := by
  unfold judgeHarm at h
  dsimp only at h
  split at h
  · exact (Except.error.inj h).symm
  · cases h

theorem harmTaken_clamped_iff {r : RawHarm} : (harmTaken r).2 = true ↔
    ¬ (within 1 10000 r.alarmLevel = true ∧ within 1 10000 r.blockLevel = true ∧ within 1 600 r.pickup = true ∧
      within 1 600 r.dropout = true) := by
  unfold harmTaken clamps
  grind

end

theorem harmRewritten_eq (s : State) (i : Fin 15) : harmRewritten s i =
    let formed := reformBlock (if s.memory.tables.harmonic[i].row.supervise then createElements i s else removeElements i s) i
    if s.harmonic.block[i] = true ∧ formed.harmonic.block[i] = false then zeroSustain i formed else formed := by
  unfold harmRewritten
  simp only [Bool.and_eq_true, Bool.not_eq_true']

/-! ### The elements of a row (R42, R45) -/

/-- A change of every entry of a vector, one after the other, is the change of them all. -/
theorem foldl_upd_finRange {α : Type} {n : Nat} (f : α → α) (v : Vector α n) :
    (List.finRange n).foldl (fun v k => upd v k f) v = v.map f := by
  have hfold (l : List (Fin n)) (hnodup : l.Nodup) (v : Vector α n) (j : Fin n) :
      (l.foldl (fun v k => upd v k f) v)[j] = if j ∈ l then f v[j] else v[j] := by
    induction l generalizing v with
    | nil => rfl
    | cons k l ih =>
      obtain ⟨hk, hnodup⟩ := List.nodup_cons.1 hnodup
      rw [List.foldl_cons, ih hnodup]
      by_cases hjk : j = k
      · subst hjk
        rw [if_neg hk, if_pos List.mem_cons_self]
        exact set_same _ _ _
      · have hother : (upd v k f)[j] = v[j] := set_other _ hjk _
        rw [hother]
        simp only [List.mem_cons, hjk, false_or]
  refine Vector.ext fun j hj => ?_
  rw [Vector.getElem_map]
  exact (hfold _ (List.nodup_finRange n) v ⟨j, hj⟩).trans (if_pos (List.mem_finRange _))

theorem upd_fixed {α : Type} {n : Nat} {v : Vector α n} {k : Fin n} {f : α → α} (h : f v[k] = v[k]) : upd v k f = v := by
  unfold upd
  rw [h]
  exact Vector.set_getElem_self k.isLt

/-- The elements of the harmonic supervisor, and nothing else of it, as `e` has them. -/
def withElements (e : Vector (Vector (Option Element) 15) 6) (s : State) : State :=
  { s with harmonic := { s.harmonic with elements := e } }

/-- What becomes of a row of elements in which the element `i` comes into being where it does not exist. -/
theorem created_some {v : Vector (Option Element) 15} {i : Fin 15} {x : Element} (h : v[i] = some x) :
    v.set i (some (v[i].getD .off)) = v := by
  have hsame : some (v[i].getD .off) = v[i] := by
    rw [h]
    rfl
  rw [hsame]
  exact Vector.set_getElem_self i.isLt

theorem created_none {v : Vector (Option Element) 15} {i : Fin 15} (h : v[i] = none) :
    v.set i (some (v[i].getD .off)) = v.set i (some .off) := by
  rw [h]
  rfl

theorem createElements_eq (i : Fin 15) (s : State) : createElements i s =
    withElements (s.harmonic.elements.map fun v => v.set i (some (v[i].getD .off))) s := by
  have hstep (s : State) (k : Fin 6) : (match s.harmonic.elements[k][i] with
      | some _ => s
      | none => setElement k i (some .off) s) =
      withElements (upd s.harmonic.elements k fun v => v.set i (some (v[i].getD .off))) s := by
    split
    · next x hx =>
      rw [upd_fixed (created_some hx)]
      rfl
    · next hx =>
      unfold upd
      dsimp only
      rw [created_none hx]
      rfl
  have hfold (l : List (Fin 6)) (s : State) : l.foldl (fun s k => match s.harmonic.elements[k][i] with
      | some _ => s
      | none => setElement k i (some .off) s) s =
      withElements (l.foldl (fun e k => upd e k fun v => v.set i (some (v[i].getD .off))) s.harmonic.elements) s := by
    induction l generalizing s with
    | nil => rfl
    | cons k l ih =>
      rw [List.foldl_cons, hstep, ih]
      rfl
  exact (hfold _ s).trans (congrArg (fun e => withElements e s) (foldl_upd_finRange _ _))

/-- The event of an element of `s` that ceases to exist (R45). -/
def logEnded (i : Fin 15) (e : Vector (Vector (Option Element) 15) 6) (u : State) (k : Fin 6) : State :=
  match e[k][i] with
  | some .on => logEvent .harmonicAlarmOff (.input ⟨k.val, by omega⟩) (some (if i.val = 14 then 0 else i.val + 2)) u
  | some (.dropping _) => logEvent .harmonicAlarmOff (.input ⟨k.val, by omega⟩) (some (if i.val = 14 then 0 else i.val + 2)) u
  | _ => u

theorem removeElement_withElements (i : Fin 15) (e : Vector (Vector (Option Element) 15) 6) (u : State) (k : Fin 6) :
    removeElement i (withElements e u) k = withElements (upd e k fun v => v.set i none) (logEnded i e u k) := by
  rw [removeElement_eq]
  unfold logEnded
  change (if ((e[k][i]).map Element.standing).getD false then _ else _) = _
  rcases e[k][i] with _ | _ | _ | _ | _ <;> rfl

theorem logEnded_harmonic (i : Fin 15) (e : Vector (Vector (Option Element) 15) 6) (u : State) (k : Fin 6) :
    (logEnded i e u k).harmonic = u.harmonic := by
  unfold logEnded
  split <;> rfl

theorem foldl_logEnded_harmonic (i : Fin 15) (e : Vector (Vector (Option Element) 15) 6) (l : List (Fin 6)) (u : State) :
    (l.foldl (logEnded i e) u).harmonic = u.harmonic := by
  induction l generalizing u with
  | nil => rfl
  | cons k l ih => exact (ih _).trans (logEnded_harmonic i e u k)

theorem removeElements_eq (i : Fin 15) (s : State) : removeElements i s =
    let u := (List.finRange 6).foldl (logEnded i s.harmonic.elements) s
    withElements (u.harmonic.elements.map fun v => v.set i none) u := by
  have hfold (l : List (Fin 6)) (hnodup : l.Nodup) (e : Vector (Vector (Option Element) 15) 6) (u : State)
      (hsame : ∀ k ∈ l, e[k] = s.harmonic.elements[k]) : l.foldl (removeElement i) (withElements e u) =
      withElements (l.foldl (fun e k => upd e k fun v => v.set i none) e) (l.foldl (logEnded i s.harmonic.elements) u) := by
    induction l generalizing e u with
    | nil => rfl
    | cons k l ih =>
      obtain ⟨hk, hnodup⟩ := List.nodup_cons.1 hnodup
      have hlog : logEnded i e u k = logEnded i s.harmonic.elements u k := by
        unfold logEnded
        rw [hsame k List.mem_cons_self]
      rw [List.foldl_cons, removeElement_withElements, hlog]
      refine ih hnodup _ _ fun j hj => ?_
      exact (set_other _ (fun h : j = k => hk (h ▸ hj)) _).trans (hsame j (List.mem_cons_of_mem _ hj))
  have hall := hfold _ (List.nodup_finRange 6) s.harmonic.elements s fun _ _ => rfl
  rw [foldl_upd_finRange] at hall
  dsimp only
  rw [foldl_logEnded_harmonic]
  exact hall

end Sys2Proof.Machine


namespace Sys2Proof.Machine

/-! ## The Link Table (R155, R156) -/

/-- What R155 asks of the fields that it does not clamp. -/
def linkFieldsOk (r : RawLink) : Bool :=
  r.station ≠ 0 && !isGroup r.station && within 0x0600 0xFFFF r.linkType && r.requesters.length ≤ 4

theorem linkFieldsOk_iff {r : RawLink} : linkFieldsOk r = true ↔
    r.station ≠ 0 ∧ isGroup r.station = false ∧ 0x0600 ≤ r.linkType ∧ r.linkType ≤ 0xFFFF ∧ r.requesters.length ≤ 4 := by
  simp only [linkFieldsOk, Bool.and_eq_true, decide_eq_true_eq, Bool.not_eq_true', within_iff, and_assoc]
  rfl

theorem writeLinkRow_eq (r : RawLink) (s : State) : writeLinkRow r s =
    if linkFieldsOk r then
      if r.requesters.Nodup then
        .ok (clamps 1 60 r.period, linkRewritten (linkTaken r) (s.putTables { s.memory.tables with link := Held.fresh (linkTaken r) }))
      else .error .duplicate
    else .error .range := by
  unfold writeLinkRow linkChecks
  refine Eq.trans (answer_eq_elim _ _) ?_
  simp only [elim_firstRefusal_cons, decide_eq_true_eq]
  rfl

end Sys2Proof.Machine


namespace Sys2Proof.Machine

/-! ## The table laws, entry by entry (R2, R134) -/

/-- A symmetric relation between the entries of a vector, by their positions. -/
theorem vector_pairwise_iff {α : Type} {n : Nat} {v : Vector α n} {R : α → α → Prop} (hsymm : ∀ {a b}, R a b → R b a) :
    v.toList.Pairwise R ↔ ∀ i j : Fin n, i ≠ j → R v[i] v[j] := by
  rw [List.pairwise_iff_getElem]
  refine ⟨fun h i j hij => ?_, fun h i j hi hj hij => ?_⟩
  · rcases Nat.lt_or_gt_of_ne (Fin.val_ne_of_ne hij) with hlt | hgt
    · exact h i j (by simp) (by simp) hlt
    · exact hsymm (h j i (by simp) (by simp) hgt)
  · rw [Vector.length_toList] at hi hj
    exact h ⟨i, hi⟩ ⟨j, hj⟩ fun he => Nat.ne_of_lt hij (congrArg Fin.val he)

theorem unitLaw_iff {v : Vector (Held UnitRow) 9} : unitLaw v = true ↔ ∀ i j : Fin 9, i ≠ j → v[i].damaged = false →
    v[j].damaged = false → v[i].row.address ≠ 0 → v[i].row.address ≠ v[j].row.address := by
  unfold unitLaw
  rw [decide_eq_true_eq, List.Nodup, List.pairwise_map, List.pairwise_filter, vector_pairwise_iff]
  · refine forall₃_congr fun i j _ => ?_
    simp only [Bool.and_eq_true, Bool.not_eq_true', decide_eq_true_eq]
    grind
  · intro a b h hb ha he
    exact h ha hb he.symm

theorem mem_mappedInputs {r : StreamRow} {m : Fin 38} : m ∈ mappedInputs r ↔ ∃ j : Fin 12, r.map[j] = some m := by
  unfold mappedInputs
  simp only [List.mem_filterMap, id, exists_eq_right, Vector.mem_toList_iff]
  rw [Vector.mem_iff_getElem]
  exact ⟨fun ⟨j, hj, he⟩ => ⟨⟨j, hj⟩, he⟩, fun ⟨j, he⟩ => ⟨j, j.isLt, he⟩⟩

theorem mappedInputs_nodup_iff {r : StreamRow} : (mappedInputs r).Nodup ↔
    ∀ (p q : Fin 12) (m : Fin 38), r.map[p] = some m → r.map[q] = some m → p = q := by
  unfold mappedInputs
  rw [List.Nodup, List.pairwise_filterMap, vector_pairwise_iff]
  · refine ⟨fun h p q m hp hq => ?_, fun h p q hpq m hp m' hq he => hpq (h p q m hp (he ▸ hq))⟩
    by_contra hpq
    exact h p q hpq m hp m hq rfl
  · exact fun h m hm m' hm' he => h m' hm' m hm he.symm

theorem tags_nodup_iff {v : Vector (Held StreamRow) 16} :
    ((((v.toList.filter fun h => !h.damaged).map fun h => h.row).filter fun r => r.inUse).map
      fun r => (r.address, r.streamNumber)).Nodup ↔
    ∀ i j : Fin 16, i ≠ j → v[i].damaged = false → v[j].damaged = false → v[i].row.inUse = true →
      v[j].row.inUse = true → v[i].row.address = v[j].row.address → v[i].row.streamNumber ≠ v[j].row.streamNumber := by
  rw [List.Nodup, List.pairwise_map, List.pairwise_filter, List.pairwise_map, List.pairwise_filter, vector_pairwise_iff]
  · refine forall₃_congr fun i j _ => ?_
    simp only [Bool.not_eq_true', ne_eq, Prod.mk.injEq, not_and]
  · exact fun h hb ha hb' ha' he => h ha hb ha' hb' he.symm

theorem inputs_nodup_iff {v : Vector (Held StreamRow) 16} :
    (((v.toList.filter fun h => !h.damaged).map fun h => h.row).flatMap mappedInputs).Nodup ↔
    ∀ (i j : Fin 16) (p q : Fin 12) (m : Fin 38), v[i].damaged = false → v[j].damaged = false →
      v[i].row.map[p] = some m → v[j].row.map[q] = some m → i = j ∧ p = q := by
  have hwithin : (∀ r ∈ (v.toList.filter fun h => !h.damaged).map fun h => h.row, (mappedInputs r).Nodup) ↔
      ∀ (i : Fin 16) (p q : Fin 12) (m : Fin 38), v[i].damaged = false → v[i].row.map[p] = some m →
        v[i].row.map[q] = some m → p = q := by
    simp only [List.forall_mem_map, List.mem_filter, Vector.mem_toList_iff, Bool.not_eq_true', mappedInputs_nodup_iff]
    refine ⟨fun h i p q m hi => h v[i] ⟨Vector.getElem_mem i.isLt, hi⟩ p q m, fun h x ⟨hx, hdam⟩ p q m => ?_⟩
    obtain ⟨i, hi, rfl⟩ := Vector.mem_iff_getElem.1 hx
    exact h ⟨i, hi⟩ p q m hdam
  have hacross : ((v.toList.filter fun h => !h.damaged).map fun h => h.row).Pairwise
      (fun a b => List.Disjoint (mappedInputs a) (mappedInputs b)) ↔
      ∀ i j : Fin 16, i ≠ j → v[i].damaged = false → v[j].damaged = false → ∀ (p q : Fin 12) (m : Fin 38),
        v[i].row.map[p] = some m → v[j].row.map[q] ≠ some m := by
    rw [List.pairwise_map, List.pairwise_filter, vector_pairwise_iff]
    · refine forall₃_congr fun i j _ => ?_
      simp only [Bool.not_eq_true', List.disjoint_left, mem_mappedInputs]
      grind
    · exact fun h hb ha => (h ha hb).symm
  rw [List.nodup_flatMap, hwithin]
  refine (and_congr_right' hacross).trans ⟨fun ⟨hw, ha⟩ i j p q m hi hj hp hq => ?_, fun h => ⟨?_, ?_⟩⟩
  · by_cases hij : i = j
    · subst hij
      exact ⟨rfl, hw i p q m hi hp hq⟩
    · exact absurd hq (ha i j hij hi hj p q m hp)
  · exact fun i p q m hi hp hq => (h i i p q m hi hi hp hq).2
  · exact fun i j hij hi hj p q m hp hq => hij (h i j p q m hi hj hp hq).1

/-- R2, check 3, row by row: the source tags, and the inputs in the channel maps. -/
theorem streamLaw_iff {v : Vector (Held StreamRow) 16} : streamLaw v = true ↔
    (∀ i j : Fin 16, i ≠ j → v[i].damaged = false → v[j].damaged = false → v[i].row.inUse = true →
      v[j].row.inUse = true → v[i].row.address = v[j].row.address → v[i].row.streamNumber ≠ v[j].row.streamNumber) ∧
    ∀ (i j : Fin 16) (p q : Fin 12) (m : Fin 38), v[i].damaged = false → v[j].damaged = false →
      v[i].row.map[p] = some m → v[j].row.map[q] = some m → i = j ∧ p = q := by
  unfold streamLaw
  dsimp only
  rw [Bool.and_eq_true, decide_eq_true_eq, decide_eq_true_eq, tags_nodup_iff, inputs_nodup_iff]

/-! ## The Stream Table (R1 to R4) -/

theorem configured_iff {h : Held StreamRow} : configured h = true ↔ h.row.inUse = true ∧ h.damaged = false := by
  unfold configured
  rw [Bool.and_eq_true, Bool.not_eq_true']

theorem fed_iff {t : Tables} {m : Fin 38} : fed t m = true ↔ ∃ (i : Fin 16) (j : Fin 12),
    t.stream[i].row.inUse = true ∧ t.stream[i].damaged = false ∧ t.stream[i].row.map[j] = some m := by
  unfold fed configured
  simp only [List.any_eq_true, Vector.mem_toList_iff, Bool.and_eq_true, Bool.not_eq_true', List.contains_iff_mem,
    mem_mappedInputs]
  refine ⟨fun ⟨x, hx, ⟨huse, hdam⟩, j, hj⟩ => ?_, fun ⟨i, j, huse, hdam, hj⟩ =>
    ⟨t.stream[i], Vector.getElem_mem i.isLt, ⟨huse, hdam⟩, j, hj⟩⟩
  obtain ⟨i, hi, rfl⟩ := Vector.mem_iff_getElem.1 hx
  exact ⟨⟨i, hi⟩, j, huse, hdam, hj⟩

theorem rowHeld_iff {i : Fin 16} {s : State} : rowHeld i s = true ↔ s.acceptance.streams[i].status = .running ∧
    ∃ (j : Fin 12) (k : Fin 8) (n : Fin 4), s.memory.tables.stream[i].row.map[j] = some (stepInput k n) ∧
      s.stepState k ≠ .withdrawn := by
  unfold rowHeld
  simp only [Bool.and_eq_true, decide_eq_true_eq, List.any_eq_true, mem_mappedInputs]
  refine and_congr_right' ⟨fun ⟨m, ⟨j, hj⟩, hm⟩ => ?_, fun ⟨j, k, n, hj, hk⟩ => ⟨stepInput k n, ⟨j, hj⟩, ?_⟩⟩
  · split at hm
    · next k n hstep => exact ⟨j, k, n, hj.trans (congrArg some (inputStep_eq_some.1 hstep)), of_decide_eq_true hm⟩
    · cases hm
  · rw [inputStep_eq_some.2 rfl]
    exact decide_eq_true hk

theorem streamChanged_iff {old : Held StreamRow} {new : StreamRow} : streamChanged old new = true ↔
    ¬ (old.damaged = false ∧ old.row.inUse = new.inUse ∧ old.row.address = new.address ∧
      old.row.streamNumber = new.streamNumber ∧ old.row.channelCount = new.channelCount ∧ old.row.map = new.map) := by
  unfold streamChanged
  grind

theorem mapEntryOk_iff {count : Int} {j : Nat} {e : Option Int} : mapEntryOk count j e = true ↔
    ∀ m : Int, e = some m → (j : Int) < count ∧ 0 ≤ m ∧ m ≤ 37 := by
  cases e with
  | none => exact iff_of_true rfl nofun
  | some m =>
    simp only [mapEntryOk, Bool.and_eq_true, decide_eq_true_eq, within_iff, Option.some.injEq, forall_eq']
    rfl

theorem streamFieldsOk_iff {r : RawStream} : streamFieldsOk r = true ↔
    (r.inUse = 1 ∨ r.inUse = 2) ∧ (0 ≤ r.streamNumber ∧ r.streamNumber ≤ 65535) ∧
      (1 ≤ r.channelCount ∧ r.channelCount ≤ 12) ∧ (r.acceptSimulated = 1 ∨ r.acceptSimulated = 2) ∧
      ∀ (j : Fin 12) (m : Int), r.map[j] = some m → (j.val : Int) < r.channelCount ∧ 0 ≤ m ∧ m ≤ 37 := by
  simp only [streamFieldsOk, Bool.and_eq_true, within_iff, List.all_eq_true, mapEntryOk_iff, allPositions,
    List.mem_finRange, forall_const]
  grind

end Sys2Proof.Machine


namespace Sys2Proof.Machine

/-! ## Writes of the Stream Table and the Breaker Unit Table as wholes (R2 to R4, R134) -/

/-- The checks of R2 in order, and what a write that passes them leaves. -/
theorem writeStream_eq {first : Nat} {raws : List RawStream} {placed : List (Fin 16 × RawStream)}
    {v : Vector (Held StreamRow) 16} {s : State}
    (hplace : placed.map (fun x => x.1.val) = List.range' first raws.length) (hrows : placed.map Prod.snd = raws)
    (hput : ∀ x ∈ placed, v[x.1] = Held.fresh (streamTaken x.2).1)
    (hkeep : ∀ i, (∀ x ∈ placed, x.1 ≠ i) → v[i] = s.memory.tables.stream[i]) : writeStream first raws s =
    if ∀ r ∈ raws, streamFieldsOk r = true then
      if ∃ x ∈ placed, rowHeld x.1 s = true then .error .stepInService
      else if streamLaw v then
        .ok (raws.any fun r => (streamTaken r).2, placed.foldl
          (fun u x => streamRewritten x.1 s.memory.tables.stream[x.1] u) (s.putTables { s.memory.tables with stream := v }))
      else .error .duplicate
    else .error .range := by
  have hclamped : anyClamped (placed.map fun x => (x.1, streamTaken x.2)) = raws.any fun r => (streamTaken r).2 := by
    rw [Bool.eq_iff_iff, anyClamped_iff, List.any_eq_true]
    exact exists_raw_iff hrows (p := fun r => (streamTaken r).2 = true)
  have hheld : ((placed.map fun x => (x.1, streamTaken x.2)).all fun x => !rowHeld x.1 s) = true ↔
      ¬ ∃ x ∈ placed, rowHeld x.1 s = true := by
    rw [List.all_map, List.all_eq_true]
    simp only [Function.comp_apply, Bool.not_eq_true', not_exists, not_and, Bool.not_eq_true]
  unfold writeStream
  rw [placeRows_eq hplace hrows]
  dsimp only
  rw [putRows_eq hplace hput hkeep, hclamped, List.foldl_map]
  refine Eq.trans (answer_eq_elim _ _) ?_
  simp only [elim_firstRefusal_cons, hheld, List.all_eq_true, ite_not]
  rfl

theorem addressFree_iff {s : State} {i : Fin 9} {x : Taken UnitRow} : addressFree s (i, x) = true ↔
    ¬ ((s.unitRow i).address ≠ x.1.address ∧
      (s.commands[i].context.state = .sending ∨ s.commands[i].context.state = .awaitingMove)) := by
  unfold addressFree CommandContext.inFlight
  grind

/-- The checks of R134 in order, and what a write that passes them leaves. -/
theorem writeUnit_eq {first : Nat} {raws : List RawUnit} {placed : List (Fin 9 × RawUnit)}
    {v : Vector (Held UnitRow) 9} {s : State}
    (hplace : placed.map (fun x => x.1.val) = List.range' first raws.length) (hrows : placed.map Prod.snd = raws)
    (hput : ∀ x ∈ placed, v[x.1] = Held.fresh (unitTaken x.2).1)
    (hkeep : ∀ i, (∀ x ∈ placed, x.1 ≠ i) → v[i] = s.memory.tables.unit[i]) : writeUnit first raws s =
    if ∃ x ∈ placed, ¬ addressFree s (x.1, unitTaken x.2) = true then .error .unitBusy
    else if unitLaw v then
      .ok (raws.any fun r => (unitTaken r).2, placed.foldl
        (fun u x => unitRewritten x.1 s.memory.tables.unit[x.1] u) (s.putTables { s.memory.tables with unit := v }))
    else .error .duplicate := by
  have hclamped : anyClamped (placed.map fun x => (x.1, unitTaken x.2)) = raws.any fun r => (unitTaken r).2 := by
    rw [Bool.eq_iff_iff, anyClamped_iff, List.any_eq_true]
    exact exists_raw_iff hrows (p := fun r => (unitTaken r).2 = true)
  have hfree : (placed.map fun x => (x.1, unitTaken x.2)).all (addressFree s) = true ↔
      ¬ ∃ x ∈ placed, ¬ addressFree s (x.1, unitTaken x.2) = true := by
    rw [List.all_map, List.all_eq_true]
    simp only [Function.comp_apply, not_exists, not_and, not_not]
  unfold writeUnit
  rw [placeRows_eq hplace hrows]
  dsimp only
  rw [putRows_eq hplace hput hkeep, hclamped, List.foldl_map]
  refine Eq.trans (answer_eq_elim _ _) ?_
  simp only [elim_firstRefusal_cons, hfree, ite_not]
  rfl

theorem unitTaken_clamped_iff {r : RawUnit} : (unitTaken r).2 = true ↔
    ¬ (within 1 20 r.retry = true ∧ within 1 16 r.attempts = true ∧ within 20 500 r.operateTime = true ∧
      within 100 5000 r.statusTimeout = true) := by
  unfold unitTaken clamps
  grind

end Sys2Proof.Machine


namespace Sys2Proof.Machine

/-! ## The Step Table (R56, R57, R74, R91) -/

theorem flagOf_isSome {n : Nat} : (flagOf n).isSome = true ↔ n = 1 ∨ n = 2 := by
  unfold flagOf
  grind

theorem flagOf_ne {n : Nat} {b : Bool} : flagOf n ≠ some b ↔ n ≠ if b then 2 else 1 := by
  unfold flagOf
  cases b <;> grind

theorem compModeOf_isSome {n : Nat} : (compModeOf n).isSome = true ↔ 1 ≤ (n : Int) ∧ (n : Int) ≤ 3 := by
  unfold compModeOf
  grind

theorem compModeOf_getD (n : Nat) : (compModeOf n).getD .none = if n = 2 then .auto else if n = 3 then .manual else .none := by
  unfold compModeOf
  grind

theorem kOk_iff {k : Int} : kOk k = true ↔ -100000 ≤ k ∧ k ≤ 100000 := by
  unfold kOk
  rw [Bool.and_eq_true, decide_eq_true_eq, decide_eq_true_eq]
  rfl

theorem stepFieldsOk_iff {r : RawStep} : stepFieldsOk r = true ↔
    (-100000 ≤ r.kr ∧ r.kr ≤ 100000) ∧ (-100000 ≤ r.ki ∧ r.ki ≤ 100000) ∧ (1 ≤ (r.compMode : Int) ∧ (r.compMode : Int) ≤ 3) ∧
      (r.inUse = 1 ∨ r.inUse = 2) ∧ (r.neutralPresent = 1 ∨ r.neutralPresent = 2) := by
  simp only [stepFieldsOk, Bool.and_eq_true, kOk_iff, compModeOf_isSome, flagOf_isSome, and_assoc]

theorem structuralChange_iff {old : StepRow} {r : RawStep} : structuralChange old r = true ↔
    r.inUse ≠ (if old.inUse then 2 else 1) ∨ r.neutralPresent ≠ (if old.neutralPresent then 2 else 1) ∨
      r.rated ≠ old.rated := by
  unfold structuralChange
  rw [Bool.or_eq_true, Bool.or_eq_true, decide_eq_true_eq, decide_eq_true_eq, decide_eq_true_eq, flagOf_ne, flagOf_ne, or_assoc]

theorem stepWriteAllowed_iff {i : Fin 8} {r : RawStep} {s : State} : stepWriteAllowed i r s = true ↔
    s.stepState i = .withdrawn ∨
      if s.stepDamaged i = true then s.stepState i = .lockout else ¬ structuralChange (s.stepRow i) r = true := by
  unfold stepWriteAllowed
  cases s.stepDamaged i <;> simp

theorem writesK_iff {old : StepRow} {r : RawStep} : writesK old r = true ↔ r.kr ≠ old.kr ∨ r.ki ≠ old.ki := by
  unfold writesK
  rw [decide_eq_true_eq]

theorem heatOrdered_iff {row : StepRow} : heatOrdered row = true ↔
    row.heatAlarm < row.heatTrip ∧ row.heatReclose < row.heatAlarm ∧ row.opsBase < row.opsLimit := by
  simp only [heatOrdered, Bool.and_eq_true, decide_eq_true_eq, and_assoc]

theorem stepClamped_iff {r : RawStep} : stepClamped r = true ↔
    ¬ (within 1 100000 r.alarmLevel = true ∧ within 1 100000 r.tripLevel = true ∧ within 1 3000 r.alarmDelay = true ∧
      within 1 3000 r.tripDelay = true ∧ within 6 16 r.thermalCode = true ∧ within 0 16769025 r.heatAlarm = true ∧
      within 0 16769025 r.heatTrip = true ∧ within 0 16769025 r.heatReclose = true ∧ within 60 900 r.dischargeTime = true ∧
      within 1 15 r.opsLimit = true ∧ within 0 14 r.opsBase = true ∧ within 1 120 r.decayPeriod = true) := by
  unfold stepClamped clamps
  grind

/-- The checks of R91, R56 and R74 in order, and what a write that passes them leaves. -/
theorem writeStep_eq {first : Nat} {raws : List RawStep} {placed : List (Fin 8 × RawStep)} {v : Vector (Held StepRow) 8}
    {s : State} (hplace : placed.map (fun x => x.1.val) = List.range' first raws.length) (hrows : placed.map Prod.snd = raws)
    (hput : ∀ x ∈ placed, v[x.1] = Held.fresh (stepTaken (s.stepRow x.1) x.2))
    (hkeep : ∀ i, (∀ x ∈ placed, x.1 ≠ i) → v[i] = s.memory.tables.step[i]) : writeStep first raws s =
    if ∀ x ∈ placed, stepWriteAllowed x.1 x.2 s = true then
      if ∀ x ∈ placed, stepFieldsOk x.2 = true then
        if ∀ x ∈ placed, unbalanceOrdered (stepTaken (s.stepRow x.1) x.2) = true then
          if ∀ x ∈ placed, within 1 8388607 x.2.rated = true then
            if ∀ x ∈ placed, heatOrdered (stepTaken (s.stepRow x.1) x.2) = true then
              .ok (raws.any stepClamped, placed.foldl (fun u x => stepRewritten s.memory.tables.step[x.1].row x.1 u)
                (s.putTables { s.memory.tables with step := v }))
            else .error .order
          else .error .range
        else .error .order
      else .error .range
    else .error .stepInService := by
  have hclamped : anyClamped (placed.map fun x => (x.1, (stepTaken (s.stepRow x.1) x.2, stepClamped x.2))) =
      raws.any stepClamped := by
    rw [Bool.eq_iff_iff, anyClamped_iff, List.any_eq_true]
    exact exists_raw_iff hrows (p := fun r => stepClamped r = true)
  have hall (p : Fin 8 × RawStep → Bool) : placed.all p = true ↔ ∀ x ∈ placed, p x = true := List.all_eq_true
  unfold writeStep stepChecks
  rw [placeRows_eq hplace hrows]
  dsimp only
  rw [putRows_eq (row := fun x => (stepTaken (s.stepRow x.1) x.2, stepClamped x.2)) hplace hput hkeep, hclamped,
    List.foldl_map, List.all_map, List.all_map]
  simp only [← hall]
  refine Eq.trans (answer_eq_elim _ _) ?_
  simp only [elim_firstRefusal_cons]
  rfl

end Sys2Proof.Machine


namespace Sys2Proof.Machine

/-! ## The table laws over the rows that have gone DAMAGED (R2, R134) -/

/-- A row as it may come to stand without a write: its content, or DAMAGED. -/
def Fades {α : Type} (a b : Held α) : Prop := b.damaged = true ∨ (a.damaged = false ∧ a.row = b.row)

section
variable {α : Type} {n : Nat} {a b c : Held α} {u v w : Vector (Held α) n} {f : Held α → Held α}

theorem Fades.refl (a : Held α) : Fades a a := by
  unfold Fades
  cases a.damaged <;> simp

theorem Fades.trans (h₁ : Fades a b) (h₂ : Fades b c) : Fades a c := by
  rcases h₂ with hc | ⟨hb, hrow⟩
  · exact .inl hc
  · rcases h₁ with hb' | ⟨ha, hrow'⟩
    · exact absurd hb' (ne_true_of_eq_false hb)
    · exact .inr ⟨ha, hrow'.trans hrow⟩

theorem Fades.whole (h : Fades a b) (hb : b.damaged = false) : a.damaged = false ∧ a.row = b.row :=
  h.resolve_left (ne_true_of_eq_false hb)

theorem correct_fades (a : Held α) : Fades a a.correct := Fades.refl a

theorem fail_fades (a : Held α) : Fades a a.fail := .inl rfl

theorem strike_fades (double : Bool) (x : α) (a : Held α) : Fades a (a.strike double x) := by
  unfold Held.strike
  split
  · next h => exact .inl h
  · next h =>
    have ha : a.damaged = false := Bool.not_eq_true _ ▸ h
    split <;> exact .inr ⟨ha, rfl⟩

theorem RowsAgree.refl (v : Vector (Held α) n) : RowsAgree v v := fun i => Fades.refl v[i]

theorem RowsAgree.trans (h₁ : RowsAgree u v) (h₂ : RowsAgree v w) : RowsAgree u w := fun i => Fades.trans (h₁ i) (h₂ i)

theorem upd_agrees (hf : ∀ a, Fades a (f a)) (v : Vector (Held α) n) (i : Fin n) : RowsAgree v (upd v i f) := by
  intro j
  by_cases hij : j = i
  · subst hij
    unfold upd
    rw [set_same]
    exact hf _
  · unfold upd
    rw [set_other v hij]
    exact Fades.refl v[j]

end

theorem streamLaw_agrees {v w : Vector (Held StreamRow) 16} (h : RowsAgree v w) (hv : streamLaw v = true) : streamLaw w = true := by
  obtain ⟨htags, hinputs⟩ := streamLaw_iff.1 hv
  refine streamLaw_iff.2 ⟨fun i j hij hi hj hui huj haddr => ?_, fun i j p q m hi hj hp hq => ?_⟩
  · obtain ⟨hvi, hri⟩ := Fades.whole (h i) hi
    obtain ⟨hvj, hrj⟩ := Fades.whole (h j) hj
    have hv := htags i j hij hvi hvj
    rw [hri, hrj] at hv
    exact hv hui huj haddr
  · obtain ⟨hvi, hri⟩ := Fades.whole (h i) hi
    obtain ⟨hvj, hrj⟩ := Fades.whole (h j) hj
    have hv := hinputs i j p q m hvi hvj
    rw [hri, hrj] at hv
    exact hv hp hq

theorem unitLaw_agrees {v w : Vector (Held UnitRow) 9} (h : RowsAgree v w) (hv : unitLaw v = true) : unitLaw w = true := by
  refine unitLaw_iff.2 fun i j hij hi hj => ?_
  obtain ⟨hvi, hri⟩ := Fades.whole (h i) hi
  obtain ⟨hvj, hrj⟩ := Fades.whole (h j) hj
  have hv := unitLaw_iff.1 hv i j hij hvi hvj
  rw [hri, hrj] at hv
  exact hv

/-- Tables whose streams and units have gone DAMAGED at most. -/
def TablesFade (t t' : Tables) : Prop := RowsAgree t.stream t'.stream ∧ RowsAgree t.unit t'.unit

/-- The table laws of R2 and R134. -/
def TablesLaw (t : Tables) : Prop := streamLaw t.stream = true ∧ unitLaw t.unit = true

theorem TablesFade.refl (t : Tables) : TablesFade t t := ⟨.refl _, .refl _⟩

theorem TablesFade.trans {t t' t'' : Tables} (h₁ : TablesFade t t') (h₂ : TablesFade t' t'') : TablesFade t t'' :=
  ⟨h₁.1.trans h₂.1, h₁.2.trans h₂.2⟩

theorem TablesFade.law {t t' : Tables} (h : TablesFade t t') (ht : TablesLaw t) : TablesLaw t' :=
  ⟨streamLaw_agrees h.1 ht.1, unitLaw_agrees h.2 ht.2⟩

theorem mapAt_fades {f : {α : Type} → Held α → Held α} (hf : ∀ {α : Type} (a : Held α), Fades a (f a)) (t : Tables)
    (r : RowRef) : TablesFade t (t.mapAt r f) := by
  cases r with
  | stream i => exact ⟨upd_agrees hf _ i, .refl _⟩
  | unit i => exact ⟨.refl _, upd_agrees hf _ i⟩
  | input | step | harmonic | resonance | yard | link => exact .refl _

theorem strikeAt_fades (t : Tables) (x : Strike) : TablesFade t (t.strikeAt x) := by
  unfold Tables.strikeAt
  split
  case h_1 i c _ _ => exact ⟨upd_agrees (strike_fades x.double c) _ i, .refl _⟩
  case h_7 i c _ _ => exact ⟨.refl _, upd_agrees (strike_fades x.double c) _ i⟩
  all_goals exact .refl _

theorem strikes_fade (xs : List Strike) (t : Tables) : TablesFade t (xs.foldl Tables.strikeAt t) := by
  induction xs generalizing t with
  | nil => exact .refl t
  | cons x xs ih => exact (strikeAt_fades t x).trans (ih _)

/-! ### The image as a STORE will leave it (R167) -/

section
variable {src dst : Tables} {rs : List RowRef}

theorem copyRow_stream (src dst : Tables) (r : RowRef) (i : Fin 16) :
    (src.copyRow dst r).stream[i] = if r = .stream i then src.stream[i] else dst.stream[i] := by
  cases r with
  | stream j =>
    unfold Tables.copyRow
    by_cases hij : i = j
    · subst hij
      rw [if_pos rfl]
      exact set_same _ _ _
    · rw [if_neg fun h => hij (RowRef.stream.inj h).symm]
      exact set_other _ hij _
  | input | step | harmonic | resonance | yard | unit | link => exact (if_neg nofun).symm

theorem copyRow_unit (src dst : Tables) (r : RowRef) (i : Fin 9) :
    (src.copyRow dst r).unit[i] = if r = .unit i then src.unit[i] else dst.unit[i] := by
  cases r with
  | unit j =>
    unfold Tables.copyRow
    by_cases hij : i = j
    · subst hij
      rw [if_pos rfl]
      exact set_same _ _ _
    · rw [if_neg fun h => hij (RowRef.unit.inj h).symm]
      exact set_other _ hij _
  | input | step | harmonic | resonance | yard | stream | link => exact (if_neg nofun).symm

theorem copyRows_stream (src dst : Tables) (rs : List RowRef) (i : Fin 16) :
    (rs.foldl src.copyRow dst).stream[i] = if .stream i ∈ rs then src.stream[i] else dst.stream[i] := by
  induction rs generalizing dst with
  | nil => rfl
  | cons r rs ih =>
    rw [List.foldl_cons, ih, copyRow_stream]
    grind

theorem copyRows_unit (src dst : Tables) (rs : List RowRef) (i : Fin 9) :
    (rs.foldl src.copyRow dst).unit[i] = if .unit i ∈ rs then src.unit[i] else dst.unit[i] := by
  induction rs generalizing dst with
  | nil => rfl
  | cons r rs ih =>
    rw [List.foldl_cons, ih, copyRow_unit]
    grind

/-- Rows that fade behind a copy fade in it, where they are still to be copied. -/
theorem copyRows_fades {src' : Tables} (h : TablesFade src src') (dst : Tables) (rs : List RowRef) :
    TablesFade (rs.foldl src.copyRow dst) (rs.foldl src'.copyRow dst) := by
  refine ⟨fun i => ?_, fun i => ?_⟩
  · rw [copyRows_stream, copyRows_stream]
    split
    · exact h.1 i
    · exact Fades.refl _
  · rw [copyRows_unit, copyRows_unit]
    split
    · exact h.2 i
    · exact Fades.refl _

/-- What agrees with the copied rows goes on to, whatever fades of those still to be copied. -/
theorem copied_fades {src' : Tables} (h : TablesFade src src') (hcopy : TablesFade (rs.foldl src.copyRow dst) src) :
    TablesFade (rs.foldl src'.copyRow dst) src' := by
  refine ⟨fun i => ?_, fun i => ?_⟩
  · have hs : Fades _ _ := hcopy.1 i
    rw [copyRows_stream] at hs ⊢
    by_cases hin : .stream i ∈ rs
    · rw [if_pos hin]
      exact Fades.refl _
    · rw [if_neg hin] at hs ⊢
      exact hs.trans (h.1 i)
  · have hu : Fades _ _ := hcopy.2 i
    rw [copyRows_unit] at hu ⊢
    by_cases hin : .unit i ∈ rs
    · rw [if_pos hin]
      exact Fades.refl _
    · rw [if_neg hin] at hu ⊢
      exact hu.trans (h.2 i)

end

/-- The image as a STORE will leave it, with the rows that are left copied as they stand. -/
def MemoryState.whole (m : MemoryState) : Tables :=
  (allRows.drop m.copied).foldl m.tables.copyRow (m.image.getD Tables.defaults)

/-- The table laws of the tables and the image. -/
def MemoryOk (m : MemoryState) : Prop :=
  TablesLaw m.tables ∧ (m.imageValid = true → ∀ t, m.image = some t → TablesLaw t) ∧
    (m.storing = true → m.imageValid = false ∧ TablesLaw m.whole ∧ TablesFade m.whole m.tables)

theorem tablesOk_iff {s : State} : TablesOk s ↔ (s.phase ≠ .running → s.memory.storing = false) ∧ MemoryOk s.memory := by
  unfold TablesOk MemoryOk TablesLaw TablesFade MemoryState.whole
  simp only [and_assoc]

theorem MemoryOk.fade {m m' : MemoryState} (h : MemoryOk m) (hst : SameStore m m') (hfade : TablesFade m.tables m'.tables) :
    MemoryOk m' := by
  obtain ⟨hlaw, himage, hstore⟩ := h
  refine ⟨hfade.law hlaw, ?_, fun hstoring => ?_⟩
  · rw [hst.imageValid, hst.image]
    exact himage
  · obtain ⟨hinvalid, hwhole, hagree⟩ := hstore (hst.storing ▸ hstoring)
    unfold MemoryState.whole at hwhole hagree ⊢
    rw [hst.imageValid, hst.copied, hst.image]
    exact ⟨hinvalid, (copyRows_fades hfade _ _).law hwhole, copied_fades hfade hagree⟩

theorem MemoryMove.memoryOk {m m' : MemoryState} (hmove : MemoryMove m m') (h : MemoryOk m) : MemoryOk m' := by
  have hst := hmove.sameStore
  cases hmove with
  | figures _ ht => exact h.fade hst (ht ▸ .refl _)
  | correct r n => exact h.fade hst (mapAt_fades correct_fades _ r)
  | fail r n => exact h.fade hst (mapAt_fades fail_fades _ r)
  | strike xs => exact h.fade hst (strikes_fade xs _)
  | null v => exact h.fade hst (.refl _)
  | write t hs hstream hunit =>
    obtain ⟨hlaw, himage, -⟩ := h
    refine ⟨⟨?_, ?_⟩, himage, fun hstoring => absurd hstoring (ne_true_of_eq_false hs)⟩
    · rcases hstream with heq | hlaw'
      · exact heq ▸ hlaw.1
      · exact hlaw'
    · rcases hunit with heq | hlaw'
      · exact heq ▸ hlaw.2
      · exact hlaw'

/-! ### Every turn keeps them -/

section
variable {s t : State}

theorem Move.memoryOk (hmove : Move s t) (h : MemoryOk s.memory) : MemoryOk t.memory := by
  rcases hmove.memory_eq with heq | hm
  · exact heq ▸ h
  · exact hm.memoryOk h

theorem Moves.memoryOk (hmoves : Moves s t) (h : MemoryOk s.memory) : MemoryOk t.memory := by
  induction hmoves with
  | refl => exact h
  | tail _ hmove ih => exact hmove.memoryOk ih

/-- Where no row has been copied yet, a STORE will copy them all. -/
theorem whole_uncopied {m : MemoryState} (h : m.copied = 0) : TablesFade m.tables m.whole ∧ TablesFade m.whole m.tables := by
  have hstream : m.whole.stream = m.tables.stream := Vector.ext fun i hi => by
    rw [MemoryState.whole, h, List.drop_zero]
    exact (copyRows_stream m.tables _ allRows ⟨i, hi⟩).trans (if_pos (mem_allRows _))
  have hunit : m.whole.unit = m.tables.unit := Vector.ext fun i hi => by
    rw [MemoryState.whole, h, List.drop_zero]
    exact (copyRows_unit m.tables _ allRows ⟨i, hi⟩).trans (if_pos (mem_allRows _))
  unfold TablesFade
  rw [hstream, hunit]
  exact ⟨⟨.refl _, .refl _⟩, .refl _, .refl _⟩

theorem beginStore_memoryOk (h : MemoryOk s.memory) : MemoryOk (beginStore s).memory := by
  obtain ⟨hlaw, -, -⟩ := h
  unfold beginStore
  rw [State.updMemory_memory]
  obtain ⟨hfrom, hto⟩ := whole_uncopied (m := { s.memory with storing := true, copied := 0, imageValid := false }) rfl
  exact ⟨hlaw, nofun, fun _ => ⟨rfl, hfrom.law hlaw, hto⟩⟩

/-- The row that a STORE copies next is the first of those that are left. -/
theorem whole_copy {m : MemoryState} {r : RowRef} (hr : allRows[m.copied]? = some r) :
    ({ m with copied := m.copied + 1, image := some (m.tables.copyRow (m.image.getD Tables.defaults) r) } : MemoryState).whole =
      m.whole := by
  obtain ⟨hlt, hget⟩ := List.getElem?_eq_some_iff.1 hr
  unfold MemoryState.whole
  rw [List.drop_eq_getElem_cons hlt, List.foldl_cons, hget]
  rfl

theorem Turn.memoryOk (hturn : Turn s t) (h : MemoryOk s.memory) : MemoryOk t.memory := by
  cases hturn with
  | move hmove => exact hmove.memoryOk h
  | beginStore => exact beginStore_memoryOk h
  | copy r _ hs hr =>
    obtain ⟨hlaw, -, hstore⟩ := h
    obtain ⟨hinvalid, hwhole⟩ := hstore hs
    refine ⟨hlaw, fun hvalid => absurd hvalid (ne_true_of_eq_false hinvalid), fun _ => ⟨hinvalid, ?_⟩⟩
    rw [State.updMemory_memory, whole_copy hr]
    exact hwhole
  | endStore v _ hs hc =>
    obtain ⟨hlaw, -, hstore⟩ := h
    obtain ⟨-, hwhole, -⟩ := hstore hs
    refine ⟨hlaw, fun _ image himage => ?_, nofun⟩
    have heq : s.memory.whole = image := by
      unfold MemoryState.whole
      rw [List.drop_eq_nil_of_le hc]
      exact congrArg (Option.getD · Tables.defaults) himage
    exact heq ▸ hwhole
  | operate k u _ r hspare hr =>
    have henqueued : (enqueue k (.manual u) (makeRoom r)).memory = (makeRoom r).memory :=
      (enqueue_sameBut _ _ _).same .memory (by simp)
    rw [henqueued]
    exact ((makeRoom_moves (s := r) .refl).memoryOk (hr.memoryOk h))

theorem Turns.memoryOk (hturns : Turns s t) (h : MemoryOk s.memory) : MemoryOk t.memory := by
  induction hturns with
  | refl => exact h
  | tail _ hturn ih => exact hturn.memoryOk ih

theorem atReset_memoryOk (k : ResetKind) {m : MemoryState} (h : MemoryOk m) : MemoryOk (m.atReset k) := by
  obtain ⟨hlaw, himage, -⟩ := h
  refine ⟨hlaw, fun hvalid => himage ?_, nofun⟩
  exact (Bool.and_eq_true_iff.1 hvalid).1

theorem defaults_law : TablesLaw Tables.defaults := ⟨by decide, by decide⟩

/-- Start-up takes the rows of a VALID image, some of which it finds DAMAGED, or the Defaults. -/
theorem loadTables_memoryOk (xs : List Strike) (h : MemoryOk s.memory) (hs : s.memory.storing = false) :
    MemoryOk (loadTables xs s).memory := by
  obtain ⟨hlaw, himage, -⟩ := h
  unfold loadTables
  split
  · next t hvalid ht =>
    have hput : MemoryOk (s.updMemory fun m => { m with tables := t, storeInvalid := false }).memory :=
      ⟨himage hvalid t ht, himage, fun hstoring => absurd hstoring (ne_true_of_eq_false hs)⟩
    exact (foldl_moves (fun _ _ => loadRow_moves) (strikeRows_moves .refl)).memoryOk hput
  · exact ⟨defaults_law, himage, fun hstoring => absurd hstoring (ne_true_of_eq_false hs)⟩

theorem Ran.memoryOk {c : Instr} (hran : Ran c s t) (hs : s.phase ≠ .running → s.memory.storing = false) (h : MemoryOk s.memory) :
    MemoryOk t.memory := by
  cases hran with
  | turns hturns => exact hturns.memoryOk h
  | @report a _ r hc ha ht =>
    refine ht.memoryOk ?_
    have hmoved := ha.memoryOk ((dropMail_moves (m := c) .refl).memoryOk h)
    split
    · exact ((releaseSlot_sameBut _ _).same .memory (by simp)).symm ▸ hmoved
    · exact hmoved
  | reset k hu => exact atReset_memoryOk k (hu.memoryOk h)
  | startUp k xs hk =>
    rw [startUp_memory]
    exact loadTables_memoryOk xs h (hs (hk ▸ nofun))

theorem exec_memoryOk {c : Instr} (hexec : exec c s = .next t) (hs : s.phase ≠ .running → s.memory.storing = false)
    (h : MemoryOk s.memory) : MemoryOk t.memory := by
  obtain ⟨u, hu, hran⟩ := exec_ran c s
  cases hu.symm.trans hexec
  exact hran.memoryOk hs h

theorem step_memoryOk (hstep : step s = .next t) (hs : s.phase ≠ .running → s.memory.storing = false)
    (h : MemoryOk s.memory) : MemoryOk t.memory := by
  unfold step at hstep
  split at hstep
  next c rest _ => exact exec_memoryOk (s := { s with pending := rest }) hstep hs h
  next =>
    unfold idle at hstep
    split at hstep
    next => cases hstep; exact h
    next =>
      split at hstep
      next => exact exec_memoryOk hstep hs h
      next =>
        split at hstep
        next => exact exec_memoryOk hstep hs h
        next =>
          cases hstep
          exact (Move.tick s).memoryOk h

/-- R2, R134: every step keeps the table laws. -/
theorem step_tablesOk (h : TablesOk s) (hstep : step s = .next t) : TablesOk t := by
  obtain ⟨hphase, hmemory⟩ := tablesOk_iff.1 h
  refine tablesOk_iff.2 ⟨fun ht => ?_, step_memoryOk hstep hphase hmemory⟩
  rcases step_inReset hstep ht with ⟨hs, hsame⟩ | ⟨k, u, rfl⟩
  · exact (congrArg MemoryState.storing (hsame.same .memory (by decide))).trans (hphase hs)
  · rfl

end

end Sys2Proof.Machine


namespace Sys2Proof.Machine

/-- Settles O49, table by table; the clause on the table laws through `MemoryOk`. -/
theorem tableWrites : Obligations.TableWrites := by
  refine ⟨?_, ?_, ?_, ?_, ?_, ?_, ?_, ?_, ?_, ?_, ?_, ?_, ?_⟩
  -- the agent's own checks, before a table's (R160)
  · intro q first rows s hs hq c s₀ ends
    have hintact : Intact s₀ := hs.2.of_memory rfl
    have hends {a : Answer} {t : State} (hact : actWriteRows first rows s₀ = (a, t)) : ends a t :=
      exec_answered rfl hs hq hact
    refine ⟨fun h => hends (actWriteRows_unaddressed h), fun h => ?_⟩
    have hact := actWriteRows_addressed h hintact
    refine ⟨fun hlock => hends (hact.trans (if_pos hlock)), fun hlock hstore => ?_, fun hlock hstore => ?_⟩
    · exact hends (hact.trans ((if_neg (ne_true_of_eq_false hlock)).trans (if_pos hstore)))
    · have hwrite := hact.trans ((if_neg (ne_true_of_eq_false hlock)).trans (if_neg (ne_true_of_eq_false hstore)))
      exact ⟨fun x hx => hends (by rw [hwrite, hx]), fun clamped u hu => hends (by rw [hwrite, hu])⟩
  -- the Yard Table (R113, R114)
  · intro r s fields level delay dead inRange exact row
    have hrow (h : fields) : yardTaken r = row := by
      simp only [yardTaken, clampTo_eq, startModeOf_getD h.2.2.2, Nat.one_le_ofNat, Nat.zero_le, Nat.reduceLeDiff]
      rfl
    have hwrite (h : fields) : writeTable 0 (.yard [r]) s = _ :=
      (writeYardRow_eq r s).trans (if_pos (yardFieldsOk_iff.2 h))
    refine ⟨fun h => (writeYardRow_eq r s).trans (if_neg fun hok => h (yardFieldsOk_iff.1 hok)), fun h hband => ?_,
      fun h hband hdead => ?_, fun h hband hdead => ⟨yardClamped r, ?_, ?_⟩⟩
    · rw [hwrite h, hrow h, if_neg (Nat.not_lt.2 hband)]
    · rw [hwrite h, hrow h, if_pos hband, if_neg (Nat.not_lt.2 hdead)]
    · simp only [yardClamped_iff, within_iff]
      rfl
    · rw [hwrite h, hrow h, if_pos hband, if_pos hdead]
      rfl
  -- the Stream Table's checks (R2, R3)
  · intro first raws placed v s t inRange entry row fields held law hplace hrows hput hkeep
    have htaken (r : RawStream) : (streamTaken r).1 = row r := by
      simp only [streamTaken, clampTo_eq, Nat.reduceLeDiff]
      rfl
    have hput' : ∀ x ∈ placed, v[x.1] = Held.fresh (streamTaken x.2).1 := fun x hx =>
      (hput x hx).trans (congrArg Held.fresh (htaken x.2).symm)
    have hwrite : writeTable first (.stream raws) s = _ := writeStream_eq hplace hrows hput' hkeep
    have hfields : (∀ r ∈ raws, streamFieldsOk r = true) ↔ ∀ r ∈ raws, fields r :=
      forall₂_congr fun _ _ => streamFieldsOk_iff
    have hheld : (∃ x ∈ placed, rowHeld x.1 s = true) ↔ ∃ x ∈ placed, held x.1 :=
      exists_congr fun _ => and_congr_right' rowHeld_iff
    have hlaw : streamLaw v = true ↔ law := streamLaw_iff
    refine ⟨fun ⟨r, hr, hbad⟩ => hwrite.trans (if_neg fun h => hbad (hfields.1 h r hr)), fun hgood => ?_⟩
    have hpassed := hwrite.trans (if_pos (hfields.2 hgood))
    refine ⟨fun hin => hpassed.trans (if_pos (hheld.2 hin)), fun hout => ?_⟩
    have hfree := hpassed.trans (if_neg fun h => (hheld.1 h).elim fun x hx => hout x hx.1 hx.2)
    refine ⟨fun h => hfree.trans (if_neg fun hok => h (hlaw.1 hok)), fun h => ⟨_, ?_, hfree.trans (if_pos (hlaw.2 h))⟩⟩
    rw [List.any_eq_true]
    exact exists_congr fun _ => and_congr_right' clamps_iff
  -- a rewritten Stream Table row (R4)
  · intro i old s new kept goes ended
    have hchanged : streamChanged old new.row = true ↔ ¬ kept := streamChanged_iff
    have hwrite : streamRewritten i old s = if streamChanged old new.row then
        if configured new then (mappedInputs new.row).foldl alignInput ended else ended else s := rfl
    refine ⟨fun h => hwrite.trans (if_neg fun hc => hchanged.1 hc h), fun h huse hdam => ?_, fun h hoff => ?_⟩
    · refine (hwrite.trans (if_pos (hchanged.2 h))).trans ((if_pos (configured_iff.2 ⟨huse, hdam⟩)).trans ?_)
      rfl
    · refine (hwrite.trans (if_pos (hchanged.2 h))).trans (if_neg fun hc => ?_)
      obtain ⟨huse, hdam⟩ := configured_iff.1 hc
      exact hoff.elim (fun hno => ne_true_of_eq_false hno huse) (fun hbad => ne_true_of_eq_false hdam hbad)
  -- whether a stream feeds an input (R4)
  · exact fun t m => fed_iff
  -- the Input Table (R5)
  · intro first raws placed v s t fields hplace hrows hput hkeep
    change (_ → writeInput first raws s = _) ∧ (_ → writeInput first raws s = _)
    unfold writeInput
    rw [placeRows_eq hplace hrows]
    refine ⟨fun ⟨x, hx, hbad⟩ => ?_, fun hgood => ?_⟩
    · rw [judgeRows_error_of_mem (judge := judgeInput) (fun _ _ _ h => judgeInput_error_code h) ⟨x, hx, _, judgeInput_error hbad⟩]
    · rw [judgeRows_ok (judge := judgeInput) fun x hx => judgeInput_ok (hgood x hx)]
      dsimp only
      rw [putRows_eq hplace hput hkeep, List.foldl_map]
      simp only [inputRewritten, Bool.and_eq_true]
      rfl
  -- the Step Table (R56, R57, R74, R91)
  · intro first raws placed v s t inRange clamp structural allowed fields exact row ordered rated heatOrd answers all
      hplace hrows hput hkeep allowedAll fieldsAll
    have htaken (x : Fin 8 × RawStep) : stepTaken (s.stepRow x.1) x.2 = row x := by
      simp only [stepTaken, clampTo_eq, Nat.reduceLeDiff, Nat.one_le_ofNat, Nat.zero_le, compModeOf_getD, writesK_iff]
      rfl
    have hput' : ∀ x ∈ placed, v[x.1] = Held.fresh (stepTaken (s.stepRow x.1) x.2) := fun x hx =>
      (hput x hx).trans (congrArg Held.fresh (htaken x).symm)
    have hwrite : writeTable first (.step raws) s = _ := writeStep_eq hplace hrows hput' hkeep
    simp only [htaken] at hwrite
    have hallowed : (∀ x ∈ placed, stepWriteAllowed x.1 x.2 s = true) ↔ allowedAll := forall₂_congr fun x _ => by
      rw [stepWriteAllowed_iff, structuralChange_iff]
      rfl
    have hfields : (∀ x ∈ placed, stepFieldsOk x.2 = true) ↔ fieldsAll := forall₂_congr fun _ _ => stepFieldsOk_iff
    have hordered : (∀ x ∈ placed, unbalanceOrdered (row x) = true) ↔ all ordered :=
      forall₂_congr fun _ _ => decide_eq_true_iff
    have hrated : (∀ x ∈ placed, within 1 8388607 x.2.rated = true) ↔ all rated := forall₂_congr fun _ _ => within_iff
    have hheat : (∀ x ∈ placed, heatOrdered (row x) = true) ↔ all heatOrd := forall₂_congr fun _ _ => heatOrdered_iff
    simp only [hallowed, hfields, hordered, hrated, hheat] at hwrite
    refine ⟨fun h₁ => ?_, fun h₁ h₂ => ?_, fun h₁ h₂ h₃ => ?_, fun h₁ h₂ h₃ h₄ => ?_, fun h₁ h₂ h₃ h₄ h₅ => ?_,
      fun h₁ h₂ h₃ h₄ h₅ => ⟨raws.any stepClamped, ?_, ?_⟩⟩
    · exact hwrite.trans (if_neg h₁)
    · exact hwrite.trans (by rw [if_pos h₁, if_neg h₂])
    · exact hwrite.trans (by rw [if_pos h₁, if_pos h₂, if_neg h₃])
    · exact hwrite.trans (by rw [if_pos h₁, if_pos h₂, if_pos h₃, if_neg h₄])
    · exact hwrite.trans (by rw [if_pos h₁, if_pos h₂, if_pos h₃, if_pos h₄, if_neg h₅])
    · rw [List.any_eq_true]
      simp only [stepClamped_iff, within_iff]
      rfl
    · refine hwrite.trans ?_
      rw [if_pos h₁, if_pos h₂, if_pos h₃, if_pos h₄, if_pos h₅]
      rfl
  -- the Harmonic Limit Table (R39, R41)
  · intro k raws placed v s t inRange clamp row exact hplace hrows hput hkeep
    change (_ → writeHarm k raws s = _) ∧ (_ → ∃ clamped, _ ∧ writeHarm k raws s = _)
    unfold writeHarm
    rw [placeRows_eq hplace hrows]
    refine ⟨fun hbad => ?_, fun hgood => ⟨anyClamped (placed.map fun x => (x.1, harmTaken x.2)), ?_, ?_⟩⟩
    · obtain ⟨x, hx, hbad⟩ := (exists_raw_iff hrows).2 hbad
      rw [judgeRows_error_of_mem (judge := judgeHarm) (fun _ _ _ h => judgeHarm_error_code h) ⟨x, hx, _, judgeHarm_error hbad⟩]
    · rw [anyClamped_iff, exists_raw_iff hrows (p := fun r => (harmTaken r).2 = true)]
      simp only [harmTaken_clamped_iff, within_iff]
      rfl
    · have hput' : ∀ x ∈ placed, v[x.1] = Held.fresh (harmTaken x.2).1 := fun x hx => (hput x hx).trans (by
        simp only [harmTaken, clampTo_eq, Nat.one_le_ofNat]
        rfl)
      rw [judgeRows_ok (judge := judgeHarm) fun x hx => judgeHarm_ok ((forall_raw_iff hrows).2 hgood x hx)]
      dsimp only
      rw [putRows_eq hplace hput' hkeep, List.map_map, List.foldl_map]
      simp only [Function.comp_apply, harmRewritten_eq]
      rfl
  -- the elements of a row (R42, R45)
  · intro i s elements order ended
    have hended : ended = logEnded i s.harmonic.elements := rfl
    refine ⟨createElements_eq i s, ?_⟩
    rw [hended]
    exact removeElements_eq i s
  -- the Resonance Table (R40)
  · intro first raws placed v s t listed good answers hplace hrows hput hkeep
    have hwrite : writeTable first (.resonance raws) s = writeRes first raws s := rfl
    unfold writeRes at hwrite
    rw [placeRows_eq hplace hrows] at hwrite
    refine ⟨fun before r after hsplit hbefore => ?_, fun hgood => ?_⟩
    · have hgood : ∀ x ∈ before, resListed x.orders = true ∧ x.orders.Pairwise (· < ·) := fun x hx =>
        ⟨resListed_iff.2 (hbefore x hx).1, (hbefore x hx).2⟩
      have hrefused {c : Code} (hfail : ∀ i : Fin 9, judgeRes (i, r) = .error c) : answers (.error c) :=
        writeRes_error hplace hrows hsplit hgood hfail
      refine ⟨fun h => hrefused fun i => ?_, fun h hdup => hrefused fun i => ?_, fun h hdistinct horder => hrefused fun i => ?_⟩
      · rw [judgeRes_eq, if_neg fun hok => h (resListed_iff.1 hok)]
      · rw [judgeRes_eq, if_pos (resListed_iff.2 h), if_neg hdup]
      · rw [judgeRes_eq, if_pos (resListed_iff.2 h), if_pos hdistinct, if_neg horder]
    · refine hwrite.trans ?_
      rw [judgeRows_ok (judge := judgeRes) fun x hx =>
        have hx := (forall_raw_iff hrows).2 hgood x hx
        judgeRes_ok (resListed_iff.2 hx.1) hx.2]
      dsimp only
      rw [putRows_eq hplace hput hkeep]
  -- the Breaker Unit Table (R134, R147)
  · intro first raws placed v s t inRange clamp row exact busy law hplace hrows hput hkeep
    have htaken (r : RawUnit) : (unitTaken r).1 = row r := by
      simp only [unitTaken, clampTo_eq, Nat.reduceLeDiff, Nat.one_le_ofNat]
      rfl
    have hput' : ∀ x ∈ placed, v[x.1] = Held.fresh (unitTaken x.2).1 := fun x hx =>
      (hput x hx).trans (congrArg Held.fresh (htaken x.2).symm)
    have hwrite : writeTable first (.unit raws) s = _ := writeUnit_eq hplace hrows hput' hkeep
    have hbusy : (∃ x ∈ placed, ¬ addressFree s (x.1, unitTaken x.2) = true) ↔ ∃ x ∈ placed, busy x :=
      exists_congr fun _ => and_congr_right' (addressFree_iff.not.trans not_not)
    have hlaw : unitLaw v = true ↔ law := unitLaw_iff
    refine ⟨fun h => hwrite.trans (if_pos (hbusy.2 h)), fun hfree => ?_⟩
    have hpassed := hwrite.trans (if_neg fun h => (hbusy.1 h).elim fun x hx => hfree x hx.1 hx.2)
    refine ⟨fun h => hpassed.trans (if_neg fun hok => h (hlaw.1 hok)), fun h => ⟨_, ?_, hpassed.trans (if_pos (hlaw.2 h))⟩⟩
    rw [List.any_eq_true]
    simp only [unitTaken_clamped_iff, within_iff]
    rfl
  -- the Link Table (R155, R156)
  · intro r s fields row
    have hrow : linkTaken r = row := by
      simp only [linkTaken, clampTo_eq, Nat.one_le_ofNat]
      rfl
    have hwrite (h : fields) : writeTable 0 (.link [r]) s = _ :=
      (writeLinkRow_eq r s).trans (if_pos (linkFieldsOk_iff.2 h))
    refine ⟨fun h => (writeLinkRow_eq r s).trans (if_neg fun hok => h (linkFieldsOk_iff.1 hok)), fun h hdup => ?_,
      fun h hdistinct => ⟨_, clamps_iff, ?_⟩⟩
    · rw [hwrite h, if_neg hdup]
    · rw [hwrite h, if_pos hdistinct, hrow]
      rfl
  -- the laws every step keeps (R2, R134)
  · exact fun s t => step_tablesOk

end Sys2Proof.Machine
